-- ==== Sys2Proof/Word.lean ====
section
/-! DEFINITION. The word types of the drive link and the media: a byte, and a byte as the link carries it with its
parity line. Everything that reads or packs bytes stands in Machine/Bytes.lean. -/

namespace Sys2Proof

/-- A byte of a frame, a sector or a table image. -/
abbrev Byte := BitVec 8

/-- A byte as the drive link carries it (R171): bits 7..0 are LD7..LD0 and bit 8 is LDP. -/
abbrev LinkByte := BitVec 9

end Sys2Proof
end

