-- ==== Sys2Proof/Syntax.lean ====
section
/-! DEFINITION. The commands and events of the Iscopa 4120, one constructor of `Instr` for each row of
spec/opcode_table.json, with the operands that the row's rule gives it. -/

namespace Sys2Proof

/-- The two bays. -/
inductive BayId where
  | bayA
  | bayB
  deriving DecidableEq, Repr

/-- The bay field of a frame (R181): bay A, bay B or DEVICE. -/
inductive BayField where
  | bay (b : BayId)
  | device
  deriving DecidableEq, Repr

/-- The direction of the drive link (R171): OUT, the host adapter sends; IN, the part sends. -/
inductive LinkDir where
  | hostSends
  | partSends
  deriving DecidableEq, Repr

/-- What the decoder makes of a data field (R7). -/
inductive EccClass where
  | clean
  | correctable (span : Nat)
  | uncorrectable
  deriving DecidableEq, Repr

/-- The raw levels of one bay's sensor inputs at the end of RESET (R89, R112). -/
structure BayPins where
  cartridgeIn : Bool
  wpProtected : Bool
  lockEngaged : Bool
  buttonDown : Bool
  headsParked : Bool
  deriving DecidableEq, Repr

/-- The levels the part samples at the end of RESET (R192): the straps (BAYS high is two bays), POWER_FAIL, LRST, LDIR,
and the sensors of both bays. -/
structure Pins where
  twoBays : Bool
  autospinHigh : Bool
  powerFail : Bool
  lrst : Bool
  ldir : LinkDir
  bayA : BayPins
  bayB : BayPins
  deriving DecidableEq, Repr

/-- A servo sample as read over the servo bus (R191): the flag byte's two flags, A, B and the track id. -/
structure ServoWord where
  sync : Bool
  indexFlag : Bool
  ampA : Byte
  ampB : Byte
  track : BitVec 16
  deriving DecidableEq, Repr

/-- The bytes of an inbound frame up to the event that ends it, from its header on or, where the row gives the header apart, from
its payload on. `late` says that a WRITE which expected the frame
ended after the frame's first byte was taken (R139, R174). -/
structure Inbound where
  bytes : List LinkByte
  late : Bool
  deriving DecidableEq, Repr

/-- No inbound frame in progress. -/
def Inbound.absent : Inbound := { bytes := [], late := false }

/-- A level of a bay's eject button that its filter has accepted: pressed, or released again (R89). -/
structure ButtonLevel where
  bay : BayId
  pressed : Bool
  deriving DecidableEq, Repr

/-- The commands and events of the part. -/
inductive Instr where
  -- device and link events
  | resetAsserted
  | endOfReset (pins : Pins)
  | powerFailLatch
  | linkReset
  | linkResetRelease
  /-- `inbound` is the inbound frame in progress at the change, if there is one. -/
  | ldirChange (dir : LinkDir) (inbound : Inbound)
  /-- `frame` is the whole frame as received up to the drop of LFRM. -/
  | inboundFrameError (frame : Inbound)
  /-- A DATA-OUT frame with a good header: its bay field, its declared length and the payload received. -/
  | dataOutFrame (target : BayField) (declared : BitVec 16) (payload : Inbound)
  | outboundFrameSent
  /-- `inbound` is the inbound frame that the timer ends; absent when an outbound frame is ended. -/
  | linkTimeout (inbound : Inbound)
  -- commands of the host adapter
  | read (b : BayId) (lba : BitVec 24) (count : Byte)
  | write (b : BayId) (lba : BitVec 24) (count : Byte)
  | verify (b : BayId) (lba : BitVec 24) (count : Byte)
  | seek (b : BayId) (lba : BitVec 24)
  | reassign (b : BayId) (lba : BitVec 24)
  | format (b : BayId) (heads : Byte) (certify useList keepGrown : Bool)
  | flushRecord (b : BayId)
  | eject (b : BayId) (force : Bool)
  | prevent (b : BayId)
  | allow (b : BayId)
  | reportCartridge (b : BayId)
  | reportCapacity (b : BayId)
  | reportDefects (b : BayId)
  | standbyNow (b : BayId)
  | wake (b : BayId)
  | abort (target : BayField)
  | requestSense (b : BayId)
  | peek (b : BayId)
  | loadTableMode (length : BitVec 16)
  | loadTableProfile (length : BitVec 16)
  | loadTableZone (b : BayId) (length : BitVec 16)
  | loadTableDefectList (b : BayId) (length : BitVec 16)
  | readTableMode
  | readTableProfile
  | readTableZone (b : BayId)
  | readTableDefectList (b : BayId)
  | identify
  -- spindle events
  /-- A filtered index edge, `elapsed` µs after the bay's period counter was last advanced. -/
  | indexEdge (b : BayId) (elapsed : Nat)
  | powerOnWatchEnd (b : BayId)
  | firstIndexTimerExpiry (b : BayId)
  | gapTimerExpiry (b : BayId)
  | spinUpTimerExpiry (b : BayId)
  | recoveryTimerExpiry (b : BayId)
  | brakeTimerExpiry (b : BayId)
  | stopTimerExpiry (b : BayId)
  -- positioner events
  | servoSample (b : BayId) (w : ServoWord)
  | loadTimerExpiry (b : BayId)
  | seekTimerExpiry (b : BayId)
  | recalibrateTimerExpiry (b : BayId)
  | positionerUnloadTimerExpiry (b : BayId)
  | retractTimerExpiry (b : BayId)
  | parkSensorChange (b : BayId) (parked : Bool)
  -- cartridge events
  | presentAccepted (b : BayId)
  | presentLost (b : BayId)
  | writeProtectChange (b : BayId) (wpProtected : Bool)
  | lockSenseEngaged (b : BayId)
  | lockSenseOpen (b : BayId)
  | ejectButtonPress (level : ButtonLevel)
  | settleTimerExpiry (b : BayId)
  | pulseEnd (b : BayId)
  | lockConfirmExpiry (b : BayId)
  | releaseConfirmExpiry (b : BayId)
  -- data channel events; they concern the bay whose track visit is under way
  /-- The six bytes of an ID field as read, most significant byte first. -/
  | idFieldRead (field : BitVec 48)
  | idSearchAttemptEnd
  /-- The 512 bytes of a data field and its 48-bit check, both as they come from the medium. -/
  | dataFieldRead (data : List Byte) (check : BitVec 48)
  | dataFieldWritten
  | formatTrackWritten
  | visitFieldCountEnd
  -- power and indicator events
  | idleUnloadTimerExpiry (b : BayId)
  | standbyTimerExpiry (b : BayId)
  | ledFlashToggle (b : BayId)
  deriving DecidableEq, Repr

end Sys2Proof
end

