-- ==== Sys2Proof/Decode.lean ====
section
/-! DEFINITION. The commands that a table word spells. The 4120 decodes no instruction words: opcode_table.json gives no row
any bits ("fields" is empty on every row), so no word spells a command. Commands reach the part as frames, whose codes stand
in Machine/Operands.lean. -/

namespace Sys2Proof

/-- The command that the table's bits spell in `w`: none, for the table gives no row bits (notes/assumptions/27.md). -/
def decodeTableWord (_nbits _w : Nat) : Option Instr := none

end Sys2Proof
end

