-- ==== Sys2Proof/Config.lean ====
section
/-! DEFINITION. What the part fixes: limits, durations and nominal figures, each with its rule, and the few byte values the
reference does not state, as opaque constants. -/

namespace Sys2Proof.Config

/-- Geometry limits (R1). -/
def minCylinders : Nat := 64
def maxCylinders : Nat := 1536
def maxZones : Nat := 8
def minSpt : Nat := 8
def maxSpt : Nat := 39
def maxRateCode : Nat := 11
def maxSpareCylinders : Nat := 8
def maxDefects : Nat := 256

/-- The revolution bound of R4: (SPT + 1) × (rate code + 4) ≤ 160. -/
def rateBudget : Nat := 160

/-- The system cylinder: rate code 6, 16 physical sectors, zone number 15 (R5). -/
def systemRateCode : Nat := 6
def systemSectors : Nat := 16
def systemZone : Nat := 15

/-- Buffer slots and the quota of a bay (R114, R115). -/
def bufferSlots : Nat := 12
def slotQuota : Nat := 6

/-- Outbound queue figures (R176): entries; the bound under which an inbound frame may start; the bound under which a
slot DATA-IN may join. -/
def queueEntries : Nat := 16
def frameStartRoom : Nat := 14
def dataInRoom : Nat := 15

/-- The nominal index period P0 in µs and the saturation of the period counter (R44 to R46). -/
def nominalPeriod : Nat := 20000
def saturatedPeriod : Nat := 65535

/-- Spindle timers in µs (R50, R57 to R59, R61). -/
def firstIndexTime : Nat := 3000000
def spinUpTime : Nat := 15000000
def gapTime : Nat := 100000
def recoveryTime : Nat := 5000000
def brakeTime : Nat := 10000000
def stopTime : Nat := 250000
def watchTime : Nat := 250000

/-- Positioner timers in µs (R71, R79, R83, R84); the seek timer comes from the profile row. -/
def loadTime : Nat := 500000
def recalibrateTime : Nat := 100000
def unloadTime : Nat := 300000
def retractTime : Nat := 500000

/-- Cartridge Handler timers in µs (R90, R92). -/
def settleTime : Nat := 500000
def pulseTime : Nat := 50000
def confirmTime : Nat := 200000

/-- The drive level at entry to REGULATING (R51) and full drive (R43). -/
def regulatingDrive : Nat := 144
def fullDrive : Nat := 255

/-- Servo fields of one revolution (R8) and of a calibration phase (R72). -/
def fieldsPerRevolution : Nat := 32
def calibrationFields : Nat := 64
def calibrationSamples : Nat := 8

/-- The steps of one event are delivered one message at a time; this bounds their number (notes/assumptions/22.md). -/
def messageBudget : Nat := 400

/-- Free value: the code of a negative item of the PEEK frame, in `n` bytes (notes/assumptions/14.md). -/
opaque negativeCode : Nat → Int → Nat

/-- The recorded bits of a data field, 512 bytes and a 48-bit check, and how many patterns a burst of up to 11 bits has whose last
bit is in error (R7). -/
def fieldBits : Nat := 4144
def burstPatterns : Nat := 1024

/-- Free value: the 48-bit check of a data field over its 512 bytes, whose code the reference does not state (R7;
notes/assumptions/6.md). -/
opaque dataCheck : List Byte → BitVec 48

/-- Free value: whether, in the microsecond of a number, the host adapter gives the phase of a byte that the part waits for
(notes/assumptions/59.md). -/
opaque hostPhase : Nat → Bool

/-- Free values: whether the host adapter asserts LFRM in the microsecond of a number, and the byte that it holds on the link with
LSTB raised then, none while LSTB is low (notes/assumptions/78.md). -/
opaque hostFrame : Nat → Bool
opaque hostStrobe : Nat → Option LinkByte

/-- How many bytes a servo sample has on the servo bus (R191). -/
def servoBytes : Nat := 5

/-- Free values: whether the servo front end of bay A and that of bay B raise sample ready in the microsecond of a number, whether
bay A is read first then if both do, how many bytes of a read that begins then are strobed in the same microsecond, and what SD0 to
SD7 carry at the strobe of each byte then (notes/assumptions/106.md). -/
opaque sampleReadyA : Nat → Bool
opaque sampleReadyB : Nat → Bool
opaque servoAFirst : Nat → Bool
opaque servoPace : Nat → Nat
opaque servoData : Nat → Nat → Byte

/-- Free values: the places of the two flags in the flag byte of a servo sample (R191; notes/assumptions/106.md). -/
opaque servoSyncFlag : Byte → Bool
opaque servoIndexFlag : Byte → Bool

/-- Free values: two bytes of the IDENTIFY frame whose coding the reference does not state (notes/assumptions/15.md). -/
opaque revisionCode : Byte
opaque autospinStrapCode : Bool → Byte

end Sys2Proof.Config
end

