-- ==== Sys2Proof/Machine/Bytes.lean ====
section
/-! DEFINITION. Bytes and numbers: most significant byte first (00_scope.md, Byte order), the CRC-16 of R9, and the parity of a
link byte (R171). -/

namespace Sys2Proof.Machine

/-- `n` bytes of `x`, most significant byte first. -/
def beBytes : Nat → Nat → List Byte
  | 0, _ => []
  | n + 1, x => BitVec.ofNat 8 (x / 256 ^ n) :: beBytes n x

/-- The number that bytes hold, most significant byte first. -/
def beNat (bytes : List Byte) : Nat :=
  bytes.foldl (fun acc byte => acc * 256 + byte.toNat) 0

/-- The bytes `start` to `start + n − 1` of an image, as a number. -/
def field (image : List Byte) (start n : Nat) : Nat :=
  beNat ((image.drop start).take n)

/-- One byte as a list, for a value that one byte holds. -/
def byte1 (x : Nat) : List Byte := [BitVec.ofNat 8 x]

/-- A flag: clear 0, set 1 (R181: the position of the value in "clear or set"). -/
def flagByte (f : Bool) : List Byte := byte1 (if f then 1 else 0)

/-- A signed item of a report in `n` bytes; the code of a negative value is not stated (notes/assumptions/14.md). -/
def signedBytes (n : Nat) (x : Int) : List Byte :=
  if 0 ≤ x then beBytes n x.toNat else beBytes n (Config.negativeCode n x)

/-- An absent optional item of `n` bytes: all ones (R181). -/
def absentBytes (n : Nat) : List Byte := List.replicate n 0xFF

/-- An optional number in `n` bytes. -/
def optBytes (n : Nat) : Option Nat → List Byte
  | some x => beBytes n x
  | none => absentBytes n

/-- One bit of the CRC-16 of R9: generator x^16 + x^12 + x^5 + 1. -/
def crcBit (c : Nat) : Nat :=
  if 32768 ≤ c then ((c * 2) % 65536) ^^^ 0x1021 else c * 2

/-- One byte of the CRC-16, most significant bit first (R9). -/
def crcByte (c : Nat) (byte : Byte) : Nat :=
  crcBit (crcBit (crcBit (crcBit (crcBit (crcBit (crcBit (crcBit (c ^^^ (byte.toNat * 256)))))))))

/-- The CRC-16 of R9 over a run of bytes: the register starts at all ones and the result is not inverted. -/
def crc16 (bytes : List Byte) : Nat :=
  bytes.foldl crcByte 0xFFFF

/-- A run of bytes with its CRC-16 behind it (R9, R181). -/
def withCrc (bytes : List Byte) : List Byte :=
  bytes ++ beBytes 2 (crc16 bytes)

/-- The data byte of a link byte (R171). -/
def linkData (x : LinkByte) : Byte := x.truncate 8

/-- How many of the nine lines are one. -/
def linkOnes (x : LinkByte) : Nat :=
  ((List.range 9).filter fun i => x.getLsbD i).length

/-- LD0 to LD7 and LDP together hold an odd number of ones (R171). -/
def linkParityOk (x : LinkByte) : Bool := linkOnes x % 2 == 1

/-- A byte as the part sends it: LDP makes the number of ones odd (R171). -/
def linkByte (x : Byte) : LinkByte :=
  let data : LinkByte := x.zeroExtend 9
  if linkParityOk data then data else data ||| 0x100

end Sys2Proof.Machine
end

