-- ==== Sys2Proof/Machine/State.lean ====
section
/-! DEFINITION. The state of the part as plain data, block by block as 00_scope.md lists the blocks, the reasons a step can
stop, and the state after reset. The operations over it stand in the other files of this folder. -/

namespace Sys2Proof.Machine

/-- Why a step stops with a fault. -/
inductive Fault where
  /-- Raised by `conclude` when the messages of one event do not come to an end within `Config.messageBudget` steps. Safe:
  the machine stops where the part would go on. -/
  | unsettled
  deriving DecidableEq, Repr

/-- Why a step is refused. -/
inductive Refusal where
  /-- An instruction that has no meaning yet. Safe. -/
  | notModelled (mnemonic : String)
  deriving DecidableEq, Repr

/-- A timer: stopped, or running with this many µs remaining (0: due). -/
abbrev Timer := Option Nat

/-! ## Spindle Controller (R43, R44, R49) -/

/-- R43. -/
inductive SpinState where
  | stopped | waitAllowance | accelerating | regulating | atSpeed | speedFault | braking | spinFailed | coasting
  deriving DecidableEq, Repr

/-- R44, R47. -/
inductive PurgeKind where
  | insertion | resume
  deriving DecidableEq, Repr

/-- The failure details of R58. -/
inductive SpinDetail where
  | none | noIndex | indexLost | spinTimeout | speedLost | brake
  deriving DecidableEq, Repr

/-- The items of R44. -/
structure Spindle where
  state : SpinState
  counter : Nat
  period : Nat
  deviation : Int
  drive : Nat
  inRun : Nat
  outRun : Nat
  revolutionOpen : Bool
  purgeRemaining : Nat
  purgeKind : PurgeKind
  pendingStart : Option PurgeKind
  stopWaiting : Bool
  spinUpTimer : Timer
  firstIndexTimer : Timer
  gapTimer : Timer
  recoveryTimer : Timer
  brakeTimer : Timer
  stopTimer : Timer
  failure : SpinDetail
  firstAtSpeed : Bool
  /-- The power-on watch of R61 is open; its timer is the gap timer. -/
  watchOpen : Bool
  deriving DecidableEq, Repr

/-! ## Positioner (R65, R66) -/

/-- R65. -/
inductive PosState where
  | parked | loading | calibrating | seeking | settling | following | recalibrating | unloading | retracting | actFault
  deriving DecidableEq, Repr

/-- The fault details of R66 and R86. -/
inductive ActDetail where
  | none | load | noServo | calRange | recal | unload | retract
  deriving DecidableEq, Repr

/-- The causes of a seek failure (R66, R78). -/
inductive SeekCause where
  | none | seekTimeout | trackMismatch
  deriving DecidableEq, Repr

/-- The direction of the actuator drive (R65). -/
inductive DriveDir where
  | outward | inward
  deriving DecidableEq, Repr

/-- A cylinder and a head. -/
structure Track where
  cyl : Nat
  head : Nat
  deriving DecidableEq, Repr

/-- The last sample (R66): the values presented and, for a valid sample, the raw and the corrected PES. -/
structure Sample where
  sync : Bool
  indexFlag : Bool
  track : Nat
  ampA : Nat
  ampB : Nat
  sum : Nat
  valid : Bool
  rawPes : Int
  pes : Int
  deriving DecidableEq, Repr

/-- A row of the seek profile table (R182): times in ms. -/
structure SeekRow where
  bound : Nat
  velocity : Nat
  settleCount : Nat
  window : Nat
  timeout : Nat
  deriving DecidableEq, Repr

/-- Calibration progress (R66, R72, R73). -/
structure Calibration where
  biasPhase : Bool
  gathered : Nat
  fields : Nat
  sum : Int
  deriving DecidableEq, Repr

/-- Who the outcome of the seek in progress is told to (R75, R80): nobody that waits, the bay's running operation as the
answer to its order, or the running operation as the report that position is regained. -/
inductive SeekFor where
  | nobody | operation | regain
  deriving DecidableEq, Repr

/-- What a Positioner that unloads by its own means does on reaching PARKED: the second load of R71 and R73, or the reload
of R79. -/
inductive Again where
  | nothing | secondLoad | reload
  deriving DecidableEq, Repr

/-- A load order held until PARKED (R70), with the seek order it holds. -/
structure HeldLoad where
  fresh : Bool
  seek : Option Track
  deriving DecidableEq, Repr

/-- The items of R66, the filtered park sensor level (R89), and what R70 to R84 hold across samples. -/
structure Positioner where
  state : PosState
  current : Nat
  target : Option Track
  head : Nat
  returnCyl : Nat
  gain : Nat
  bias : Int
  calibrated : Bool
  last : Option Sample
  row : Option SeekRow
  settleCount : Nat
  wrongRun : Nat
  invalidRun : Nat
  onTrack : Bool
  loadAttempts : Nat
  retryUsed : Bool
  reloadUsed : Bool
  heldSeek : Option Track
  /-- Whether the requester of the held seek order still waits for it. -/
  heldSeekOwned : Bool
  loadTimer : Timer
  seekTimer : Timer
  recalTimer : Timer
  unloadTimer : Timer
  retractTimer : Timer
  fault : ActDetail
  lastCause : SeekCause
  pendingFault : Option ActDetail
  unloadTimedOut : Bool
  writeThreshold : Nat
  calibration : Calibration
  driveDir : DriveDir
  driveMag : Nat
  /-- The filtered park sensor reads parked (R89). -/
  parked : Bool
  /-- A load order waits for its outcome (R70). -/
  loadOpen : Bool
  heldLoad : Option HeldLoad
  seekFor : SeekFor
  /-- The seek gives up after this recalibration (R78). -/
  givingUp : Bool
  again : Again
  /-- The target of the closing seek of a reload (R79). -/
  reloadTarget : Option Track
  deriving DecidableEq, Repr

/-! ## Codes that several blocks share -/

/-- The completion codes of R181. -/
inductive Completion where
  | good | recovered | aborted | busy | illegalRequest | noCartridge | notReady | bayFault | unformatted | unitChanged
  | outOfRange | writeProtected | mediumError | idNotFound | writeFault | seekError | spinFault | dataNotPreserved
  | sparesExhausted | spareWriteFailed | flushFailed | prevented | notStaged | systemAreaDefect | tableRejected | linkError
  | frameError | defectListFull | unexpectedData
  deriving DecidableEq, Repr

/-- The mount details of R14. -/
inductive MountDetail where
  | none | noRecord | recordCheck | signature | version | geometry | zoneCount | zoneLayout | zoneFormat | defectMap
  deriving DecidableEq, Repr

/-- The bay fault details of R91. -/
inductive FaultDetail where
  | none | lock | lockLost | spin (d : SpinDetail) | actuator (d : ActDetail)
  deriving DecidableEq, Repr

/-- The cartridge states of R91. -/
inductive CartState where
  | empty | seated | locking | spinningUp | mounting | mounted | unformatted | formatting | unmounting | releasing | released
  | bayFault
  deriving DecidableEq, Repr

/-- What a detail byte can hold (R181). -/
inductive Detail where
  | none | stopped | tooLate | recordDiscarded | clamped
  | mount (d : MountDetail) | fault (d : FaultDetail) | spin (d : SpinDetail) | seek (c : SeekCause)
  | length | crc | structure | zone | defectList
  | parity | header | short | over | timeout
  | cartState (c : CartState) | zoneNumber (z : Nat) | result (c : Completion)
  deriving DecidableEq, Repr

/-- A physical sector (00_scope.md, Sectors and addresses). -/
structure PhysAddr where
  cyl : Nat
  head : Nat
  ps : Nat
  deriving DecidableEq, Repr

/-! ## Translation Unit (R15, R16, R24) -/

/-- R25. -/
inductive Disposition where
  | slipped | remapped | retired
  deriving DecidableEq, Repr

/-- R26. -/
inductive Origin where
  | listed | certified | grown
  deriving DecidableEq, Repr

/-- A defect map entry (R11, R24). -/
structure DefectEntry where
  addr : PhysAddr
  disp : Disposition
  origin : Origin
  target : Option Nat
  deriving DecidableEq, Repr

/-- A zone entry (R11); `ptr` is the allocation pointer. -/
structure ZoneEntry where
  first : Nat
  last : Nat
  spt : Nat
  rate : Nat
  spare : Nat
  ptr : Nat
  deriving DecidableEq, Repr

/-- The active tables, all installed or all absent (R15). The derived values of R16 and the capacity of R17 are computed from
them. -/
structure Tables where
  heads : Nat
  cylinders : Nat
  zones : List ZoneEntry
  map : List DefectEntry
  generation : Nat
  certified : Bool
  deriving DecidableEq, Repr

/-- R15: the active tables, the dirty flag and the staged tables (R42), each staged table as the image loaded, less its CRC. -/
structure Translation where
  tables : Option Tables
  dirty : Bool
  stagedZone : Option (List Byte)
  stagedList : Option (List Byte)
  deriving DecidableEq, Repr

/-! ## Sector Buffer and Data Channel (R114, R119, R131) -/

/-- R114. -/
inductive SlotState where
  | free | filling | full | draining
  deriving DecidableEq, Repr

/-- R114. -/
inductive Purpose where
  | hostData | mediaData | recordPart (k : Nat)
  deriving DecidableEq, Repr

/-- A slot record (R114) with the bytes the slot holds. -/
structure SlotRec where
  owner : Option BayId
  state : SlotState
  purpose : Option Purpose
  lba : Option Nat
  ecc : Option EccClass
  data : List Byte
  deriving DecidableEq, Repr

/-- The sector results of R130. -/
inductive SectorResult where
  | good | recovered | mediumError | idNotFound | writeFault | writeProtected | seekError
  deriving DecidableEq, Repr

/-- What an operation names to the Data Channel: the wanted ID field contents, the rate code, and the logical block. -/
structure Sector where
  addr : PhysAddr
  zone : Nat
  spareArea : Bool
  rate : Nat
  lba : Option Nat
  deriving DecidableEq, Repr

/-- The sector operations of a bay (R119). -/
inductive JobKind where
  | mediaRead | mediaVerify | mediaWrite | seekOnly | reassignRead | spareWrite | recordRead | recordWrite | formatTrack
  | certRead | formatRecord
  deriving DecidableEq, Repr

/-- Where the sector in hand stands with the Positioner (R126, R137): it waits for the spindle to report ready; a load order
is open; a load order holding the seek to the sector is open; a seek order is open; position was lost and the Positioner's
report is awaited; the heads are at the track. -/
inductive Stage where
  | waitReady | loading | loadingToSeek | seeking | regain | atTrack
  deriving DecidableEq, Repr

/-- The sector operation under way in a bay, with its try count and IDs found (R123, R125, R131) and the slots it holds. -/
structure Job where
  kind : JobKind
  sector : Sector
  stage : Stage
  tries : Nat
  matched : Bool
  fieldRead : Bool
  slots : List Nat
  deriving DecidableEq, Repr

/-- What the channel does within a visit: between sectors, searching for an ID field, in a data field being read or written,
waiting for servo field 0 of a format track, writing a format track (R120, R121, R129). -/
inductive VisitPhase where
  | between | searching | reading | writing | formatWait | formatWriting
  deriving DecidableEq, Repr

/-- A track visit (R120). `fields` is the servo field count since the grant, `search` that of the ID search attempt;
`ending` says that the visit ends at the next sector boundary. -/
structure Visit where
  bay : BayId
  kind : JobKind
  track : Track
  rate : Nat
  fields : Nat
  search : Nat
  phase : VisitPhase
  ending : Bool
  deriving DecidableEq, Repr

/-- A data field as it is recorded: 512 bytes and the 48-bit check over them (R7). -/
structure DataField where
  data : List Byte
  check : BitVec 48
  deriving DecidableEq, Repr

/-- A physical sector as FORMAT writes it: the six bytes of its ID field and its data field (R2, R6, R129). -/
structure TrackSector where
  id : List Byte
  field : DataField
  deriving DecidableEq, Repr

/-- The Data Channel (R119, R131) with its select outputs (R191). `lastWritten` and `lastTrack` are the model's own record of
the last data field and of the last format track put on the write data pin (notes/assumptions/32.md). -/
structure Channel where
  holder : Option BayId
  waiter : Option BayId
  visit : Option Visit
  gate : Bool
  decoder : Option EccClass
  baySelect : BayId
  headSelect : Nat
  lastWritten : Option (PhysAddr × DataField)
  lastTrack : Option (Track × List TrackSector)
  deriving DecidableEq, Repr

/-! ## Commands, reassign, flush and FORMAT -/

/-- The table ids of LOAD TABLE and READ TABLE (R181). -/
inductive TableId where
  | mode | profile | zone | defectList
  deriving DecidableEq, Repr

/-- The DMT values a command keeps from its acceptance (R132). -/
structure Caps where
  readRetries : Nat
  writeRetries : Nat
  correctionSpan : Nat
  reportThreshold : Nat
  autoReassign : Bool
  deriving DecidableEq, Repr

/-- The commands that take a slot (R175). -/
inductive CmdOp where
  | read | write | verify | seek | reassign
  | format (heads : Byte) (certify useList keepGrown : Bool)
  | flushRecord | eject (force : Bool) | reportCartridge | reportCapacity | reportDefects | standbyNow | wake
  | loadTable (id : TableId) | readTable (id : TableId) | identify
  deriving DecidableEq, Repr

/-- What a command in a slot waits for before it works: a mount (R135), a wake (R136), or the flush of a standby entry
(R164). -/
inductive Wait where
  | working | mount | wake | flush
  deriving DecidableEq, Repr

/-- Why a command is being stopped at its next boundary (R99, R145, R173, R178). -/
inductive StopCause where
  | abort | eject | link (d : Detail)
  deriving DecidableEq, Repr

/-- The address of a sense record (R144): the physical sector is absent when only a track was sought. -/
structure SenseAddr where
  cyl : Nat
  head : Nat
  ps : Option Nat
  deriving DecidableEq, Repr

/-- A completion as it goes to the STATUS and the sense record (R144). -/
structure CmdResult where
  completion : Completion
  detail : Detail
  lba : Option Nat
  addr : Option SenseAddr
  deriving DecidableEq, Repr

/-- A command in a slot. `done` counts the blocks done, `received` the DATA-OUT frames of a WRITE, `sent` the DATA-IN frames
sent; `framesLeft` the report frames still to be sent; `unitWas` the unit-changed flag at acceptance (R108); `silent` marks a
command that a link reset has ended (R179); `result` is a completion decided while DATA-IN frames are still to go out
(R138). -/
structure Cmd where
  op : CmdOp
  lba : Nat
  count : Nat
  done : Nat
  received : Nat
  sent : Nat
  framesLeft : Nat
  unitWas : Bool
  caps : Caps
  wait : Wait
  stop : Option StopCause
  silent : Bool
  recovered : Option (Nat × PhysAddr)
  result : Option CmdResult
  deriving DecidableEq, Repr

/-- A reassign under way (R31 to R37). `target` is the old target slot j of a REMAPPED home position. -/
structure Reassign where
  lba : Nat
  zone : Nat
  home : PhysAddr
  target : Option Nat
  auto : Bool
  attempts : Nat
  candidate : Nat
  zeros : Bool
  slot : Nat
  deriving DecidableEq, Repr

/-- Who asked for a flush (R101). -/
inductive FlushFor where
  | unmount | flushRecord | standby
  deriving DecidableEq, Repr

/-- A flush under way (R100). `writing` holds from the build of the image to the end of the write; `stop` asks it to end at
the end of the record sector being written (R104, R166). -/
structure Flush where
  requester : FlushFor
  writing : Bool
  generation : Nat
  caps : Caps
  stop : Bool
  deriving DecidableEq, Repr

/-- The phases of FORMAT (R152). DISPOSE takes no time of its own (R156). -/
inductive FormatPhase where
  | waiting | invalidate | tracks | certify | dispose | record
  deriving DecidableEq, Repr

/-- FORMAT's progress record (R152), its copy of the staged zones (R149), its defect set (R151), the sector being certified,
whether a record sector has been written (R158), and the new tables. -/
structure Format where
  heads : Nat
  certify : Bool
  zones : List ZoneEntry
  defects : List (PhysAddr × Origin)
  phase : FormatPhase
  cyl : Nat
  head : Nat
  ps : Nat
  certRun : Bool
  recordWritten : Bool
  newTables : Option Tables
  deriving DecidableEq, Repr

/-! ## Cartridge Handler (R89 to R91) -/

/-- R91. -/
inductive EjectSource where
  | button | eject | ejectForce
  deriving DecidableEq, Repr

/-- The phase an eject request has reached: waiting for a stopped command (R99), cancelling a mount (R98), the phases of
R102, and waiting in BAY_FAULT (R111). -/
inductive EjectPhase where
  | waitStop | cancel | flush | unload | brake | release | faultWait
  deriving DecidableEq, Repr

/-- An eject request (R91). `discarded` notes a discard made for this request (R101, R105). -/
structure Eject where
  source : EjectSource
  commandWaits : Bool
  phase : EjectPhase
  discarded : Bool
  deriving DecidableEq, Repr

/-- The items of R91, the filtered levels of R89, the pulse outputs of R90, and the start-up waits of R112. -/
structure Cartridge where
  state : CartState
  mountDetail : MountDetail
  fault : FaultDetail
  preventRemoval : Bool
  unitChanged : Bool
  eject : Option Eject
  lockAttempts : Nat
  settleTimer : Timer
  lockConfirm : Timer
  releaseConfirm : Timer
  pulseTimer : Timer
  lockPulse : Bool
  releasePulse : Bool
  cartridgeIn : Bool
  wpProtected : Bool
  lockEngaged : Bool
  buttonDown : Bool
  startupWait : Bool
  startupRelease : Bool
  /-- The DMT values of the mount under way (R123). -/
  mountCaps : Caps
  deriving DecidableEq, Repr

/-! ## Bay Power Control (R160) -/

/-- R160. -/
inductive PowerMode where
  | unmounted | active | idle | parkedIdle | standby
  deriving DecidableEq, Repr

/-- R160, R168. -/
inductive Readiness where
  | ready | loadDelay | spinDelay | unavailable
  deriving DecidableEq, Repr

/-- R160. -/
inductive EntrySource where
  | timer | standbyNow
  deriving DecidableEq, Repr

/-- R160, R163. -/
inductive EntryPhase where
  | flush | unload | brake
  deriving DecidableEq, Repr

/-- A standby entry (R160). -/
structure StandbyEntry where
  source : EntrySource
  startMode : PowerMode
  phase : EntryPhase
  deriving DecidableEq, Repr

/-- A wake (R160): the mode it began from and whether the command in the slot waits on it. -/
structure Wake where
  startMode : PowerMode
  waiting : Bool
  deriving DecidableEq, Repr

/-- The items of R160. The idle timers hold their time remaining in µs. -/
structure Power where
  mode : PowerMode
  unloadTimer : Timer
  standbyTimer : Timer
  readiness : Readiness
  entry : Option StandbyEntry
  wake : Option Wake
  deriving DecidableEq, Repr

/-! ## Status Block (R188, R190) -/

/-- A sense record (R188); completion absent is NONE. -/
structure Sense where
  completion : Option Completion
  detail : Detail
  command : Byte
  lba : Option Nat
  addr : Option SenseAddr
  count : Nat
  recovered : Nat
  deriving DecidableEq, Repr

/-- The attention kinds in the order of R181. -/
inductive AttnKind where
  | inserted | removed | ejectRequest | readiness | recordDiscarded | bayFault
  deriving DecidableEq, Repr

/-- A pending flag and its payload byte (R190). -/
structure Attn where
  raised : Bool
  payload : Byte
  deriving DecidableEq, Repr

/-- The attentions of a bay (R190). -/
structure Attentions where
  inserted : Attn
  removed : Attn
  ejectRequest : Attn
  readiness : Attn
  recordDiscarded : Attn
  bayFault : Attn
  deriving DecidableEq, Repr

/-! ## Table Store (R182, R185) -/

/-- The drive mode table (R185). The auto-reassign setting is kept as the byte loaded: 0x00 is off, every other value on.
Bit k of a mask is the kind of rank k, INSERTED being 0. -/
structure Dmt where
  maskA : BitVec 6
  maskB : BitVec 6
  unloadTimer : Nat
  standbyTimer : Nat
  insertionPurge : Nat
  resumePurge : Nat
  readRetries : Nat
  writeRetries : Nat
  correctionSpan : Nat
  reportThreshold : Nat
  autoReassign : Byte
  writeThreshold : Nat
  buttonFilter : Nat
  linkTimeout : Nat
  deriving DecidableEq, Repr

/-- The staging area when a LOAD TABLE holds it (R182). -/
structure Staging where
  id : TableId
  declared : Nat
  target : BayField
  bytes : List Byte
  deriving DecidableEq, Repr

/-! ## Link Interface (R172, R176) -/

/-- What supplies the payload of a report DATA-IN frame: bytes taken at acceptance, or frame k of a report built from the
tables as the frame goes out (R41, R187). -/
inductive ReportSource where
  | bytes (payload : List Byte)
  | defects (k : Nat)
  | table (id : TableId) (k : Nat)
  deriving DecidableEq, Repr

/-- A descriptor of the outbound queue (R176). `owned` marks a report frame of a command in a slot. -/
inductive Desc where
  | status (target : BayField) (completion : Completion) (detail : Detail) (count : Nat) (code : Byte)
  | slotData (b : BayId) (slot : Nat)
  | report (target : BayField) (source : ReportSource) (owned : Bool)
  deriving DecidableEq, Repr

/-- The frame kinds the part sends (R181). -/
inductive OutKind where
  | dataIn | status | attention
  deriving DecidableEq, Repr

/-- The outbound frame in progress (R172): the frame, the bytes whose exchange has ended, the level of LSTB in the exchange of
the next byte (R171), and the link timeout in µs as installed when the frame began (R178). -/
structure OutFrame where
  kind : OutKind
  target : BayField
  payload : List Byte
  slot : Option Nat
  owned : Bool
  sent : Nat
  strobe : Bool
  limit : Nat
  deriving DecidableEq, Repr

/-- A DATA-OUT frame for a WRITE that its row has brought whole while its first payload byte is held back (R116). -/
structure HeldPayload where
  bay : BayId
  declared : Nat
  payload : List LinkByte
  deriving DecidableEq, Repr

/-- The inbound frame in progress (R172): the bytes taken so far, header first, each with the parity it came with; the level of LACK
in the exchange of the last one (R171); the byte on the lines whose acknowledge is held back (R116); the buffer slot taken at its
first payload byte (R116); the bays whose WRITE has ended since its first byte (R139); the link timeout in µs as installed when it
began (R178); and, for a frame held back, what its row has brought. -/
structure InFrame where
  bytes : List LinkByte
  ack : Bool
  held : Option LinkByte
  slot : Option Nat
  late : List BayId
  limit : Nat
  due : Option HeldPayload
  deriving DecidableEq, Repr

/-- The Link Interface (R172) with the levels of LDIR and LRST. `offered` holds the DATA-IN descriptors of slot commands
that wait for room, in the order in which they became ready (R176); `withheld` is the frame whose first header byte waits
unacknowledged for room (R176); `spent` says that an inbound frame has ended before LFRM dropped, so that no frame begins until
LFRM has been low (R172, R178). -/
structure Link where
  ldir : LinkDir
  lrst : Bool
  inFrame : Option InFrame
  spent : Bool
  withheld : Option Instr
  outFrame : Option OutFrame
  queue : List Desc
  offered : List Desc
  reservations : Nat
  timer : Timer
  deriving DecidableEq, Repr

/-! ## Servo bus (R191) -/

/-- A read of a bay's servo sample under way: its sample select is driven, and these bytes have been strobed (R191). -/
structure ServoRead where
  bay : BayId
  bytes : List Byte
  deriving DecidableEq, Repr

/-- The servo bus (R191; notes/assumptions/106.md): the read under way, and the bay whose sample ready was raised while the other bay's
sample was read, which is read as soon as the bus is free. -/
structure ServoBus where
  reading : Option ServoRead
  waiter : Option BayId
  deriving DecidableEq, Repr

/-! ## The whole state -/

/-- What one block tells another within an event; delivered before the event ends (notes/assumptions/22.md). -/
inductive Signal where
  /-- readiness for head load begins (R54) -/
  | ready (b : BayId)
  /-- entry to SPEED_FAULT (R55) -/
  | speedLost (b : BayId)
  /-- return to AT_SPEED from SPEED_FAULT (R56) -/
  | speedRecovered (b : BayId)
  /-- entry to STOPPED, once the waiting stops are answered (R59) -/
  | stopped (b : BayId)
  /-- entry to PARKED with a pending fault, once the waiting unload orders are answered (R83, R84) -/
  | faultDue (b : BayId)
  /-- entry to SPIN_FAILED, or a start refused in it (R47, R58) -/
  | spinFailed (b : BayId) (d : SpinDetail)
  /-- a load order answered LOADED (R70) -/
  | loaded (b : BayId)
  /-- a load order answered NOT_READY or UNLOADED (R70) -/
  | loadFailed (b : BayId)
  /-- a seek order's answers (R75) -/
  | seekDone (b : BayId)
  | seekFailed (b : BayId)
  | seekUnloaded (b : BayId)
  /-- OFF_CYLINDER or LOST_SERVO (R80, R81) -/
  | trackLost (b : BayId)
  /-- position regained, or SEEK_ERROR instead (R80) -/
  | regained (b : BayId)
  | regainFailed (b : BayId)
  /-- entry to ACT_FAULT, or an order answered so (R86) -/
  | actFault (b : BayId) (d : ActDetail)
  /-- the sector in hand has its result (R130) -/
  | sector (b : BayId) (r : SectorResult)
  /-- a certification read ended with this class, or with no ID field found (R129) -/
  | certified (b : BayId) (outcome : Option EccClass)
  /-- a sector boundary, or a failed try, at which a stopped command may end (R146) -/
  | boundary (b : BayId)
  /-- the bay's command slot became free (R161) -/
  | slotFreed (b : BayId)
  /-- the cartridge state left SPINNING_UP and MOUNTING (R135) -/
  | mountOver (b : BayId)
  /-- something changed that waiting work of the bay may go on from -/
  | poke (b : BayId)
  deriving DecidableEq, Repr

/-- What exists once per bay. -/
structure Bay where
  spindle : Spindle
  pos : Positioner
  cart : Cartridge
  tu : Translation
  power : Power
  slot : Option Cmd
  job : Option Job
  reassign : Option Reassign
  flush : Option Flush
  format : Option Format
  sense : Sense
  attn : Attentions
  /-- The phase of the BAY_FAULT flash (R193). -/
  ledLit : Bool
  deriving DecidableEq, Repr

/-- The state of the part and the queue of commands that wait. -/
structure State where
  resetHeld : Bool
  twoBays : Bool
  autospinHigh : Bool
  powerLoss : Bool
  allowHolder : Option BayId
  allowWaiter : Option BayId
  chan : Channel
  slots : List SlotRec
  dmt : Dmt
  profile : List SeekRow
  staging : Option Staging
  link : Link
  servo : ServoBus
  deviceSlot : Option Cmd
  bayA : Bay
  bayB : Bay
  /-- How many microseconds have passed: the number by which the free values of a microsecond are drawn (notes/assumptions/59.md,
  78.md, 106.md). -/
  hostTurns : Nat
  signals : List Signal
  pending : List Instr
  deriving DecidableEq, Repr

/-! ## After reset -/

/-- R44. The gap timer runs as the watch timer of R61. -/
def Spindle.reset : Spindle where
  state := .stopped
  counter := Config.saturatedPeriod
  period := Config.saturatedPeriod
  deviation := 2276
  drive := 0
  inRun := 0
  outRun := 0
  revolutionOpen := false
  purgeRemaining := 0
  purgeKind := .insertion
  pendingStart := none
  stopWaiting := false
  spinUpTimer := none
  firstIndexTimer := none
  gapTimer := some Config.watchTime
  recoveryTimer := none
  brakeTimer := none
  stopTimer := none
  failure := .none
  firstAtSpeed := false
  watchOpen := true

/-- R66, with the park sensor reading parked (R87). -/
def Positioner.reset : Positioner where
  state := .parked
  current := 0
  target := none
  head := 0
  returnCyl := 1
  gain := 1
  bias := 0
  calibrated := false
  last := none
  row := none
  settleCount := 0
  wrongRun := 0
  invalidRun := 0
  onTrack := false
  loadAttempts := 0
  retryUsed := false
  reloadUsed := false
  heldSeek := none
  heldSeekOwned := false
  loadTimer := none
  seekTimer := none
  recalTimer := none
  unloadTimer := none
  retractTimer := none
  fault := .none
  lastCause := .none
  pendingFault := none
  unloadTimedOut := false
  writeThreshold := 40
  calibration := { biasPhase := false, gathered := 0, fields := 0, sum := 0 }
  driveDir := .outward
  driveMag := 0
  parked := true
  loadOpen := false
  heldLoad := none
  seekFor := .nobody
  givingUp := false
  again := .nothing
  reloadTarget := none

/-- R185, the power-on defaults. -/
def Dmt.reset : Dmt where
  maskA := 0
  maskB := 0
  unloadTimer := 30
  standbyTimer := 10
  insertionPurge := 150
  resumePurge := 25
  readRetries := 8
  writeRetries := 4
  correctionSpan := 11
  reportThreshold := 4
  autoReassign := 0
  writeThreshold := 40
  buttonFilter := 30
  linkTimeout := 50

/-- The values of a DMT that a command keeps (R132). -/
def Dmt.caps (d : Dmt) : Caps where
  readRetries := d.readRetries
  writeRetries := d.writeRetries
  correctionSpan := d.correctionSpan
  reportThreshold := d.reportThreshold
  autoReassign := d.autoReassign != 0

/-- R182, the built-in profile table. -/
def builtInProfile : List SeekRow :=
  [ { bound := 4, velocity := 3, settleCount := 3, window := 24, timeout := 15 },
    { bound := 64, velocity := 7, settleCount := 4, window := 20, timeout := 30 },
    { bound := 512, velocity := 12, settleCount := 5, window := 16, timeout := 60 },
    { bound := 2047, velocity := 15, settleCount := 6, window := 16, timeout := 100 } ]

/-- R91, with an empty bay: no cartridge, not protected, lock open, button released (notes/assumptions/5.md). -/
def Cartridge.reset : Cartridge where
  state := .empty
  mountDetail := .none
  fault := .none
  preventRemoval := false
  unitChanged := false
  eject := none
  lockAttempts := 0
  settleTimer := none
  lockConfirm := none
  releaseConfirm := none
  pulseTimer := none
  lockPulse := false
  releasePulse := false
  cartridgeIn := false
  wpProtected := false
  lockEngaged := false
  buttonDown := false
  startupWait := false
  startupRelease := false
  mountCaps := Dmt.reset.caps

/-- R15. -/
def Translation.reset : Translation where
  tables := none
  dirty := false
  stagedZone := none
  stagedList := none

/-- R160. -/
def Power.reset : Power where
  mode := .unmounted
  unloadTimer := none
  standbyTimer := none
  readiness := .unavailable
  entry := none
  wake := none

/-- R188. -/
def Sense.reset : Sense where
  completion := none
  detail := .none
  command := 0
  lba := none
  addr := none
  count := 0
  recovered := 0

/-- R190. -/
def Attentions.reset : Attentions where
  inserted := { raised := false, payload := 0 }
  removed := { raised := false, payload := 0 }
  ejectRequest := { raised := false, payload := 0 }
  readiness := { raised := false, payload := 0 }
  recordDiscarded := { raised := false, payload := 0 }
  bayFault := { raised := false, payload := 0 }

/-- A bay after reset. -/
def Bay.reset : Bay where
  spindle := Spindle.reset
  pos := Positioner.reset
  cart := Cartridge.reset
  tu := Translation.reset
  power := Power.reset
  slot := none
  job := none
  reassign := none
  flush := none
  format := none
  sense := Sense.reset
  attn := Attentions.reset
  ledLit := false

/-- A free slot (R114). -/
def SlotRec.free : SlotRec where
  owner := none
  state := .free
  purpose := none
  lba := none
  ecc := none
  data := []

/-- R119, R131. -/
def Channel.reset : Channel where
  holder := none
  waiter := none
  visit := none
  gate := false
  decoder := none
  baySelect := .bayA
  headSelect := 0
  lastWritten := none
  lastTrack := none

/-- R172, with LDIR at OUT and LRST not asserted (notes/assumptions/5.md). An LFRM that stays asserted through the end of RESET is taken
as one that has risen: the first strobe begins a frame (the model's choice, notes/assumptions/114.md). -/
def Link.reset : Link where
  ldir := .hostSends
  lrst := false
  inFrame := none
  spent := false
  withheld := none
  outFrame := none
  queue := []
  offered := []
  reservations := 0
  timer := none

/-- A free servo bus, no bay waiting for it. -/
def ServoBus.reset : ServoBus where
  reading := none
  waiter := none

/-- The part right after reset: every block at its power-on values, two bays, AUTOSPIN high, both bays empty with their heads
parked and their power-on watches open. The strap and sensor levels are the model's choice (notes/assumptions/5.md);
`endOfReset` takes them as its operand. -/
def State.reset : State where
  resetHeld := false
  twoBays := true
  autospinHigh := true
  powerLoss := false
  allowHolder := none
  allowWaiter := none
  chan := Channel.reset
  slots := List.replicate Config.bufferSlots SlotRec.free
  dmt := Dmt.reset
  profile := builtInProfile
  staging := none
  link := Link.reset
  servo := ServoBus.reset
  deviceSlot := none
  bayA := Bay.reset
  bayB := Bay.reset
  hostTurns := 0
  signals := []
  pending := []

end Sys2Proof.Machine
end

