-- ==== Sys2Proof/Machine/Ops.lean ====
section
/-! DEFINITION. The named operations over the state that every block shares: access to a bay's items, messages of an event,
attentions, sense records, buffer slots, the outbound queue, and idle timers. -/

namespace Sys2Proof.Machine

/-! ## A bay's items -/

/-- The other bay. -/
def otherBay : BayId → BayId
  | .bayA => .bayB
  | .bayB => .bayA

/-- The items of a bay. -/
def State.bay (s : State) : BayId → Bay
  | .bayA => s.bayA
  | .bayB => s.bayB

/-- Replace the items of a bay. -/
def State.setBay (s : State) (b : BayId) (x : Bay) : State :=
  match b with
  | .bayA => { s with bayA := x }
  | .bayB => { s with bayB := x }

/-- Change the items of a bay. -/
def State.modBay (s : State) (b : BayId) (f : Bay → Bay) : State := s.setBay b (f (s.bay b))

/-- Change a bay's Spindle Controller. -/
def State.modSpindle (s : State) (b : BayId) (f : Spindle → Spindle) : State :=
  s.modBay b fun x => { x with spindle := f x.spindle }

/-- Change a bay's Positioner. -/
def State.modPos (s : State) (b : BayId) (f : Positioner → Positioner) : State :=
  s.modBay b fun x => { x with pos := f x.pos }

/-- Change a bay's Cartridge Handler. -/
def State.modCart (s : State) (b : BayId) (f : Cartridge → Cartridge) : State :=
  s.modBay b fun x => { x with cart := f x.cart }

/-- Change a bay's Translation Unit. -/
def State.modTu (s : State) (b : BayId) (f : Translation → Translation) : State :=
  s.modBay b fun x => { x with tu := f x.tu }

/-- Change a bay's Bay Power Control. -/
def State.modPower (s : State) (b : BayId) (f : Power → Power) : State :=
  s.modBay b fun x => { x with power := f x.power }

/-- Change the command in a bay's slot, if there is one. -/
def State.modCmd (s : State) (b : BayId) (f : Cmd → Cmd) : State :=
  s.modBay b fun x => { x with slot := x.slot.map f }

/-- Change a bay's sector operation, if there is one. -/
def State.modJob (s : State) (b : BayId) (f : Job → Job) : State :=
  s.modBay b fun x => { x with job := x.job.map f }

/-- Set a bay's sector operation. -/
def State.setJob (s : State) (b : BayId) (j : Option Job) : State :=
  s.modBay b fun x => { x with job := j }

/-- Change the Data Channel. -/
def State.modChan (s : State) (f : Channel → Channel) : State := { s with chan := f s.chan }

/-- Change the Link Interface. -/
def State.modLink (s : State) (f : Link → Link) : State := { s with link := f s.link }

/-- The BAYS strap: bay A is always present, bay B with two bays (R192). -/
def State.bayPresent (s : State) : BayId → Bool
  | .bayA => true
  | .bayB => s.twoBays

/-- Leave a message that is delivered before the event ends (notes/assumptions/22.md). -/
def State.tell (s : State) (m : Signal) : State := { s with signals := s.signals ++ [m] }

/-! ## Attentions and sense records -/

/-- The attention of a kind. -/
def Attentions.get (x : Attentions) : AttnKind → Attn
  | .inserted => x.inserted
  | .removed => x.removed
  | .ejectRequest => x.ejectRequest
  | .readiness => x.readiness
  | .recordDiscarded => x.recordDiscarded
  | .bayFault => x.bayFault

/-- Replace the attention of a kind. -/
def Attentions.set (x : Attentions) (k : AttnKind) (v : Attn) : Attentions :=
  match k with
  | .inserted => { x with inserted := v }
  | .removed => { x with removed := v }
  | .ejectRequest => { x with ejectRequest := v }
  | .readiness => { x with readiness := v }
  | .recordDiscarded => { x with recordDiscarded := v }
  | .bayFault => { x with bayFault := v }

/-- Raise an attention: its flag is set and its payload replaced (R190). -/
def State.raise (s : State) (b : BayId) (k : AttnKind) (payload : Byte) : State :=
  s.modBay b fun x => { x with attn := x.attn.set k { raised := true, payload } }

/-- The causes of a RECORD_DISCARDED attention (R181). -/
def discardFlushFailed : Byte := 0x01
def discardFault : Byte := 0x02
def discardWriteProtect : Byte := 0x03

/-- Write a bay's sense record; the recovered count stays (R188). -/
def State.writeSense (s : State) (b : BayId) (command : Byte) (count : Nat) (r : CmdResult) : State :=
  s.modBay b fun x => { x with sense :=
    { completion := some r.completion, detail := r.detail, command := command, lba := r.lba, addr := r.addr,
      count := count, recovered := x.sense.recovered } }

/-- Raise a bay's recovered count by one; it holds at 65,535 (R188). -/
def State.countRecovered (s : State) (b : BayId) : State :=
  s.modBay b fun x => { x with sense := { x.sense with recovered := min 65535 (x.sense.recovered + 1) } }

/-! ## Buffer slots (R114 to R118) -/

/-- How many slots a bay holds. -/
def State.heldSlots (s : State) (b : BayId) : Nat :=
  (s.slots.filter fun r => r.owner == some b).length

/-- The slot record of a number. -/
def State.slotRec (s : State) (k : Nat) : SlotRec := s.slots.getD k SlotRec.free

/-- Change a slot record. -/
def State.modSlot (s : State) (k : Nat) (f : SlotRec → SlotRec) : State :=
  { s with slots := s.slots.set k (f (s.slotRec k)) }

/-- A bay may take a slot: one is FREE and the bay holds fewer than 6 (R115). -/
def State.mayAllocate (s : State) (b : BayId) : Bool :=
  decide (s.heldSlots b < Config.slotQuota) && s.slots.any fun r => r.state == .free

/-- The lowest-numbered FREE slot (R115). -/
def State.lowestFree (s : State) : Nat := s.slots.findIdx fun r => r.state == .free

/-- Take the lowest FREE slot for a bay; it is FILLING from then on (R115). -/
def State.allocate (s : State) (b : BayId) (purpose : Purpose) (lba : Option Nat) : State :=
  s.modSlot s.lowestFree fun _ => { owner := some b, state := .filling, purpose := some purpose, lba, ecc := none, data := [] }

/-- Free one slot (R114); waiting work of its bay may go on. -/
def State.freeSlot (s : State) (k : Nat) : State :=
  match (s.slotRec k).owner with
  | some b => (s.modSlot k fun _ => SlotRec.free).tell (.poke b)
  | none => s

/-- Free the slots of a bay that a test picks. -/
def State.freeWhere (s : State) (b : BayId) (p : SlotRec → Bool) : State :=
  { s with slots := s.slots.map fun r => if r.owner == some b && p r then SlotRec.free else r }

/-- The numbers of the slots of a bay that a test picks, lowest first. -/
def State.slotsWhere (s : State) (b : BayId) (p : SlotRec → Bool) : List Nat :=
  (List.range s.slots.length).filter fun k => (s.slotRec k).owner == some b && p (s.slotRec k)

/-! ## The outbound queue (R176) -/

/-- Pending DATA-IN descriptors join while descriptors and reservations are 15 or fewer. -/
def joinOffered : List Desc → List Desc → Nat → List Desc × List Desc
  | [], queue, _ => (queue, [])
  | d :: rest, queue, reserved =>
    if queue.length + reserved ≤ Config.dataInRoom then joinOffered rest (queue ++ [d]) reserved else (queue, d :: rest)

/-- Let the pending DATA-IN descriptors join the queue as room allows, in the order in which they became ready (R176). -/
def State.joinPending (s : State) : State :=
  let (queue, offered) := joinOffered s.link.offered s.link.queue s.link.reservations
  s.modLink fun l => { l with queue, offered }

/-- Offer a DATA-IN descriptor of a command in a slot (R176). -/
def State.offer (s : State) (d : Desc) : State :=
  (s.modLink fun l => { l with offered := l.offered ++ [d] }).joinPending

/-- Queue a descriptor that has its room (R176). -/
def State.enqueue (s : State) (d : Desc) : State :=
  s.modLink fun l => { l with queue := l.queue ++ [d] }

/-- Drop the descriptors that a test picks, queued or pending. -/
def State.dropDescs (s : State) (p : Desc → Bool) : State :=
  s.modLink fun l => { l with queue := l.queue.filter fun d => !p d, offered := l.offered.filter fun d => !p d }

/-- A descriptor that sends this slot. -/
def Desc.isSlot (k : Nat) : Desc → Bool
  | .slotData _ j => j == k
  | _ => false

/-- A report frame of the command in the slot of this target. -/
def Desc.isReportOf (target : BayField) : Desc → Bool
  | .report t _ owned => owned && t == target
  | _ => false

/-! ## Idle timers (R162) -/

/-- A timer loaded from a DMT value in units of µs; 0 leaves it stopped (R162). -/
def dmtTimer (value unit : Nat) : Timer := if value = 0 then none else some (value * unit)

/-- Restart both idle timers from the DMT (R162). -/
def State.restartIdleTimers (s : State) (b : BayId) : State :=
  s.modPower b fun p => { p with
    unloadTimer := dmtTimer s.dmt.unloadTimer 1000000, standbyTimer := dmtTimer s.dmt.standbyTimer 60000000 }

/-- The idle timers count only while the mode is IDLE or PARKED_IDLE, the slot is free, and no standby entry and no wake is
present (R162). -/
def Bay.idleCounting (x : Bay) : Bool :=
  (x.power.mode == .idle || x.power.mode == .parkedIdle) && x.slot.isNone && x.power.entry.isNone && x.power.wake.isNone

/-- The command slot that a bay field names (R175). -/
def State.slotOf (s : State) : BayField → Option Cmd
  | .bay b => (s.bay b).slot
  | .device => s.deviceSlot

end Sys2Proof.Machine
end

