-- ==== Sys2Proof/Machine/Operands.lean ====
section
/-! DEFINITION. The forms in which values come to the part and leave it: codes of R181, inbound frames (R171 to R175), ID fields
(R6), data fields with their decoder (R7), servo samples (R68), index periods (R46, R52). -/

namespace Sys2Proof.Machine

/-! ## Codes (R181) -/

/-- The completion codes of R181. -/
def Completion.code : Completion → Nat
  | .good => 0x00
  | .recovered => 0x01
  | .aborted => 0x02
  | .busy => 0x03
  | .illegalRequest => 0x04
  | .noCartridge => 0x05
  | .notReady => 0x06
  | .bayFault => 0x07
  | .unformatted => 0x08
  | .unitChanged => 0x09
  | .outOfRange => 0x0A
  | .writeProtected => 0x0B
  | .mediumError => 0x0C
  | .idNotFound => 0x0D
  | .writeFault => 0x0E
  | .seekError => 0x0F
  | .spinFault => 0x10
  | .dataNotPreserved => 0x11
  | .sparesExhausted => 0x12
  | .spareWriteFailed => 0x13
  | .flushFailed => 0x14
  | .prevented => 0x15
  | .notStaged => 0x16
  | .systemAreaDefect => 0x17
  | .tableRejected => 0x18
  | .linkError => 0x19
  | .frameError => 0x1A
  | .defectListFull => 0x1B
  | .unexpectedData => 0x1C

/-- The mount detail codes of R181. -/
def MountDetail.code : MountDetail → Nat
  | .none => 0x00
  | .noRecord => 0x10
  | .recordCheck => 0x11
  | .signature => 0x12
  | .version => 0x13
  | .geometry => 0x14
  | .zoneCount => 0x15
  | .zoneLayout => 0x16
  | .zoneFormat => 0x17
  | .defectMap => 0x18

/-- The spin detail codes of R181. -/
def SpinDetail.code : SpinDetail → Nat
  | .none => 0x00
  | .noIndex => 0x28
  | .indexLost => 0x29
  | .spinTimeout => 0x2A
  | .speedLost => 0x2B
  | .brake => 0x2C

/-- The actuator detail codes of R181. -/
def ActDetail.code : ActDetail → Nat
  | .none => 0x00
  | .load => 0x30
  | .noServo => 0x31
  | .calRange => 0x32
  | .recal => 0x33
  | .unload => 0x34
  | .retract => 0x35

/-- The bay fault codes of R181: a SPIN or ACTUATOR fault has the code of its own detail. -/
def FaultDetail.code : FaultDetail → Nat
  | .none => 0x00
  | .lock => 0x20
  | .lockLost => 0x21
  | .spin d => d.code
  | .actuator d => d.code

/-- The seek failure codes of R181. -/
def SeekCause.code : SeekCause → Nat
  | .none => 0x00
  | .seekTimeout => 0x38
  | .trackMismatch => 0x39

/-- The cartridge states in the order of R91. -/
def CartState.code : CartState → Nat
  | .empty => 0
  | .seated => 1
  | .locking => 2
  | .spinningUp => 3
  | .mounting => 4
  | .mounted => 5
  | .unformatted => 6
  | .formatting => 7
  | .unmounting => 8
  | .releasing => 9
  | .released => 10
  | .bayFault => 11

/-- The detail byte (R181). -/
def Detail.code : Detail → Nat
  | .none => 0x00
  | .stopped => 0x01
  | .tooLate => 0x02
  | .recordDiscarded => 0x03
  | .clamped => 0x04
  | .mount d => d.code
  | .fault d => d.code
  | .spin d => d.code
  | .seek c => c.code
  | .length => 0x40
  | .crc => 0x41
  | .structure => 0x42
  | .zone => 0x43
  | .defectList => 0x44
  | .parity => 0x48
  | .header => 0x49
  | .short => 0x4A
  | .over => 0x4B
  | .timeout => 0x4C
  | .cartState c => c.code
  | .zoneNumber z => z
  | .result c => c.code

/-- The readiness codes of R181. -/
def Readiness.code : Readiness → Nat
  | .ready => 0
  | .loadDelay => 1
  | .spinDelay => 2
  | .unavailable => 3

/-- The rank of an attention kind; its code is one more (R181). -/
def AttnKind.rank : AttnKind → Nat
  | .inserted => 0
  | .removed => 1
  | .ejectRequest => 2
  | .readiness => 3
  | .recordDiscarded => 4
  | .bayFault => 5

/-- The bay field byte of R181. -/
def BayField.code : BayField → Byte
  | .bay .bayA => 0x0A
  | .bay .bayB => 0x0B
  | .device => 0x0D

/-- The bay field that a byte names (R181). -/
def BayField.ofByte (x : Byte) : Option BayField :=
  if x = 0x0A then some (.bay .bayA)
  else if x = 0x0B then some (.bay .bayB)
  else if x = 0x0D then some .device
  else none

/-- The command code of a command that takes a slot (R181). -/
def CmdOp.code : CmdOp → Byte
  | .read => 0x10
  | .write => 0x11
  | .verify => 0x12
  | .seek => 0x13
  | .reassign => 0x14
  | .format _ _ _ _ => 0x15
  | .flushRecord => 0x16
  | .eject _ => 0x20
  | .reportCartridge => 0x23
  | .reportCapacity => 0x24
  | .reportDefects => 0x25
  | .standbyNow => 0x26
  | .wake => 0x27
  | .loadTable _ => 0x40
  | .readTable _ => 0x41
  | .identify => 0x42

/-- The codes of the immediate commands (R181). -/
def preventCode : Byte := 0x21
def allowCode : Byte := 0x22
def abortCode : Byte := 0x30
def requestSenseCode : Byte := 0x31
def peekCode : Byte := 0x32

/-- The media commands (R132, R165): READ, WRITE, VERIFY, SEEK, REASSIGN, FORMAT and FLUSH RECORD. -/
def CmdOp.isMedia : CmdOp → Bool
  | .read | .write | .verify | .seek | .reassign | .format _ _ _ _ | .flushRecord => true
  | .eject _ | .reportCartridge | .reportCapacity | .reportDefects | .standbyNow | .wake | .loadTable _ | .readTable _
  | .identify => false

/-- The count of a command from its count field: 0 means 256 (R132). -/
def countOf (x : Byte) : Nat := if x = 0 then 256 else x.toNat

/-! ## Inbound frames (R172 to R175, R178) -/

/-- Which bay fields a command code allows (R181). -/
inductive FieldRule where
  | bays | any | deviceOnly | byTable
  deriving DecidableEq, Repr

/-- The parameter length and the bay fields of a command code (R181); none for an unknown code. -/
def commandForm (code : Byte) : Option (Nat × FieldRule) :=
  match code.toNat with
  | 0x10 | 0x11 | 0x12 => some (4, .bays)
  | 0x13 | 0x14 => some (3, .bays)
  | 0x15 => some (2, .bays)
  | 0x16 => some (0, .bays)
  | 0x20 => some (1, .bays)
  | 0x21 | 0x22 | 0x23 | 0x24 | 0x25 | 0x26 | 0x27 => some (0, .bays)
  | 0x30 => some (0, .any)
  | 0x31 | 0x32 => some (0, .bays)
  | 0x40 => some (3, .byTable)
  | 0x41 => some (1, .byTable)
  | 0x42 => some (0, .deviceOnly)
  | _ => none

/-- Whether a bay field is one the command allows (check 3 of R175): tables 1 and 2 go to DEVICE, 3 and 4 to a bay. -/
def fieldAllowed (rule : FieldRule) (target : BayField) (params : List Byte) : Bool :=
  match rule with
  | .bays => target != .device
  | .any => true
  | .deviceOnly => target == .device
  | .byTable =>
    let id := field params 0 1
    if id = 1 ∨ id = 2 then target == .device else if id = 3 ∨ id = 4 then target != .device else true

/-- Whether the parameter bytes hold defined values (check 4 of R175). -/
def paramsDefined (code : Byte) (params : List Byte) : Bool :=
  match code.toNat with
  | 0x15 => decide (field params 1 1 < 8)
  | 0x20 => decide (field params 0 1 < 2)
  | 0x40 => decide (1 ≤ field params 0 1) && decide (field params 0 1 ≤ 4) && decide (1 ≤ field params 1 2)
      && decide (field params 1 2 ≤ 2048)
  | 0x41 => decide (1 ≤ field params 0 1) && decide (field params 0 1 ≤ 4)
  | _ => true

/-- The four checks of R175 on a COMMAND payload. -/
def commandAccepted (target : BayField) (payload : List Byte) : Bool :=
  match payload with
  | [] => false
  | code :: params =>
    match commandForm code with
    | some (n, rule) => params.length == n && fieldAllowed rule target params && paramsDefined code params
    | none => false

/-- The LBA of a command's parameters (R181). -/
def lbaOf (params : List Byte) : BitVec 24 := BitVec.ofNat 24 (field params 0 3)

/-- The command aimed at a bay that a code and its parameters spell (R181). -/
def bayInstr (b : BayId) (code : Nat) (params : List Byte) : Option Instr :=
  let options := params.getD 1 0
  let length := BitVec.ofNat 16 (field params 1 2)
  match code with
  | 0x10 => some (.read b (lbaOf params) (params.getD 3 0))
  | 0x11 => some (.write b (lbaOf params) (params.getD 3 0))
  | 0x12 => some (.verify b (lbaOf params) (params.getD 3 0))
  | 0x13 => some (.seek b (lbaOf params))
  | 0x14 => some (.reassign b (lbaOf params))
  | 0x15 => some (.format b (params.getD 0 0) (options.getLsbD 0) (options.getLsbD 1) (options.getLsbD 2))
  | 0x16 => some (.flushRecord b)
  | 0x20 => some (.eject b ((params.getD 0 0).getLsbD 0))
  | 0x21 => some (.prevent b)
  | 0x22 => some (.allow b)
  | 0x23 => some (.reportCartridge b)
  | 0x24 => some (.reportCapacity b)
  | 0x25 => some (.reportDefects b)
  | 0x26 => some (.standbyNow b)
  | 0x27 => some (.wake b)
  | 0x30 => some (.abort (.bay b))
  | 0x31 => some (.requestSense b)
  | 0x32 => some (.peek b)
  | 0x40 =>
    match field params 0 1 with
    | 3 => some (.loadTableZone b length)
    | 4 => some (.loadTableDefectList b length)
    | _ => none
  | 0x41 =>
    match field params 0 1 with
    | 3 => some (.readTableZone b)
    | 4 => some (.readTableDefectList b)
    | _ => none
  | _ => none

/-- The command aimed at DEVICE that a code and its parameters spell (R181). -/
def deviceInstr (code : Nat) (params : List Byte) : Option Instr :=
  let length := BitVec.ofNat 16 (field params 1 2)
  match code with
  | 0x30 => some (.abort .device)
  | 0x40 =>
    match field params 0 1 with
    | 1 => some (.loadTableMode length)
    | 2 => some (.loadTableProfile length)
    | _ => none
  | 0x41 =>
    match field params 0 1 with
    | 1 => some .readTableMode
    | 2 => some .readTableProfile
    | _ => none
  | 0x42 => some .identify
  | _ => none

/-- The command that a COMMAND payload spells, once the checks of R175 have passed (R181). -/
def commandInstr (target : BayField) (payload : List Byte) : Option Instr :=
  if commandAccepted target payload then
    match target with
    | .bay b => bayInstr b (field payload 0 1) (payload.drop 1)
    | .device => deviceInstr (field payload 0 1) (payload.drop 1)
  else none

/-- Bits 0, 1 and 2 of an option byte (R181). -/
def optionByte (bit0 bit1 bit2 : Bool) : Byte :=
  BitVec.ofNat 8 ((if bit0 then 1 else 0) + (if bit1 then 2 else 0) + (if bit2 then 4 else 0))

/-- The bay field and the payload of the COMMAND frame that carries a command (R181); none for an event. -/
def commandFrame : Instr → Option (BayField × List Byte)
  | .read b lba count => some (.bay b, 0x10 :: beBytes 3 lba.toNat ++ [count])
  | .write b lba count => some (.bay b, 0x11 :: beBytes 3 lba.toNat ++ [count])
  | .verify b lba count => some (.bay b, 0x12 :: beBytes 3 lba.toNat ++ [count])
  | .seek b lba => some (.bay b, 0x13 :: beBytes 3 lba.toNat)
  | .reassign b lba => some (.bay b, 0x14 :: beBytes 3 lba.toNat)
  | .format b heads certify useList keepGrown => some (.bay b, [0x15, heads, optionByte certify useList keepGrown])
  | .flushRecord b => some (.bay b, [0x16])
  | .eject b force => some (.bay b, [0x20, optionByte force false false])
  | .prevent b => some (.bay b, [0x21])
  | .allow b => some (.bay b, [0x22])
  | .reportCartridge b => some (.bay b, [0x23])
  | .reportCapacity b => some (.bay b, [0x24])
  | .reportDefects b => some (.bay b, [0x25])
  | .standbyNow b => some (.bay b, [0x26])
  | .wake b => some (.bay b, [0x27])
  | .abort target => some (target, [0x30])
  | .requestSense b => some (.bay b, [0x31])
  | .peek b => some (.bay b, [0x32])
  | .loadTableMode length => some (.device, [0x40, 1] ++ beBytes 2 length.toNat)
  | .loadTableProfile length => some (.device, [0x40, 2] ++ beBytes 2 length.toNat)
  | .loadTableZone b length => some (.bay b, [0x40, 3] ++ beBytes 2 length.toNat)
  | .loadTableDefectList b length => some (.bay b, [0x40, 4] ++ beBytes 2 length.toNat)
  | .readTableMode => some (.device, [0x41, 1])
  | .readTableProfile => some (.device, [0x41, 2])
  | .readTableZone b => some (.bay b, [0x41, 3])
  | .readTableDefectList b => some (.bay b, [0x41, 4])
  | .identify => some (.device, [0x42])
  | .resetAsserted | .endOfReset _ | .powerFailLatch | .linkReset | .linkResetRelease | .ldirChange _ _
  | .inboundFrameError _ | .dataOutFrame _ _ _ | .outboundFrameSent | .linkTimeout _ | .indexEdge _ _ | .powerOnWatchEnd _
  | .firstIndexTimerExpiry _ | .gapTimerExpiry _ | .spinUpTimerExpiry _ | .recoveryTimerExpiry _ | .brakeTimerExpiry _
  | .stopTimerExpiry _ | .servoSample _ _ | .loadTimerExpiry _ | .seekTimerExpiry _ | .recalibrateTimerExpiry _
  | .positionerUnloadTimerExpiry _ | .retractTimerExpiry _ | .parkSensorChange _ _ | .presentAccepted _ | .presentLost _
  | .writeProtectChange _ _ | .lockSenseEngaged _ | .lockSenseOpen _ | .ejectButtonPress _ | .settleTimerExpiry _
  | .pulseEnd _ | .lockConfirmExpiry _ | .releaseConfirmExpiry _ | .idFieldRead _ | .idSearchAttemptEnd | .dataFieldRead _ _
  | .dataFieldWritten | .formatTrackWritten | .visitFieldCountEnd | .idleUnloadTimerExpiry _ | .standbyTimerExpiry _
  | .ledFlashToggle _ => none

/-- What an inbound frame comes to at its end (R173, R175, R178). -/
inductive FrameVerdict where
  /-- FRAME_ERROR for DEVICE -/
  | frameError (d : Detail)
  /-- a COMMAND frame answered by a STATUS for its bay field -/
  | answered (target : BayField) (c : Completion) (d : Detail) (code : Byte)
  /-- a DATA-OUT frame with a good header -/
  | dataOut (target : BayField) (declared : Nat) (payload : List LinkByte)
  /-- a COMMAND frame without error, with the command it carries -/
  | command (i : Instr)
  deriving DecidableEq, Repr

/-- The error of a payload against its declared length, parity first (R173; notes/assumptions/21.md). `ended` is the detail of
a payload that ends early: SHORT, or TIMEOUT, which comes before the others (R178). -/
def payloadError (declared : Nat) (payload : List LinkByte) (ended : Detail) : Option Detail :=
  if ended = .timeout then some .timeout
  else if payload.any fun x => !linkParityOk x then some .parity
  else if payload.length < declared then some ended
  else if declared < payload.length then some .over
  else none

/-- The verdict on a whole frame, header first. `ended` says how a frame that ends early ends (R173, R178). -/
def frameVerdict (bytes : List LinkByte) (ended : Detail) : FrameVerdict :=
  let header := (bytes.take 4).map linkData
  let payload := bytes.drop 4
  let kind := field header 0 1
  let declared := field header 2 2
  if bytes.length < 4 then .frameError ended
  else if (bytes.take 4).any fun x => !linkParityOk x then .frameError .parity
  else
    match BayField.ofByte (header.getD 1 0) with
    | none => .frameError .header
    | some target =>
      if 512 < declared then .frameError .header
      else if kind = 2 then .dataOut target declared payload
      else if kind = 1 then
        let code := (payload.map linkData).getD 0 0
        match payloadError declared payload ended with
        | some d => .answered target .linkError d code
        | none =>
          match commandInstr target (payload.map linkData) with
          | some i => .command i
          | none => .answered target .illegalRequest .none code
      else .frameError .header

/-! ## Frames the part sends (R171, R172, R181) -/

/-- The kinds of the frames that the part sends (R181). -/
def OutKind.code : OutKind → Byte
  | .dataIn => 0x03
  | .status => 0x04
  | .attention => 0x05

/-- A frame header: kind, bay field and payload length (R181). -/
def frameHeader (kind : Byte) (target : BayField) (length : Nat) : List Byte := [kind, BayField.code target] ++ beBytes 2 length

/-- The bytes of an outbound frame as the link carries them, header first, each with its odd parity (R171, R172). -/
def OutFrame.bytes (f : OutFrame) : List LinkByte :=
  (frameHeader f.kind.code f.target f.payload.length ++ f.payload).map linkByte

/-- The exchange of the frame's last byte has ended (R171). -/
def OutFrame.over (f : OutFrame) : Bool := decide (f.bytes.length ≤ f.sent)

/-- The host adapter gives the awaited phase of the byte exchange (R171): LACK raised makes the part drop LSTB; LACK dropped ends
the byte, and the next one is placed with LSTB raised. -/
def OutFrame.advance (f : OutFrame) : OutFrame :=
  if f.strobe then { f with strobe := false }
  else { f with sent := f.sent + 1, strobe := decide (f.sent + 1 < f.bytes.length) }

/-! ## ID fields (R6, R9, R181) -/

/-- The contents of an ID field. -/
structure IdField where
  cyl : Nat
  head : Nat
  ps : Nat
  zone : Nat
  spareArea : Bool
  deriving DecidableEq, Repr

/-- A good ID field: its contents when its CRC-16 agrees, nothing otherwise (R6). -/
def goodId (raw : BitVec 48) : Option IdField :=
  let bytes := beBytes 6 raw.toNat
  let place := field bytes 2 1
  if crc16 (bytes.take 4) = field bytes 4 2 then
    some { cyl := field bytes 0 2, head := place / 128, ps := place % 64, zone := field bytes 3 1 % 16,
           spareArea := place / 64 % 2 == 1 }
  else none

/-- The six bytes of an ID field (R181). -/
def IdField.bytes (x : IdField) : List Byte :=
  withCrc (beBytes 2 x.cyl ++ byte1 (x.head * 128 + (if x.spareArea then 64 else 0) + x.ps) ++ byte1 x.zone)

/-- The wanted ID field of a sector (R6). -/
def Sector.wanted (x : Sector) : IdField where
  cyl := x.addr.cyl
  head := x.addr.head
  ps := x.addr.ps
  zone := x.zone
  spareArea := x.spareArea

/-! ## Data fields and their decoder (R7) -/

/-- A data field as the Data Channel writes it: its check is computed over the data (R7). -/
def dataField (data : List Byte) : DataField := { data, check := Config.dataCheck data }

/-- The recomputed check agrees with the recorded check (R7). -/
def DataField.agrees (f : DataField) : Bool := Config.dataCheck f.data == f.check

/-- The 4,144 recorded bits of a field as one number: the data and then the check, most significant first (00_scope.md, Byte
order; that the bits of a byte lie so too is the model's, notes/assumptions/6.md). -/
def DataField.bits (f : DataField) : Nat := beNat f.data * 2 ^ 48 + f.check.toNat

/-- The field that 4,144 recorded bits make. -/
def DataField.ofBits (x : Nat) : DataField := { data := beBytes 512 (x / 2 ^ 48), check := BitVec.ofNat 48 x }

/-- A burst of errors: how many recorded bits follow its last bit in error, and its bits, the first and the last of them in error. -/
structure Burst where
  place : Nat
  errors : Nat
  deriving DecidableEq, Repr

/-- The bits of a burst from the first to the last one in error, inclusive (R7). -/
def Burst.span (x : Burst) : Nat := Nat.log2 x.errors + 1

/-- A burst of one of the patterns that the code corrects, `k` below 1,024: up to 11 bits, the last one in error (R7). -/
def Burst.at (place k : Nat) : Burst := { place, errors := 2 * k + 1 }

/-- The field with the bits of a burst inverted. -/
def DataField.corrected (f : DataField) (x : Burst) : DataField := .ofBits (f.bits ^^^ (x.errors <<< x.place))

/-- The errors of the field form the burst: it lies within the recorded bits, data and check, and with it inverted the check
agrees (R7). -/
def DataField.explainedBy (f : DataField) (x : Burst) : Bool :=
  decide (x.place + x.span ≤ Config.fieldBits) && (f.corrected x).agrees

/-- The burst of up to 11 bits, anywhere in the recorded bits, that the errors of a field form, if they form one (R7). -/
def DataField.burst (f : DataField) : Option Burst :=
  (List.range Config.fieldBits).findSome? fun place =>
    ((List.range Config.burstPatterns).map (Burst.at place)).find? f.explainedBy

/-- What the decoder makes of a field read: its class and the 512 bytes, as read or as the correction restores them (R7). Of an
UNCORRECTABLE field the bytes are not known, and they stay as read. -/
def decodeField (f : DataField) : EccClass × List Byte :=
  if f.agrees then (.clean, f.data)
  else
    match f.burst with
    | some x => (.correctable x.span, (f.corrected x).data)
    | none => (.uncorrectable, f.data)

/-! ## Servo samples (R68) -/

/-- Quotient rounded to the nearest integer, halves away from zero (R68). -/
def roundDiv (n : Int) (d : Nat) : Int :=
  let q : Int := ((2 * n.natAbs + d) / (2 * d) : Nat)
  if n < 0 then -q else q

/-- Clamp into a range. -/
def clampInt (lo hi x : Int) : Int := max lo (min hi x)

/-- A sample with its validity and, when valid, its raw and corrected PES under the bias (R68). -/
def sampleOf (w : ServoWord) (bias : Int) : Sample :=
  let a := w.ampA.toNat
  let b := w.ampB.toNat
  let sum := a + b
  let valid := w.sync && a != 255 && b != 255 && decide (24 ≤ sum)
  let q := if valid then roundDiv (((a : Int) - b) * 256) sum else 0
  { sync := w.sync, indexFlag := w.indexFlag, track := w.track.toNat, ampA := a, ampB := b, sum, valid, rawPes := q,
    pes := if valid then clampInt (-256) 256 (q - bias) else 0 }

/-- A calibration sample of the gain phase: sync found and neither amplitude saturated (R72). -/
def Sample.forGain (x : Sample) : Bool := x.sync && x.ampA != 255 && x.ampB != 255

/-- The PES correction: outward for positive p, inward for negative p, magnitude |p| div 16 clamped to 15 (R80). -/
def correctionMag (p : Int) : Nat := min 15 (p.natAbs / 16)

/-! ## Index periods (R46, R52) -/

/-- The deviation of a period in tenths of a percent, truncated toward zero (R46). -/
def deviationOf (period : Nat) : Int := Int.tdiv ((period : Int) - 20000) 20

/-- The regulation step of a period (R52). -/
def regulationStep (period : Nat) : Int := clampInt (-8) 8 (Int.tdiv ((period : Int) - 20000) 16)

/-- The drive level after a regulation step (R52). -/
def regulatedDrive (drive period : Nat) : Nat := (clampInt 0 255 ((drive : Int) + regulationStep period)).toNat

/-- The in-window condition; a saturated revolution never meets it (R45, R46). -/
def inWindow (period : Nat) : Bool :=
  decide (period < Config.saturatedPeriod) && decide (-5 ≤ deviationOf period) && decide (deviationOf period ≤ 5)

/-- The regulation-entry condition (R46, R51). -/
def entersRegulation (period : Nat) : Bool :=
  decide (period < Config.saturatedPeriod) && decide (deviationOf period ≤ 5)

/-- The speed-fault condition; a saturated revolution always meets it (R45, R46). -/
def outOfSpeed (period : Nat) : Bool :=
  decide (Config.saturatedPeriod ≤ period) || decide (20 < deviationOf period) || decide (deviationOf period < -20)

end Sys2Proof.Machine
end

