-- ==== Sys2Proof/Machine/Flags.lean ====
section
/-! DEFINITION. Conditions and outputs that are functions of the state: spinning and loaded states, readiness, the parked and
stopped conditions, the write gate's conditions, LSRQ, the brake and retract outputs, the activity LED. -/

namespace Sys2Proof.Machine

/-- The spinning states of R43. -/
def SpinState.spinning : SpinState → Bool
  | .accelerating | .regulating | .atSpeed | .speedFault => true
  | .stopped | .waitAllowance | .braking | .spinFailed | .coasting => false

/-- The brake output (R43). -/
def SpinState.brake : SpinState → Bool
  | .braking | .spinFailed => true
  | .stopped | .waitAllowance | .accelerating | .regulating | .atSpeed | .speedFault | .coasting => false

/-- The loaded states of R65. -/
def PosState.loaded : PosState → Bool
  | .loading | .calibrating | .seeking | .settling | .following | .recalibrating => true
  | .parked | .unloading | .retracting | .actFault => false

/-- Ready for head load: AT_SPEED with purge remaining 0 (R54). -/
def Spindle.ready (x : Spindle) : Bool := x.state == .atSpeed && x.purgeRemaining == 0

/-- At rest: STOPPED with the power-on watch closed (R61). -/
def Spindle.atRest (x : Spindle) : Bool := x.state == .stopped && !x.watchOpen

/-- Heads confirmed parked: PARKED, or ACT_FAULT with the park sensor reading parked (R87, R111). -/
def Positioner.confirmedParked (x : Positioner) : Bool := x.state == .parked || (x.state == .actFault && x.parked)

/-- The conditions under which the heads may load (R67, R70). -/
def Bay.mayLoad (x : Bay) : Bool := x.spindle.ready && x.cart.lockEngaged

/-- The heads are FOLLOWING on a track. -/
def Positioner.on (x : Positioner) (t : Track) : Bool := x.state == .following && x.target == some t

/-- The retract output (R65, R86, R87, R192); while RESET is held that of each bay, present or not (notes/assumptions/100.md). -/
def State.retractDriven (s : State) (b : BayId) : Bool :=
  s.resetHeld || (s.bay b).pos.state == .retracting || ((s.bay b).pos.state == .actFault && !(s.bay b).pos.parked)

/-- The spindle drive level output; 0 while RESET is held (R43, R192). -/
def State.driveLevel (s : State) (b : BayId) : Nat := if s.resetHeld then 0 else (s.bay b).spindle.drive

/-- The brake output; off while RESET is held (R43, R192). -/
def State.brakeOn (s : State) (b : BayId) : Bool := !s.resetHeld && (s.bay b).spindle.state.brake

/-- The mask bit of an attention; a set bit masks (R181, R185). -/
def State.masked (s : State) (b : BayId) (k : AttnKind) : Bool :=
  match b with
  | .bayA => s.dmt.maskA.getLsbD k.rank
  | .bayB => s.dmt.maskB.getLsbD k.rank

/-- An attention that may be sent: raised and not masked (R190). -/
def State.eligible (s : State) (b : BayId) (k : AttnKind) : Bool :=
  ((s.bay b).attn.get k).raised && !s.masked b k

/-- The attentions in the order in which they are sent: lowest kind first, bay A before bay B within a kind (R177). -/
def attentionOrder : List (BayId × AttnKind) :=
  [ (.bayA, .inserted), (.bayB, .inserted), (.bayA, .removed), (.bayB, .removed), (.bayA, .ejectRequest),
    (.bayB, .ejectRequest), (.bayA, .readiness), (.bayB, .readiness), (.bayA, .recordDiscarded), (.bayB, .recordDiscarded),
    (.bayA, .bayFault), (.bayB, .bayFault) ]

/-- The attention that is sent next, if one may be (R177). -/
def State.nextAttention (s : State) : Option (BayId × AttnKind) := attentionOrder.find? fun x => s.eligible x.1 x.2

/-- The link can carry traffic: RESET has ended, LRST is not asserted, no power-fail edge is latched (R179, R180, R192). -/
def State.linkAlive (s : State) : Bool := !s.resetHeld && !s.powerLoss && !s.link.lrst

/-- LSRQ (R177): a descriptor or an unmasked attention waits and no frame is going out. -/
def State.lsrq (s : State) : Bool :=
  s.linkAlive && s.link.outFrame.isNone && (!s.link.queue.isEmpty || s.nextAttention.isSome)

/-- The readiness class of a power mode (R168). -/
def PowerMode.readiness : PowerMode → Readiness
  | .active | .idle => .ready
  | .parkedIdle => .loadDelay
  | .standby => .spinDelay
  | .unmounted => .unavailable

/-- The cartridge states in which the activity LED is lit (R193). -/
def CartState.litLed : CartState → Bool
  | .locking | .spinningUp | .mounting | .mounted | .unformatted | .formatting | .unmounting | .releasing => true
  | .empty | .seated | .released | .bayFault => false

/-- The activity LED (R192, R193). -/
def State.activityLed (s : State) (b : BayId) : Bool :=
  if s.resetHeld || s.powerLoss || !s.bayPresent b then false
  else if (s.bay b).cart.state == .bayFault then (s.bay b).ledLit
  else (s.bay b).slot.isSome || (s.bay b).cart.state.litLed

/-- The states in which a lock sense reading open is a lock fault (R109). -/
def CartState.lockWatched : CartState → Bool
  | .spinningUp | .mounting | .mounted | .unformatted | .formatting | .unmounting => true
  | .empty | .seated | .locking | .releasing | .released | .bayFault => false

/-- The conditions of the write gate besides the channel grant, for a track to be written (R63, R124). -/
def State.gateAllowed (s : State) (b : BayId) (t : Track) : Bool :=
  (s.bay b).pos.on t && (s.bay b).pos.onTrack && !(s.bay b).cart.wpProtected && !s.powerLoss
    && (s.bay b).spindle.state != .speedFault

/-- Whether a visit of this bay is under way. -/
def State.visiting (s : State) (b : BayId) : Bool :=
  match s.chan.visit with
  | some v => v.bay == b
  | none => false

/-- The track of a sector. -/
def Sector.track (x : Sector) : Track := { cyl := x.addr.cyl, head := x.addr.head }

/-- The address of a sector as a sense record takes it (R144). -/
def PhysAddr.sense (x : PhysAddr) : SenseAddr := { cyl := x.cyl, head := x.head, ps := some x.ps }

/-- An inbound frame may begin: LDIR at OUT and no frame in progress or withheld (R171). -/
def State.frameMayBegin (s : State) : Bool :=
  s.linkAlive && s.link.ldir == .hostSends && s.link.inFrame.isNone && s.link.withheld.isNone

/-- The link acknowledges the first header byte of an inbound frame: one may begin, and there is room for its two entries
(R171, R176). -/
def State.takesFrame (s : State) : Bool :=
  s.frameMayBegin && decide (s.link.queue.length + s.link.reservations ≤ Config.frameStartRoom)

/-- An inbound frame whose bytes come in time is in progress: a row that ends a frame ends this one (R172). -/
def State.frameUnderWay (s : State) : Bool :=
  s.linkAlive && s.link.ldir == .hostSends && s.link.withheld.isNone && s.link.inFrame.any fun f => f.due.isNone

/-- The header bytes of an inbound frame taken so far (R172). -/
def InFrame.header (f : InFrame) : List Byte := (f.bytes.take 4).map linkData

/-- The payload bytes of an inbound frame taken so far (R172). -/
def InFrame.received (f : InFrame) : Nat := f.bytes.length - 4

/-- A byte of an inbound frame came with wrong parity (R171, R172). -/
def InFrame.parityError (f : InFrame) : Bool := f.bytes.any fun x => !linkParityOk x

/-- What the part drives on the link, LSRQ apart (R171): LD0 to LD7 with LDP, LFRM and LSTB while it sends, LACK while the host
adapter does. -/
structure LinkLines where
  data : Option LinkByte
  lfrm : Bool
  lstb : Bool
  lack : Bool
  deriving DecidableEq, Repr

/-- The lines that the part drives: those of the outbound frame in progress with LDIR at IN, LACK of the inbound frame in progress
with LDIR at OUT, and none that is asserted otherwise (R171, R178, R179, R180, R192). -/
def State.linkLines (s : State) : LinkLines :=
  let sent := s.link.outFrame.filter fun _ => s.linkAlive && s.link.ldir == .partSends
  { data := sent.bind fun f => f.bytes[f.sent]?
    lfrm := sent.any fun f => !f.over
    lstb := sent.any fun f => f.strobe
    lack := s.linkAlive && s.link.ldir == .hostSends && s.link.inFrame.any fun f => f.ack }

/-- The sample select output: driven while a read of that bay's sample is under way; that of an absent bay is inactive (R191). -/
def State.sampleSelect (s : State) (b : BayId) : Bool := s.bayPresent b && s.servo.reading.any fun r => r.bay == b

/-- How often SSTB has strobed in the read under way: once for each byte (R191). -/
def State.sstbStrobes (s : State) : Nat := (s.servo.reading.map fun r => r.bytes.length).getD 0

/-- A bay's events reach it: RESET has ended and the bay is present (R89, R191, R192). -/
def State.bayLive (s : State) (b : BayId) : Bool := !s.resetHeld && s.bayPresent b

end Sys2Proof.Machine
end

