-- ==== Sys2Proof/Machine/Translate.lean ====
section
/-! DEFINITION. Address translation and sparing (02_address_translation_and_sparing.md): the derived zone values, translation of
a logical block, spare slots, the defect map, allocation, and the table changes of a reassign. Pure arithmetic on tables. -/

namespace Sys2Proof.Machine

/-! ## Zones and capacity (R16, R17) -/

/-- C_z of R16. -/
def ZoneEntry.cylinders (z : ZoneEntry) : Nat := z.last - z.first + 1

/-- U_z of R16. -/
def ZoneEntry.userCylinders (z : ZoneEntry) : Nat := z.cylinders - z.spare

/-- The first spare cylinder of R16. -/
def ZoneEntry.firstSpare (z : ZoneEntry) : Nat := z.last - z.spare + 1

/-- N_z of R16. -/
def ZoneEntry.size (z : ZoneEntry) (heads : Nat) : Nat := z.userCylinders * heads * z.spt

/-- per_z of R16: slots per spare cylinder. -/
def ZoneEntry.perCylinder (z : ZoneEntry) (heads : Nat) : Nat := heads * (z.spt + 1)

/-- The pool capacity of R16. -/
def ZoneEntry.pool (z : ZoneEntry) (heads : Nat) : Nat := z.spare * z.perCylinder heads

/-- Whether a cylinder lies in a zone. -/
def ZoneEntry.has (z : ZoneEntry) (cyl : Nat) : Bool := z.first ≤ cyl && cyl ≤ z.last

/-- Whether a cylinder is one of a zone's spare cylinders. -/
def ZoneEntry.isSpare (z : ZoneEntry) (cyl : Nat) : Bool := z.firstSpare ≤ cyl && cyl ≤ z.last

/-- The capacity of R17: the sum of N_z over the zones. -/
def capacityOf (heads : Nat) (zones : List ZoneEntry) : Nat := (zones.map fun z => z.size heads).sum

/-- base_z of R16 for the zone of a number. -/
def baseOf (heads : Nat) (zones : List ZoneEntry) (z : Nat) : Nat := capacityOf heads (zones.take z)

/-- The capacity of installed tables (R17). -/
def Tables.capacity (t : Tables) : Nat := capacityOf t.heads t.zones

/-- The capacity of a Translation Unit: 0 when it holds no tables (R15, R17). -/
def Translation.capacity (u : Translation) : Nat := (u.tables.map Tables.capacity).getD 0

/-- The zone entry of a number. -/
def Tables.zone (t : Tables) (z : Nat) : ZoneEntry :=
  t.zones.getD z { first := 0, last := 0, spt := 0, rate := 0, spare := 0, ptr := 0 }

/-- The number of the zone that holds a cylinder. -/
def zoneOf (zones : List ZoneEntry) (cyl : Nat) : Option Nat := zones.findIdx? fun z => z.has cyl

/-! ## Physical order and the defect map (R24) -/

/-- Physical addresses are ordered by cylinder, then head, then physical sector. -/
def PhysAddr.before (x y : PhysAddr) : Bool :=
  decide (x.cyl < y.cyl) || (x.cyl == y.cyl && (decide (x.head < y.head) || (x.head == y.head && decide (x.ps < y.ps))))

/-- Put an entry at its place in ascending order (R27). -/
def insertEntry (e : DefectEntry) : List DefectEntry → List DefectEntry
  | [] => [e]
  | x :: rest => if e.addr.before x.addr then e :: x :: rest else x :: insertEntry e rest

/-- The entry at an address; the map holds at most one (R24). -/
def entryAt (map : List DefectEntry) (x : PhysAddr) : Option DefectEntry := map.find? fun e => e.addr == x

/-- The physical sector of the SLIPPED entry of a track (R19). -/
def slipAt (map : List DefectEntry) (cyl head : Nat) : Option Nat :=
  (map.find? fun e => e.disp == .slipped && e.addr.cyl == cyl && e.addr.head == head).map fun e => e.addr.ps

/-- Whether an address holds a RETIRED entry (R25). -/
def isRetired (map : List DefectEntry) (x : PhysAddr) : Bool := map.any fun e => e.disp == .retired && e.addr == x

/-! ## Spare slots (R22, R23) -/

/-- The address of spare slot k (R22). -/
def slotAddr (heads : Nat) (z : ZoneEntry) (k : Nat) : PhysAddr where
  cyl := z.firstSpare + k / z.perCylinder heads
  head := k % z.perCylinder heads / (z.spt + 1)
  ps := k % z.perCylinder heads % (z.spt + 1)

/-- The slot number of a spare-area address (R23). -/
def slotNumber (heads : Nat) (z : ZoneEntry) (x : PhysAddr) : Nat :=
  (x.cyl - z.firstSpare) * z.perCylinder heads + x.head * (z.spt + 1) + x.ps

/-- The candidate of R29: the lowest slot at or above the pointer that holds no RETIRED entry; none when the pool is exhausted
(R30). -/
def candidate (heads : Nat) (z : ZoneEntry) (map : List DefectEntry) : Option Nat :=
  (List.range (z.pool heads)).find? fun k => z.ptr ≤ k && !isRetired map (slotAddr heads z k)

/-! ## Translation (R18 to R20) -/

/-- The zone step of R18: the zone's number and the offset in it. -/
def zoneStep (heads : Nat) : List ZoneEntry → Nat → Nat → Option (Nat × Nat)
  | [], _, _ => none
  | z :: rest, n, offset =>
    if offset < z.size heads then some (n, offset) else zoneStep heads rest (n + 1) (offset - z.size heads)

/-- The slip step of R19. -/
def slipStep (slip : Option Nat) (s : Nat) : Nat :=
  match slip with
  | none => s
  | some q => if s < q then s else s + 1

/-- The zone and the home position of a logical block (R18, R19). -/
def Tables.home (t : Tables) (lba : Nat) : Option (Nat × PhysAddr) :=
  (zoneStep t.heads t.zones 0 lba).map fun (n, offset) =>
    let z := t.zone n
    let track := offset / z.spt
    let cyl := z.first + track / t.heads
    let head := track % t.heads
    (n, { cyl, head, ps := slipStep (slipAt t.map cyl head) (offset % z.spt) })

/-- The old target slot of a REMAPPED home position (R20, R31). -/
def Tables.targetAt (t : Tables) (x : PhysAddr) : Option Nat :=
  match entryAt t.map x with
  | some e => if e.disp == .remapped then e.target else none
  | none => none

/-- The sector at an address of a zone, as it is wanted by the channel (R6, R20). -/
def Tables.sectorAt (t : Tables) (n : Nat) (x : PhysAddr) (spareArea : Bool) (lba : Option Nat) : Sector where
  addr := x
  zone := n
  spareArea := spareArea
  rate := (t.zone n).rate
  lba := lba

/-- The holding sector of a logical block (R18 to R20). -/
def Tables.translate (t : Tables) (lba : Nat) : Option Sector :=
  (t.home lba).map fun (n, x) =>
    match t.targetAt x with
    | some k => t.sectorAt n (slotAddr t.heads (t.zone n) k) true (some lba)
    | none => t.sectorAt n x false (some lba)

/-! ## Table changes of a reassign (R34, R35) -/

/-- Set the allocation pointer of a zone (R29). -/
def Tables.setPtr (t : Tables) (n ptr : Nat) : Tables :=
  { t with zones := t.zones.set n { t.zone n with ptr } }

/-- A slot whose spare write failed is retired, and the pointer moves past it (R34). -/
def Tables.retire (t : Tables) (n k : Nat) : Tables :=
  let e : DefectEntry := { addr := slotAddr t.heads (t.zone n) k, disp := .retired, origin := .grown, target := none }
  ({ t with map := insertEntry e t.map } : Tables).setPtr n (k + 1)

/-- The success change of R35: the home position x is held in slot k from now on. -/
def Tables.place (t : Tables) (n : Nat) (x : PhysAddr) (old : Option Nat) (k : Nat) : Tables :=
  match old with
  | none =>
    let e : DefectEntry := { addr := x, disp := .remapped, origin := .grown, target := some k }
    ({ t with map := insertEntry e t.map } : Tables).setPtr n (k + 1)
  | some j =>
    let e : DefectEntry := { addr := slotAddr t.heads (t.zone n) j, disp := .retired, origin := .grown, target := none }
    let map := t.map.map fun m => if m.addr == x then { m with target := some k } else m
    ({ t with map := insertEntry e map } : Tables).setPtr n (k + 1)

/-- The checks of R32 and R34 on the tables: room in the map, then the pool. -/
def Tables.reassignRefusal (t : Tables) (n : Nat) : Option Completion :=
  if Config.maxDefects ≤ t.map.length then some .defectListFull
  else if (candidate t.heads (t.zone n) t.map).isNone then some .sparesExhausted
  else none

/-! ## The defect set of FORMAT (R151, R156) -/

/-- Add an address to the defect set in ascending order; an address already there keeps its origin (R151, R155). -/
def addDefect (x : PhysAddr) (o : Origin) : List (PhysAddr × Origin) → List (PhysAddr × Origin)
  | [] => [(x, o)]
  | y :: rest =>
    if x == y.1 then y :: rest else if x.before y.1 then (x, o) :: y :: rest else y :: addDefect x o rest

/-- Whether an address lies in the user area of a layout (R151). -/
def inLayout (heads : Nat) (zones : List ZoneEntry) (x : PhysAddr) : Bool :=
  decide (1 ≤ x.cyl) && decide (x.head < heads) && zones.any fun z => z.has x.cyl && decide (x.ps ≤ z.spt)

/-- The defect set assembled at FORMAT's acceptance (R151). -/
def assembleDefects (heads : Nat) (zones : List ZoneEntry) (listed grown : List PhysAddr) : List (PhysAddr × Origin) :=
  let set1 := (listed.filter (inLayout heads zones)).foldl (fun acc x => addDefect x .listed acc) []
  (grown.filter (inLayout heads zones)).foldl (fun acc x => addDefect x .grown acc) set1

/-- The zone entry that holds a cylinder, with its number. -/
def zoneHolding (zones : List ZoneEntry) (cyl : Nat) : Option (Nat × ZoneEntry) :=
  match zoneOf zones cyl with
  | some n => (zones[n]?).map fun z => (n, z)
  | none => none

/-- One step of DISPOSE (R156): the zones with their pointers, the entries so far, and the zone whose pool ran out. -/
structure Disposing where
  zones : List ZoneEntry
  map : List DefectEntry
  exhausted : Option Nat
  deriving DecidableEq, Repr

/-- The disposition of one address of the set, taken in ascending order. `all` is the whole set and `retired` holds the
RETIRED entries of pass 1 (R156). -/
def disposeOne (heads : Nat) (all : List (PhysAddr × Origin)) (retired : List DefectEntry) (d : Disposing)
    (x : PhysAddr × Origin) : Disposing :=
  match d.exhausted, zoneHolding d.zones x.1.cyl with
  | none, some (n, z) =>
    let onTrack := all.filter fun y => y.1.cyl == x.1.cyl && y.1.head == x.1.head
    if z.isSpare x.1.cyl then
      { d with map := d.map ++ [{ addr := x.1, disp := .retired, origin := x.2, target := none }] }
    else if x.1.ps == z.spt && onTrack.length == 1 then d
    else if decide (x.1.ps < z.spt) && (onTrack.head?.map fun y => y.1) == some x.1 then
      { d with map := d.map ++ [{ addr := x.1, disp := .slipped, origin := x.2, target := none }] }
    else
      match candidate heads z retired with
      | some k =>
        { d with
          zones := d.zones.set n { z with ptr := k + 1 }
          map := d.map ++ [{ addr := x.1, disp := .remapped, origin := x.2, target := some k }] }
      | none => { d with exhausted := some n }
  | _, _ => d

/-- DISPOSE (R156): the new zones and map, or the zone whose pool is exhausted. Every pool starts with pointer 0. -/
def dispose (heads : Nat) (zones : List ZoneEntry) (all : List (PhysAddr × Origin)) : Disposing :=
  let zones0 := zones.map fun z => { z with ptr := 0 }
  let spare := all.filter fun x => zones0.any fun z => z.isSpare x.1.cyl
  let retired : List DefectEntry := spare.map fun x => { addr := x.1, disp := .retired, origin := x.2, target := none }
  all.foldl (disposeOne heads all retired) { zones := zones0, map := [], exhausted := none }

end Sys2Proof.Machine
end

