-- ==== Sys2Proof/Machine/Record.lean ====
section
/-! DEFINITION. The cartridge record image (R10 to R13, R181), the staged table images (R149, R181), and the checks made on
them. -/

namespace Sys2Proof.Machine

/-- The signature of a cartridge record (R10). -/
def recordSignature : List Byte := [0xC4, 0x12, 0x0A, 0x5E]

/-- The code of a disposition in a defect entry (R181). -/
def Disposition.code : Disposition → Nat
  | .slipped => 1
  | .remapped => 2
  | .retired => 3

/-- The code of an origin in a defect entry (R181). -/
def Origin.code : Origin → Nat
  | .listed => 1
  | .certified => 2
  | .grown => 3

/-- The disposition of a code; 0 is none (R13). -/
def Disposition.ofCode : Nat → Option Disposition
  | 1 => some .slipped
  | 2 => some .remapped
  | 3 => some .retired
  | _ => none

/-- The origin of a code; 0 is none (R13). -/
def Origin.ofCode : Nat → Option Origin
  | 1 => some .listed
  | 2 => some .certified
  | 3 => some .grown
  | _ => none

/-- A zone entry in its 12-byte record form (R181). -/
def zoneBytes (z : ZoneEntry) : List Byte :=
  beBytes 2 z.first ++ beBytes 2 z.last ++ byte1 z.spt ++ byte1 z.rate ++ byte1 z.spare ++ byte1 0 ++ beBytes 2 z.ptr
    ++ byte1 0 ++ byte1 0

/-- A defect entry in its 6-byte record form (R181); an absent target is recorded as zero (R11). -/
def defectBytes (e : DefectEntry) : List Byte :=
  beBytes 2 e.addr.cyl ++ byte1 (e.addr.head * 128 + e.addr.ps) ++ byte1 (e.disp.code * 16 + e.origin.code)
    ++ beBytes 2 (e.target.getD 0)

/-- Fill a run of bytes with zeros up to a length. -/
def padTo (n : Nat) (bytes : List Byte) : List Byte := bytes ++ List.replicate (n - bytes.length) 0

/-- Image bytes 0 to 1,647 of a record (R10 to R12, R181). -/
def recordBody (t : Tables) (generation : Nat) : List Byte :=
  recordSignature ++ byte1 1 ++ byte1 t.heads ++ beBytes 2 t.cylinders ++ beBytes 2 generation ++ flagByte t.certified
    ++ byte1 t.zones.length ++ beBytes 2 t.map.length ++ byte1 0 ++ byte1 0
    ++ padTo 96 (t.zones.flatMap zoneBytes) ++ padTo 1536 (t.map.flatMap defectBytes)

/-- The 2,048-byte record image (R12). -/
def recordImage (t : Tables) (generation : Nat) : List Byte := padTo 2048 (withCrc (recordBody t generation))

/-- Bytes 512 × k to 512 × k + 511 of an image (R5). -/
def recordPartOf (image : List Byte) (k : Nat) : List Byte := (image.drop (512 * k)).take 512

/-- The zone entry at a byte of an image. -/
def zoneAt (image : List Byte) (start : Nat) : ZoneEntry where
  first := field image start 2
  last := field image (start + 2) 2
  spt := field image (start + 4) 1
  rate := field image (start + 5) 1
  spare := field image (start + 6) 1
  ptr := field image (start + 8) 2

/-- The defect entry at a byte of an image; none when a code is 0 (R13). -/
def defectAt (image : List Byte) (start : Nat) : Option DefectEntry :=
  let place := field image (start + 2) 1
  let codes := field image (start + 3) 1
  match Disposition.ofCode (codes / 16 % 4), Origin.ofCode (codes % 4) with
  | some disp, some origin =>
    some { addr := { cyl := field image start 2, head := place / 128, ps := place % 64 }, disp, origin,
           target := if disp = .remapped then some (field image (start + 4) 2) else none }
  | _, _ => none

/-- The tables that an image describes, entries beyond the counts left out (R11). -/
def recordTables (image : List Byte) : Tables where
  heads := field image 5 1
  cylinders := field image 6 2
  generation := field image 8 2
  certified := field image 10 1 != 0
  zones := (List.range (min Config.maxZones (field image 11 1))).map fun i => zoneAt image (16 + 12 * i)
  map := (List.range (min Config.maxDefects (field image 12 2))).filterMap fun i => defectAt image (112 + 6 * i)

/-! ## Zone checks (checks 5 to 8 of R13) -/

/-- The zones follow one another without gap, and no zone's last cylinder is below its first (check 7 of R13). -/
def zonesContiguous (next : Nat) : List ZoneEntry → Bool
  | [] => true
  | z :: rest => z.first == next && decide (z.first ≤ z.last) && zonesContiguous (z.last + 1) rest

/-- The last cylinder of the last zone. -/
def lastCylinder (zones : List ZoneEntry) : Nat := (zones.getLast?.map fun z => z.last).getD 0

/-- The format checks of one zone but for its pointer (check 8 of R13, R1, R4). -/
def ZoneEntry.formatOk (z : ZoneEntry) : Bool :=
  decide (Config.minSpt ≤ z.spt) && decide (z.spt ≤ Config.maxSpt) && decide (z.rate ≤ Config.maxRateCode)
    && decide ((z.spt + 1) * (z.rate + 4) ≤ Config.rateBudget)
    && decide (1 ≤ z.spare) && decide (z.spare ≤ Config.maxSpareCylinders) && decide (z.spare < z.cylinders)

/-- Checks 5 to 8 of R13 on a layout; `pointers` says whether the pointer test of check 8 is made. -/
def layoutDetail (heads cylinders count : Nat) (zones : List ZoneEntry) (pointers : Bool) : MountDetail :=
  if !((heads == 1 || heads == 2) && decide (Config.minCylinders ≤ cylinders) && decide (cylinders ≤ Config.maxCylinders))
  then .geometry
  else if !(decide (1 ≤ count) && decide (count ≤ Config.maxZones)) then .zoneCount
  else if !(zonesContiguous 1 zones && lastCylinder zones + 1 == cylinders) then .zoneLayout
  else if !(zones.all fun z => z.formatOk && (!pointers || decide (z.ptr ≤ z.pool heads))) then .zoneFormat
  else .none

/-! ## The defect map check (check 9 of R13) -/

/-- Strictly ascending by address. -/
def ascending : List DefectEntry → Bool
  | [] => true
  | [_] => true
  | x :: y :: rest => x.addr.before y.addr && ascending (y :: rest)

/-- The place of one entry: within the cartridge, and on a user or a spare cylinder as its disposition asks. -/
def entryPlaced (t : Tables) (e : DefectEntry) : Bool :=
  match zoneHolding t.zones e.addr.cyl with
  | some (_, z) =>
    decide (1 ≤ e.addr.cyl) && decide (e.addr.cyl < t.cylinders) && decide (e.addr.head < t.heads)
      && decide (e.addr.ps ≤ z.spt) && (z.isSpare e.addr.cyl == (e.disp == .retired))
  | none => false

/-- No other entry of the map is a SLIPPED entry of the same track. -/
def slipAlone (map : List DefectEntry) (e : DefectEntry) : Bool :=
  e.disp != .slipped ||
    (map.filter fun m => m.disp == .slipped && m.addr.cyl == e.addr.cyl && m.addr.head == e.addr.head).length == 1

/-- The REMAPPED entries of a zone with a target. -/
def targetsOf (t : Tables) (z : ZoneEntry) (k : Nat) : List DefectEntry :=
  t.map.filter fun m => m.disp == .remapped && z.has m.addr.cyl && m.target == some k

/-- The target of a REMAPPED entry: below its zone's pointer, not retired, and the target of no other entry. -/
def targetOk (t : Tables) (e : DefectEntry) : Bool :=
  e.disp != .remapped ||
    match zoneHolding t.zones e.addr.cyl, e.target with
    | some (_, z), some k =>
      decide (k < z.ptr) && !isRetired t.map (slotAddr t.heads z k) && (targetsOf t z k).length == 1
    | _, _ => false

/-- Every slot below a zone's pointer is a target or retired (R28). -/
def poolAccounted (t : Tables) (z : ZoneEntry) : Bool :=
  (List.range z.ptr).all fun k => isRetired t.map (slotAddr t.heads z k) || !(targetsOf t z k).isEmpty

/-- Check 9 of R13 on the entries. -/
def mapOk (t : Tables) : Bool :=
  decide (t.map.length ≤ Config.maxDefects) && ascending t.map && t.map.all (entryPlaced t) && t.map.all (slipAlone t.map)
    && t.map.all (targetOk t) && t.zones.all (poolAccounted t)

/-- The outcome of record validation, checks 2 to 9 of R13; NONE is a valid record. -/
def recordDetail (image : List Byte) : MountDetail :=
  let t := recordTables image
  let defects := field image 12 2
  if image.take 4 != recordSignature then .signature
  else if field image 4 1 != 1 then .version
  else if crc16 (image.take 1648) != field image 1648 2 then .recordCheck
  else
    match layoutDetail t.heads t.cylinders (field image 11 1) t.zones true with
    | .none => if t.map.length == defects && mapOk t then .none else .defectMap
    | d => d

/-! ## Staged tables (R149, R181, R184) -/

/-- The zones of a staged zone image (R181). -/
def stagedZones (image : List Byte) : List ZoneEntry :=
  (List.range (min Config.maxZones (field image 0 1))).map fun i => zoneAt image (1 + 12 * i)

/-- The addresses of a staged defect list image (R181). -/
def stagedAddrs (image : List Byte) : List PhysAddr :=
  (List.range (min Config.maxDefects (field image 0 2))).map fun i =>
    { cyl := field image (2 + 4 * i) 2, head := field image (4 + 4 * i) 1, ps := field image (5 + 4 * i) 1 }

/-- The structure check of a ZONE image (R184). -/
def zoneImageOk (image : List Byte) : Bool :=
  let zones := stagedZones image
  let count := field image 0 1
  decide (1 ≤ count) && decide (count ≤ Config.maxZones) && zonesContiguous 1 zones
    && decide (Config.minCylinders ≤ lastCylinder zones + 1) && decide (lastCylinder zones + 1 ≤ Config.maxCylinders)
    && zones.all ZoneEntry.formatOk

/-- The row of a PROFILE image at a byte (R181). -/
def rowAt (image : List Byte) (start : Nat) : SeekRow where
  bound := field image start 2
  velocity := field image (start + 2) 1
  settleCount := field image (start + 3) 1
  window := field image (start + 4) 1
  timeout := field image (start + 5) 1

/-- The rows in use of a PROFILE image. -/
def profileRows (image : List Byte) : List SeekRow :=
  (List.range (min 12 (field image 0 1))).map fun i => rowAt image (1 + 6 * i)

/-- The range checks of one row (R184). -/
def SeekRow.ok (r : SeekRow) : Bool :=
  decide (1 ≤ r.bound) && decide (r.bound ≤ 2047) && decide (1 ≤ r.velocity) && decide (r.velocity ≤ 15)
    && decide (1 ≤ r.settleCount) && decide (r.settleCount ≤ 16) && decide (8 ≤ r.window) && decide (r.window ≤ 64)
    && decide (10 ≤ r.timeout) && decide (r.timeout ≤ 200)

/-- Bounds strictly ascending from row to row. -/
def boundsAscend : List SeekRow → Bool
  | [] => true
  | [_] => true
  | x :: y :: rest => decide (x.bound < y.bound) && boundsAscend (y :: rest)

/-- The structure check of a PROFILE image (R184). -/
def profileImageOk (image : List Byte) : Bool :=
  let rows := profileRows image
  decide (1 ≤ field image 0 1) && decide (field image 0 1 ≤ 12) && rows.all SeekRow.ok && boundsAscend rows
    && decide (1535 ≤ (rows.getLast?.map fun r => r.bound).getD 0)

/-- The DMT of a MODE image, every field clamped into its range (R185). -/
def clampedDmt (image : List Byte) : Dmt where
  maskA := (image.getD 1 0).truncate 6
  maskB := (image.getD 0 0).truncate 6
  unloadTimer := field image 2 1
  standbyTimer := field image 3 1
  insertionPurge := max 50 (field image 4 1)
  resumePurge := field image 5 1
  readRetries := min 15 (field image 6 1)
  writeRetries := min 15 (field image 7 1)
  correctionSpan := min 11 (field image 8 1)
  reportThreshold := min 11 (max 1 (field image 9 1))
  autoReassign := image.getD 10 0
  writeThreshold := min 128 (max 8 (field image 11 1))
  buttonFilter := min 80 (max 10 (field image 12 1))
  linkTimeout := max 1 (field image 13 1)

/-- The DMT as a MODE image, less its CRC (R181, R187). -/
def dmtBody (d : Dmt) : List Byte :=
  [d.maskB.zeroExtend 8, d.maskA.zeroExtend 8] ++ byte1 d.unloadTimer ++ byte1 d.standbyTimer ++ byte1 d.insertionPurge
    ++ byte1 d.resumePurge ++ byte1 d.readRetries ++ byte1 d.writeRetries ++ byte1 d.correctionSpan
    ++ byte1 d.reportThreshold ++ [d.autoReassign] ++ byte1 d.writeThreshold ++ byte1 d.buttonFilter ++ byte1 d.linkTimeout

/-- Whether clamping changed a field (R185): the image's own fields differ from those installed. -/
def wasClamped (image : List Byte) : Bool :=
  (dmtBody (clampedDmt image)).drop 2 != (image.drop 2).take 12

/-- A row in its six bytes (R181). -/
def rowBytes (r : SeekRow) : List Byte :=
  beBytes 2 r.bound ++ byte1 r.velocity ++ byte1 r.settleCount ++ byte1 r.window ++ byte1 r.timeout

/-- The profile table as a PROFILE image, less its CRC, unused rows zero (R181, R187). -/
def profileBody (rows : List SeekRow) : List Byte := byte1 rows.length ++ padTo 72 (rows.flatMap rowBytes)

/-- The image length of a table id (R184). -/
def TableId.imageLength : TableId → Nat
  | .mode => 16
  | .profile => 75
  | .zone => 99
  | .defectList => 1028

/-- The structure check of a complete image (R184); a MODE image has none. -/
def structureOk : TableId → List Byte → Bool
  | .mode, _ => true
  | .profile, image => profileImageOk image
  | .zone, image => zoneImageOk image
  | .defectList, image => decide (field image 0 2 ≤ Config.maxDefects)

/-- The detail with which a complete image is rejected, if it is (R184). -/
def imageRejection (id : TableId) (declared : Nat) (image : List Byte) : Option Detail :=
  if declared ≠ id.imageLength then some .length
  else if crc16 (image.take (declared - 2)) ≠ field image (declared - 2) 2 then some .crc
  else if structureOk id image then none
  else some .structure

end Sys2Proof.Machine
end

