-- ==== Sys2Proof/Machine/Reports.lean ====
section
/-! DEFINITION. The payloads of the frames the part sends (R181): STATUS, ATTENTION, REPORT CAPACITY (R40), REPORT DEFECTS
(R41), REPORT CARTRIDGE (R108), table images and IDENTIFY (R187), REQUEST SENSE (R188) and PEEK (R189). -/

namespace Sys2Proof.Machine

/-! ## Codes by position (R181: a value without a code is sent as its position where its rule first names the set) -/

/-- R43. -/
def SpinState.code : SpinState → Nat
  | .stopped => 0 | .waitAllowance => 1 | .accelerating => 2 | .regulating => 3 | .atSpeed => 4 | .speedFault => 5
  | .braking => 6 | .spinFailed => 7 | .coasting => 8

/-- R44. -/
def PurgeKind.code : PurgeKind → Nat
  | .insertion => 0 | .resume => 1

/-- R65. -/
def PosState.code : PosState → Nat
  | .parked => 0 | .loading => 1 | .calibrating => 2 | .seeking => 3 | .settling => 4 | .following => 5
  | .recalibrating => 6 | .unloading => 7 | .retracting => 8 | .actFault => 9

/-- The holder and the waiter of an arbiter, by position: none, bay A, bay B (R49, R119; notes/assumptions/91.md). -/
def bayCode : Option BayId → Nat
  | none => 0 | some .bayA => 1 | some .bayB => 2

/-- R91. -/
def EjectSource.code : EjectSource → Nat
  | .button => 0 | .eject => 1 | .ejectForce => 2

/-- The phase that an eject request has reached in UNMOUNTING, by its position in R102; absent where it has reached none
(R91, R181; notes/assumptions/14.md). -/
def EjectPhase.code : EjectPhase → Nat
  | .flush => 0 | .unload => 1 | .brake => 2 | .release => 3
  | .waitStop => 0xFF | .cancel => 0xFF | .faultWait => 0xFF

/-- R114. -/
def SlotState.code : SlotState → Nat
  | .free => 0 | .filling => 1 | .full => 2 | .draining => 3

/-- R114: host data, media data, record part 0 to record part 3. -/
def Purpose.code : Purpose → Nat
  | .hostData => 0 | .mediaData => 1 | .recordPart k => 2 + k

/-- R160. -/
def PowerMode.code : PowerMode → Nat
  | .unmounted => 0 | .active => 1 | .idle => 2 | .parkedIdle => 3 | .standby => 4

/-- R160. -/
def EntrySource.code : EntrySource → Nat
  | .timer => 0 | .standbyNow => 1

/-- R160. -/
def EntryPhase.code : EntryPhase → Nat
  | .flush => 0 | .unload => 1 | .brake => 2

/-- The phases of R152 by position, WAITING first (notes/assumptions/86.md). -/
def FormatPhase.code : FormatPhase → Nat
  | .waiting => 0 | .invalidate => 1 | .tracks => 2 | .certify => 3 | .dispose => 4 | .record => 5

/-- The decoder class and its span (R7, R114): two bytes, all ones when absent; a CLEAN or UNCORRECTABLE field has span 0
(notes/assumptions/98.md). -/
def eccBytes : Option EccClass → List Byte
  | none => absentBytes 2
  | some .clean => byte1 0 ++ byte1 0
  | some (.correctable span) => byte1 1 ++ byte1 span
  | some .uncorrectable => byte1 2 ++ byte1 0

/-! ## STATUS and ATTENTION -/

/-- A STATUS payload (R181). -/
def statusPayload (c : Completion) (d : Detail) (count : Nat) (code : Byte) : List Byte :=
  byte1 c.code ++ byte1 d.code ++ beBytes 2 count ++ [code]

/-- An ATTENTION payload (R181). -/
def attentionPayload (k : AttnKind) (payload : Byte) : List Byte := byte1 (k.rank + 1) ++ [payload]

/-! ## REPORT CAPACITY, REPORT DEFECTS, REPORT CARTRIDGE -/

/-- The number of RETIRED entries on a zone's spare cylinders (R40). -/
def retiredCount (t : Tables) (z : ZoneEntry) : Nat :=
  (t.map.filter fun e => e.disp == .retired && z.isSpare e.addr.cyl).length

/-- The usable slots at or above a zone's pointer (R40). -/
def usableRemaining (t : Tables) (z : ZoneEntry) : Nat :=
  ((List.range (z.pool t.heads)).filter fun k => z.ptr ≤ k && !isRetired t.map (slotAddr t.heads z k)).length

/-- A zone block of REPORT CAPACITY (R181). -/
def zoneBlock (t : Tables) (n : Nat) : List Byte :=
  let z := t.zone n
  beBytes 2 z.first ++ beBytes 2 z.last ++ byte1 z.spt ++ byte1 z.rate ++ byte1 z.spare
    ++ beBytes 3 (baseOf t.heads t.zones n) ++ beBytes 3 (z.size t.heads) ++ beBytes 2 (z.pool t.heads) ++ beBytes 2 z.ptr
    ++ beBytes 2 (retiredCount t z) ++ beBytes 2 (usableRemaining t z)

/-- The REPORT CAPACITY payload (R40, R181). -/
def capacityPayload (t : Tables) : List Byte :=
  padTo 175 (beBytes 3 t.capacity ++ byte1 t.heads ++ beBytes 2 t.cylinders ++ byte1 t.zones.length
    ++ (List.range t.zones.length).flatMap (zoneBlock t))

/-- The frames of REPORT DEFECTS: 85 entries a frame, one frame at least (R41). -/
def defectFrames (n : Nat) : Nat := if n ≤ 85 then 1 else (n + 84) / 85

/-- Frame k of REPORT DEFECTS (R41). -/
def defectsFrame (map : List DefectEntry) (k : Nat) : List Byte :=
  (if k = 0 then beBytes 2 map.length else []) ++ ((map.drop (85 * k)).take 85).flatMap defectBytes

/-- The REPORT CARTRIDGE payload (R108), with the unit-changed flag as at acceptance. -/
def cartridgePayload (x : Bay) (unitWas : Bool) : List Byte :=
  byte1 x.cart.state.code ++ byte1 x.cart.mountDetail.code ++ byte1 x.cart.fault.code
    ++ byte1 ((x.tu.tables.map fun t => t.heads).getD 0) ++ beBytes 2 ((x.tu.tables.map fun t => t.cylinders).getD 0)
    ++ beBytes 2 ((x.tu.tables.map fun t => t.generation).getD 0) ++ flagByte x.tu.dirty
    ++ flagByte ((x.tu.tables.map fun t => t.certified).getD false)
    ++ flagByte (x.cart.state != .empty && x.cart.wpProtected)
    ++ flagByte x.cart.preventRemoval ++ flagByte unitWas

/-! ## Table images and IDENTIFY -/

/-- A ZONE image's body as it is sent: as loaded, with the bytes of each entry that R181 does not name at zero. -/
def sentZoneBody (body : List Byte) : List Byte :=
  body.mapIdx fun i x => if 0 < i ∧ ((i - 1) % 12 = 7 ∨ (i - 1) % 12 = 10 ∨ (i - 1) % 12 = 11) then 0 else x

/-- A DEFECT_LIST image's body as it is sent: as loaded, with the addresses beyond its count at zero (R181). -/
def sentListBody (body : List Byte) : List Byte :=
  body.mapIdx fun i x => if 2 + 4 * field body 0 2 ≤ i then 0 else x

/-- The image that READ TABLE returns, with its CRC computed afresh (R181, R187). A staged table that removal has cleared meanwhile has
no body left (notes/assumptions/99.md). -/
def State.tableImage (s : State) (target : BayField) (id : TableId) : List Byte :=
  match id, target with
  | .mode, _ => withCrc (dmtBody s.dmt)
  | .profile, _ => withCrc (profileBody s.profile)
  | .zone, .bay b => withCrc (sentZoneBody ((s.bay b).tu.stagedZone.getD []))
  | .defectList, .bay b => withCrc (sentListBody ((s.bay b).tu.stagedList.getD []))
  | .zone, .device => []
  | .defectList, .device => []

/-- The number of frames of a table image: 512 bytes a frame (R187). -/
def imageFrames (n : Nat) : Nat := (n + 511) / 512

/-- The BAYS strap value: one or two bays, by position (R181, R187). -/
def baysCode (twoBays : Bool) : Nat := if twoBays then 1 else 0

/-- The IDENTIFY payload (R187): model, revision, straps, limits. Two bytes are free values (notes/assumptions/15.md). -/
def State.identifyPayload (s : State) : List Byte :=
  beBytes 2 4120 ++ [Config.revisionCode] ++ byte1 (baysCode s.twoBays) ++ [Config.autospinStrapCode s.autospinHigh]
    ++ byte1 8 ++ beBytes 2 256 ++ byte1 12 ++ byte1 12

/-! ## REQUEST SENSE and PEEK -/

/-- A sense record (R188): completion NONE is 0xFF, absent items are all ones (R181). -/
def senseBytes (x : Sense) : List Byte :=
  (match x.completion with
    | some c => byte1 c.code
    | none => absentBytes 1)
    ++ byte1 x.detail.code ++ [x.command] ++ optBytes 3 x.lba
    ++ (match x.addr with
      | some a => beBytes 2 a.cyl ++ byte1 a.head ++ optBytes 1 a.ps
      | none => absentBytes 4)
    ++ beBytes 2 x.count ++ beBytes 2 x.recovered

/-- The Spindle Controller's items with the arbiter (R64). -/
def State.peekSpindle (s : State) (b : BayId) : List Byte :=
  let x := (s.bay b).spindle
  byte1 x.state.code ++ beBytes 2 x.period ++ signedBytes 2 x.deviation ++ byte1 x.drive ++ byte1 x.inRun ++ byte1 x.outRun
    ++ byte1 x.purgeRemaining ++ byte1 x.purgeKind.code ++ flagByte x.pendingStart.isSome ++ byte1 x.failure.code
    ++ byte1 (bayCode s.allowHolder) ++ byte1 (bayCode s.allowWaiter)

/-- A track, or absent. -/
def trackBytes : Option Track → List Byte
  | some t => beBytes 2 t.cyl ++ byte1 t.head
  | none => absentBytes 3

/-- The last sample with its validity, q and p, or absent (R66, R88); q and p of an invalid sample are sent as 0
(notes/assumptions/66.md). -/
def sampleBytes : Option Sample → List Byte
  | some x =>
    flagByte x.sync ++ beBytes 2 x.track ++ byte1 x.ampA ++ byte1 x.ampB ++ beBytes 2 x.sum ++ flagByte x.valid
      ++ signedBytes 2 x.rawPes ++ signedBytes 2 x.pes
  | none => absentBytes 12

/-- The Positioner's items (R88). -/
def peekPositioner (x : Positioner) : List Byte :=
  byte1 x.state.code ++ beBytes 2 x.current ++ trackBytes x.target ++ byte1 x.head ++ beBytes 2 x.returnCyl ++ byte1 x.gain
    ++ signedBytes 1 x.bias ++ flagByte x.calibrated ++ sampleBytes x.last
    ++ (match x.row with
      | some r => rowBytes r
      | none => absentBytes 6)
    ++ byte1 x.settleCount ++ byte1 x.wrongRun ++ byte1 x.invalidRun ++ flagByte x.onTrack ++ byte1 x.loadAttempts
    ++ flagByte x.retryUsed ++ flagByte x.reloadUsed ++ byte1 x.lastCause.code ++ byte1 x.fault.code
    ++ flagByte (!x.parked)

/-- The Cartridge Handler's items (R113). Levels are sent by position in R89, write-protect by its code in R181. -/
def peekCartridge (x : Cartridge) : List Byte :=
  byte1 x.state.code ++ flagByte (!x.cartridgeIn) ++ flagByte x.wpProtected ++ flagByte (!x.lockEngaged)
    ++ flagByte (!x.buttonDown) ++ flagByte x.preventRemoval ++ flagByte x.unitChanged ++ byte1 x.mountDetail.code
    ++ byte1 x.fault.code
    ++ (match x.eject with
      | some e => byte1 e.source.code ++ byte1 e.phase.code
      | none => absentBytes 2)
    ++ byte1 x.lockAttempts ++ flagByte x.settleTimer.isSome ++ flagByte x.lockConfirm.isSome
    ++ flagByte x.releaseConfirm.isSome

/-- One slot of a bay: number, state, purpose, LBA tag, ECC outcome (R131). -/
def State.peekSlot (s : State) (k : Nat) : List Byte :=
  let r := s.slotRec k
  byte1 k ++ byte1 r.state.code ++ optBytes 1 (r.purpose.map Purpose.code) ++ optBytes 3 r.lba ++ eccBytes r.ecc

/-- The bay's slots and the Data Channel's items (R131). The sector in hand is sent as its address (notes/assumptions/96.md). -/
def State.peekChannel (s : State) (b : BayId) : List Byte :=
  (s.slotsWhere b fun _ => true).flatMap s.peekSlot
    ++ byte1 (s.slots.filter fun r => r.state == .free).length
    ++ byte1 (bayCode s.chan.holder) ++ byte1 (bayCode s.chan.waiter)
    ++ (match s.chan.visit, (s.bay b).job with
      | some v, some j =>
        if v.bay = b then
          trackBytes (some v.track) ++ byte1 v.rate ++ byte1 v.fields ++ beBytes 2 j.sector.addr.cyl
            ++ byte1 j.sector.addr.head ++ byte1 j.sector.addr.ps ++ byte1 j.tries
        else absentBytes 10
      | _, _ => absentBytes 10)
    ++ flagByte s.chan.gate ++ eccBytes s.chan.decoder

/-- A running idle timer's time remaining in whole units, rounded up; 0 is stopped (R160). -/
def idleByte (t : Timer) (unit : Nat) : List Byte :=
  byte1 (match t with
    | some us => (us + unit - 1) / unit
    | none => 0)

/-- Bay Power Control's items (R160). -/
def State.peekPower (s : State) (b : BayId) : List Byte :=
  let x := (s.bay b).power
  byte1 x.mode.code ++ idleByte x.unloadTimer 1000000 ++ idleByte x.standbyTimer 60000000 ++ byte1 x.readiness.code
    ++ (match x.entry with
      | some e => byte1 e.source.code ++ byte1 e.startMode.code ++ byte1 e.phase.code
      | none => absentBytes 3)
    ++ (match x.wake with
      | some w => byte1 w.startMode.code ++ (match (s.bay b).slot with
          | some c => if w.waiting && (c.wait == .wake || c.op == .flushRecord) then [c.op.code] else absentBytes 1
          | none => absentBytes 1)
      | none => absentBytes 2)

/-- The phases of FORMAT with a track in hand (R152). -/
def FormatPhase.hasTrack : FormatPhase → Bool
  | .invalidate | .tracks | .certify => true
  | .waiting | .dispose | .record => false

/-- FORMAT's progress record and defect set count (R152); the track is absent in the phases that have none (R181). -/
def peekFormat : Option Format → List Byte
  | some f =>
    byte1 f.phase.code ++ trackBytes (if f.phase.hasTrack then some { cyl := f.cyl, head := f.head } else none)
      ++ beBytes 2 f.defects.length ++ flagByte f.certRun
  | none => absentBytes 7

/-- The Translation Unit's items (R189). -/
def peekTranslation (x : Translation) : List Byte :=
  beBytes 3 x.capacity ++ beBytes 2 ((x.tables.map fun t => t.generation).getD 0) ++ flagByte x.dirty
    ++ beBytes 2 ((x.tables.map fun t => t.map.length).getD 0) ++ flagByte x.stagedZone.isSome ++ flagByte x.stagedList.isSome

/-- The six attention kinds of a bay, kind by kind: flag, payload, mask bit (R189, R190; notes/assumptions/97.md). -/
def State.peekAttentions (s : State) (b : BayId) : List Byte :=
  [AttnKind.inserted, .removed, .ejectRequest, .readiness, .recordDiscarded, .bayFault].flatMap fun k =>
    flagByte ((s.bay b).attn.get k).raised ++ [((s.bay b).attn.get k).payload] ++ flagByte (s.masked b k)

/-- The PEEK payload (R189). -/
def State.peekPayload (s : State) (b : BayId) : List Byte :=
  senseBytes (s.bay b).sense ++ s.peekSpindle b ++ peekPositioner (s.bay b).pos ++ peekCartridge (s.bay b).cart
    ++ s.peekChannel b ++ s.peekPower b ++ peekFormat (s.bay b).format ++ peekTranslation (s.bay b).tu ++ s.peekAttentions b
    ++ (match (s.bay b).slot with
      | some c => [c.op.code]
      | none => absentBytes 1)

/-! ## Frames built as they go out -/

/-- The payload of a report frame (R41, R187). -/
def State.reportPayload (s : State) (target : BayField) : ReportSource → List Byte
  | .bytes payload => payload
  | .defects k =>
    match target with
    | .bay b => defectsFrame ((((s.bay b).tu.tables.map fun t => t.map)).getD []) k
    | .device => []
  | .table id k => ((s.tableImage target id).drop (512 * k)).take 512

/-- The link timeout in µs as installed (R178, R185). -/
def Dmt.linkLimit (d : Dmt) : Nat := d.linkTimeout * 10000

/-- An outbound frame as it begins: LFRM is raised, its first byte is placed and LSTB is raised (R171). -/
def OutFrame.begun (kind : OutKind) (target : BayField) (payload : List Byte) (slot : Option Nat) (owned : Bool) (limit : Nat) :
    OutFrame :=
  { kind, target, payload, slot, owned, sent := 0, strobe := true, limit }

/-- The outbound frame of a descriptor (R176, R177, R181). -/
def State.frameOf (s : State) : Desc → OutFrame
  | .status target c d count code =>
    .begun .status target (statusPayload c d count code) none false s.dmt.linkLimit
  | .slotData b k => .begun .dataIn (.bay b) (s.slotRec k).data (some k) true s.dmt.linkLimit
  | .report target source owned => .begun .dataIn target (s.reportPayload target source) none owned s.dmt.linkLimit

/-- Begin an outbound frame (R177): the head of the queue, or else the first eligible attention. A DATA-IN slot becomes
DRAINING (R117) and the link timer is loaded (R178). -/
def State.beginFrame (s : State) : State :=
  let timer : Timer := some s.dmt.linkLimit
  match s.link.queue with
  | d :: rest =>
    let s1 := s.modLink fun l => { l with queue := rest, outFrame := some (s.frameOf d), timer }
    let s2 : State := match d with
      | .slotData _ k => s1.modSlot k fun r => { r with state := .draining }
      | .status _ _ _ _ _ | .report _ _ _ => s1
    s2.joinPending
  | [] =>
    match s.nextAttention with
    | some (b, k) =>
      let payload := ((s.bay b).attn.get k).payload
      (s.modBay b fun x => { x with attn := x.attn.set k { raised := false, payload } }).modLink fun l => { l with
        outFrame := some (.begun .attention (.bay b) (attentionPayload k payload) none false s.dmt.linkLimit)
        timer }
    | none => s

/-- With LDIR at IN and no frame going out, the part begins a frame (R177). -/
def State.kick (s : State) : State :=
  if s.linkAlive && s.link.ldir == .partSends && s.link.outFrame.isNone then s.beginFrame else s

end Sys2Proof.Machine
end

