-- ==== Sys2Proof/Machine/Channel.lean ====
section
/-! DEFINITION. The Data Channel's shared operations (06_sector_buffer_and_data_channel.md): which slot a sector uses and when
it is ready, the arbiter, track visits, tries, and the closing of the write gate. -/

namespace Sys2Proof.Machine

/-! ## The sector in hand -/

/-- The record part of a record sector. -/
def Sector.part (x : Sector) : Nat := x.addr.ps

/-- Whether a sector operation writes the media. -/
def JobKind.writes : JobKind → Bool
  | .mediaWrite | .spareWrite | .recordWrite | .formatTrack | .formatRecord => true
  | .mediaRead | .mediaVerify | .seekOnly | .reassignRead | .recordRead | .certRead => false

/-- Whether a sector operation works for the command in the bay's slot, and not for a mount or a flush. -/
def JobKind.ofCommand : JobKind → Bool
  | .recordRead | .recordWrite => false
  | .mediaRead | .mediaVerify | .mediaWrite | .seekOnly | .reassignRead | .spareWrite | .formatTrack | .certRead
  | .formatRecord => true

/-- How many slots a sector operation holds at once (R94, R100, R114, R157). -/
def JobKind.slotsNeeded : JobKind → Nat
  | .recordRead | .recordWrite | .formatRecord => 4
  | .mediaRead | .mediaVerify | .reassignRead | .spareWrite | .certRead => 1
  | .mediaWrite | .seekOnly | .formatTrack => 0

/-- The FULL host data slot that carries a logical block (R116). -/
def State.hostSlot (s : State) (b : BayId) (lba : Option Nat) : Option Nat :=
  (s.slotsWhere b fun r => r.state == .full && r.purpose == some .hostData && r.lba == lba).head?

/-- The slot of the sector in hand, when the operation has it. -/
def State.jobSlot (s : State) (b : BayId) (j : Job) : Option Nat :=
  match j.kind with
  | .recordRead | .recordWrite | .formatRecord => j.slots[j.sector.part]?
  | .mediaWrite => match j.slots.head? with
    | some k => some k
    | none => s.hostSlot b j.sector.lba
  | .mediaRead | .mediaVerify | .reassignRead | .spareWrite | .certRead | .seekOnly | .formatTrack => j.slots.head?

/-- The sector in hand is ready (R119). -/
def State.jobReady (s : State) (b : BayId) (j : Job) : Bool :=
  j.stage == .atTrack && (s.bay b).pos.on j.sector.track &&
    match j.kind with
    | .mediaRead | .mediaVerify | .reassignRead | .certRead | .recordRead | .mediaWrite => (s.jobSlot b j).isSome
    | .spareWrite => match s.jobSlot b j with
      | some k => (s.slotRec k).state == .full
      | none => false
    | .recordWrite | .formatRecord => j.slots.length == 4
    | .formatTrack => true
    | .seekOnly => false

/-- The DMT values in force for a sector operation (R123, R125). -/
def State.jobCaps (s : State) (b : BayId) (j : Job) : Caps :=
  match j.kind with
  | .recordRead => (s.bay b).cart.mountCaps
  | .recordWrite => ((s.bay b).flush.map fun f => f.caps).getD s.dmt.caps
  | .mediaRead | .mediaVerify | .mediaWrite | .seekOnly | .reassignRead | .spareWrite | .formatTrack | .certRead
  | .formatRecord => ((s.bay b).slot.map fun c => c.caps).getD s.dmt.caps

/-- How many tries a sector has (R123, R125); a certification read has one (R129). -/
def State.jobTries (s : State) (b : BayId) (j : Job) : Nat :=
  if j.kind = .certRead then 1
  else if j.kind.writes then 1 + (s.jobCaps b j).writeRetries
  else 1 + (s.jobCaps b j).readRetries

/-- The result after the last failed try (R123, R125, R129). -/
def Job.failure (j : Job) : SectorResult :=
  if j.kind = .formatTrack then .writeFault
  else if j.kind.writes then (if j.matched then .writeFault else .idNotFound)
  else if j.fieldRead then .mediumError
  else .idNotFound

/-! ## The arbiter (R119) -/

/-- Begin a track visit for a bay (R120). The head select output is set here and nowhere else (notes/assumptions/65.md). -/
def State.grantChannel (s : State) (b : BayId) : State :=
  match (s.bay b).job with
  | some j =>
    (s.modChan fun c => { c with
      holder := some b
      visit := some { bay := b, kind := j.kind, track := j.sector.track, rate := j.sector.rate, fields := 0, search := 0,
                      phase := if j.kind = .formatTrack then .formatWait else .searching, ending := false }
      gate := false
      baySelect := b
      headSelect := j.sector.addr.head }).tell (.poke b)
  | none => s.modChan fun c => { c with holder := none, visit := none, gate := false }

/-- A request for the channel (R119). -/
def State.requestChannel (s : State) (b : BayId) : State :=
  match s.chan.holder with
  | none => s.grantChannel b
  | some h => if h = b then s else s.modChan fun c => { c with waiter := some b }

/-- The holder releases; a recorded waiter is granted in the same event (R119). -/
def State.releaseChannel (s : State) (b : BayId) : State :=
  if s.chan.holder = some b then
    match s.chan.waiter with
    | some w =>
      ((s.modChan fun c => { c with holder := none, waiter := none, visit := none, gate := false }).grantChannel w).tell
        (.poke b)
    | none => (s.modChan fun c => { c with holder := none, visit := none, gate := false }).tell (.poke b)
  else s

/-- The waiter withdraws (R119). -/
def State.withdrawChannel (s : State) (b : BayId) : State :=
  if s.chan.waiter = some b then s.modChan fun c => { c with waiter := none } else s

/-- Change the visit under way. -/
def State.modVisit (s : State) (f : Visit → Visit) : State := s.modChan fun c => { c with visit := c.visit.map f }

/-- The phase of a bay's visit, if it has one. -/
def State.visitPhase (s : State) (b : BayId) : Option VisitPhase :=
  match s.chan.visit with
  | some v => if v.bay = b then some v.phase else none
  | none => none

/-- A data field of the bay is under way. -/
def State.inField (s : State) (b : BayId) : Bool :=
  match s.visitPhase b with
  | some .reading | some .writing | some .formatWriting => true
  | _ => false

/-! ## Tries (R123, R125) -/

/-- The channel has finished with the sector in hand. -/
def State.endSector (s : State) (b : BayId) (m : Signal) : State :=
  ((s.modVisit fun v => { v with phase := .between }).tell m).tell (.poke b)

/-- What follows a try that has failed and been counted: the failure result, a further try in the same visit, or, for a
format track, a further visit (R123, R125, R129). -/
def State.afterFailedTry (s : State) (b : BayId) : State :=
  match (s.bay b).job with
  | none => s
  | some j =>
    if s.jobTries b j ≤ j.tries then
      s.endSector b (if j.kind = .certRead then .certified b none else .sector b j.failure)
    else
      let s1 := s.modVisit fun (v : Visit) => { v with phase := .searching, search := 0 }
      if j.kind = .formatTrack || (s.chan.visit.map fun v => v.ending).getD false then (s1.releaseChannel b).tell (.boundary b)
      else s1.tell (.boundary b)

/-- Count a failed try (R123, R125). -/
def State.countTry (s : State) (b : BayId) : State := s.modJob b fun j => { j with tries := j.tries + 1 }

/-- The slot being written returns to FULL (R116, R125). -/
def State.slotBackToFull (s : State) (b : BayId) : State :=
  match (s.bay b).job with
  | some j => match s.jobSlot b j with
    | some k => if (s.slotRec k).state = .draining then s.modSlot k fun r => { r with state := .full } else s
    | none => s
  | none => s

/-- The gate closes at once and a field being written is torn: the try counts (R124, R125). -/
def State.tearField (s : State) (b : BayId) : State :=
  match s.visitPhase b with
  | some .writing | some .formatWriting =>
    ((s.slotBackToFull b).countTry b).modChan fun c =>
      { c with gate := false, visit := c.visit.map fun v => { v with phase := .between } }
  | _ => s

/-- The Positioner leaves FOLLOWING, or the heads are off the track: a field being written is torn, one being read is
abandoned, the visit ends and a waiting request is withdrawn (R119, R120, R126). -/
def State.leaveTrack (s : State) (b : BayId) : State :=
  let s1 := if s.visiting b then (s.tearField b).releaseChannel b else s
  s1.withdrawChannel b

/-- The sector ends at once because the write-protect input reads protected; its slot returns to FULL (R125). -/
def State.endProtected (s : State) (b : BayId) : State :=
  ((s.slotBackToFull b).modChan fun c => { c with gate := false }).endSector b (.sector b .writeProtected)

/-- The sector whose ID field has matched for a write opens the gate, or its try fails, or it ends WRITE_PROTECTED (R124,
R125). The slot being written is DRAINING, but that of an auto-reassign stays FULL (R116, R127). -/
def State.openGate (s : State) (b : BayId) (j : Job) : State :=
  if (s.bay b).cart.wpProtected then s.endProtected b
  else if s.gateAllowed b j.sector.track then
    let s1 : State := match s.jobSlot b j with
      | some k =>
        if j.kind = .spareWrite ∧ ((s.bay b).reassign.any fun r => r.auto) then s
        else
          (s.modSlot k fun r => { r with state := .draining }).modJob b fun (j : Job) =>
            if j.kind = .mediaWrite then { j with slots := [k] } else j
      | none => s
    s1.modChan fun c => { c with gate := true, visit := c.visit.map fun v => { v with phase := .writing } }
  else (s.countTry b).afterFailedTry b

/-- Servo field 0 passes under the head of a visit that waits for it: the format track begins, counting its 32 fields from
there, or its try fails (R120, R124, R129). The gate is open from here to FORMAT_TRACK_WRITTEN, between the fields of the track too,
which no row tells apart (the model's choice, notes/assumptions/102.md). -/
def State.openTrack (s : State) (b : BayId) (j : Job) : State :=
  if (s.bay b).cart.wpProtected then s.endProtected b
  else if s.gateAllowed b j.sector.track then
    s.modChan fun c =>
      { c with gate := true, visit := c.visit.map fun v => { v with phase := .formatWriting, fields := 0 } }
  else (s.countTry b).afterFailedTry b

/-- A servo field passes under the heads of the visiting bay: the counts go up, and a sample that makes the on-track signal
false tears the field being written (R120, R121, R124). -/
def State.channelSample (s : State) (b : BayId) (indexFlag : Bool) : State :=
  match s.chan.visit, (s.bay b).job with
  | some v, some j =>
    if v.bay = b then
      match v.phase with
      | .formatWait => if indexFlag then s.openTrack b j else s
      | .formatWriting | .writing =>
        let s1 := s.modVisit fun v => { v with fields := min 32 (v.fields + 1), search := min 32 (v.search + 1) }
        if (s.bay b).pos.onTrack then s1 else (s1.tearField b).afterFailedTry b
      | .between | .searching | .reading =>
        s.modVisit fun v => { v with fields := min 32 (v.fields + 1), search := min 32 (v.search + 1) }
    else s
  | _, _ => s

end Sys2Proof.Machine
end

