-- ==== Sys2Proof/Machine/Complete.lean ====
section
/-! DEFINITION. How a command takes its slot, is refused, and ends (R133, R143, R144, R176): the slots and descriptors it gives
back, its sense record, and its STATUS. -/

namespace Sys2Proof.Machine

/-- A completion that concerns no block. -/
def CmdResult.plain (c : Completion) (d : Detail) : CmdResult := { completion := c, detail := d, lba := none, addr := none }

/-- A command as it is accepted (R132, R133). -/
def Cmd.fresh (op : CmdOp) (lba count : Nat) (caps : Caps) : Cmd where
  op := op
  lba := lba
  count := count
  done := 0
  received := 0
  sent := 0
  framesLeft := 0
  unitWas := false
  caps := caps
  wait := .working
  stop := none
  silent := false
  recovered := none
  result := none

/-- The count done of a STATUS (R138, R143). -/
def Cmd.countDone (c : Cmd) (r : CmdResult) : Nat :=
  if c.op = .read ∧ r.completion = .linkError then c.sent else c.done

/-! ## Acceptance and refusal (R133, R176) -/

/-- A command takes the bay's slot, which reserves the entry of its STATUS (R175, R176). -/
def State.takeSlot (s : State) (b : BayId) (c : Cmd) : State :=
  (s.modBay b fun x => { x with slot := some c }).modLink fun l => { l with reservations := l.reservations + 1 }

/-- A refusal: its STATUS is queued, and every code but BUSY and ILLEGAL_REQUEST writes the sense record (R133). -/
def State.refuse (s : State) (b : BayId) (code : Byte) (r : CmdResult) : State :=
  let s1 := if r.completion = .busy ∨ r.completion = .illegalRequest then s else s.writeSense b code 0 r
  s1.enqueue (.status (.bay b) r.completion r.detail 0 code)

/-- The STATUS of an immediate command, or of a refusal that writes no sense record. -/
def State.answer (s : State) (target : BayField) (c : Completion) (d : Detail) (code : Byte) : State :=
  s.enqueue (.status target c d 0 code)

/-! ## The end of a command -/

/-- The sector operation of a bay ends: its visit ends or its request is withdrawn, and no seek answers it (R119, R120). -/
def State.dropJob (s : State) (b : BayId) : State :=
  let s1 := (s.setJob b none).modPos b fun p => { p with seekFor := .nobody, heldSeekOwned := false }
  if s.visiting b then s1.releaseChannel b else s1.withdrawChannel b

/-- The sector operation of the slot's command ends with it; one of a mount or a flush goes on. -/
def State.dropCommandJob (s : State) (b : BayId) : State :=
  match (s.bay b).job with
  | some j => if j.kind.ofCommand then s.dropJob b else s
  | none => s

/-- A descriptor that sends a slot of this bay. -/
def Desc.isSlotOf (b : BayId) : Desc → Bool
  | .slotData x _ => x == b
  | .status _ _ _ _ _ => false
  | .report _ _ _ => false

/-- A DATA-IN frame of the bay's READ has still to go out: a FULL or DRAINING media slot is left. -/
def State.outstanding (s : State) (b : BayId) : Bool :=
  !(s.slotsWhere b fun r => r.purpose == some .mediaData && (r.state == .full || r.state == .draining)).isEmpty

/-- A FORMAT that waits holds no slot; those the bay holds then are a mount's or a flush's (R135, R159, R164). -/
def Bay.formatWaits (x : Bay) : Bool :=
  match x.format with
  | some f => f.phase == .waiting
  | none => true

/-- The buffer slots of a command that ends (R118). The FULL slots of a READ stay until they are sent, unless the READ ends
LINK_ERROR or by a link reset (R138, R179). A slot that a DATA-OUT frame in progress is filling for a WRITE is freed when that frame
is discarded, and the frame is marked as one that the WRITE no longer expects (R139). -/
def State.freeCommandSlots (s : State) (b : BayId) (c : Cmd) (r : CmdResult) : State :=
  let s1 : State := match c.op with
    | .write =>
      (s.freeWhere b fun x => x.purpose == some .hostData && x.state != .filling).modLink fun l => { l with
        inFrame := l.inFrame.map fun f => { f with late := b :: f.late } }
    | .read =>
      if c.silent || r.completion = .linkError then
        (s.freeWhere b fun x => x.purpose == some .mediaData).dropDescs (Desc.isSlotOf b)
      else s.freeWhere b fun x => x.purpose == some .mediaData && x.state == .filling
    | .verify | .reassign => s.freeWhere b fun x => x.purpose == some .mediaData
    | .format _ _ _ _ => if (s.bay b).formatWaits then s else s.freeWhere b fun _ => true
    | .seek | .flushRecord | .eject _ | .reportCartridge | .reportCapacity | .reportDefects | .standbyNow | .wake
    | .loadTable _ | .readTable _ | .identify => s
  s1.tell (.poke b)

/-- The report frames of a command that ends are not sent; one going out is no longer its own (R146). -/
def State.dropReports (s : State) (target : BayField) : State :=
  (s.dropDescs (Desc.isReportOf target)).modLink fun l => { l with
    outFrame := l.outFrame.map fun f => if f.target = target ∧ f.slot = none then { f with owned := false } else f }

/-- The staging area becomes free when the command that holds it ends (R183). -/
def State.releaseStaging (s : State) (target : BayField) : State :=
  if (s.staging.map fun x => x.target) = some target then { s with staging := none } else s

/-- The STATUS of a bay's slot command is queued into its reservation and the slot becomes free (R133, R176); the idle timers
restart (R162). A command ended by a link reset queues none (R179); that the timers restart at its boundary too, where R162 speaks of
completions, is the model's choice (notes/assumptions/108.md). -/
def State.postStatus (s : State) (b : BayId) (r : CmdResult) : State :=
  match (s.bay b).slot with
  | none => s
  | some c =>
    let s1 := s.modBay b fun x => { x with slot := none }
    let s2 :=
      if c.silent then s1
      else (s1.enqueue (.status (.bay b) r.completion r.detail (c.countDone r) c.op.code)).modLink fun l =>
        { l with reservations := l.reservations - 1 }
    ((s2.restartIdleTimers b).tell (.slotFreed b)).tell (.poke b)

/-- A bay's slot command ends with a completion (R143, R144). The STATUS of a READ follows its last DATA-IN frame (R138). -/
def State.finishCmd (s : State) (b : BayId) (r : CmdResult) : State :=
  match (s.bay b).slot with
  | none => s
  | some c =>
    if c.result.isSome then s
    else
      let s1 := ((s.dropCommandJob b).freeCommandSlots b c r).modBay b fun x => { x with reassign := none, format := none }
      let s2 := (s1.dropReports (.bay b)).releaseStaging (.bay b)
      let s3 := if r.completion = .good ∨ c.silent then s2 else s2.writeSense b c.op.code (c.countDone r) r
      if c.op = .read && !c.silent && r.completion != .linkError && s3.outstanding b then
        s3.modCmd b fun c => { c with result := some r }
      else s3.postStatus b r

/-- A command ends because its block failed (R143, R146). One that is being stopped for LINK_ERROR ends LINK_ERROR (R138, R173;
notes/assumptions/71.md). -/
def State.failCmd (s : State) (b : BayId) (r : CmdResult) : State :=
  match (s.bay b).slot.bind fun c => c.stop with
  | some (.link d) => s.finishCmd b (CmdResult.plain .linkError d)
  | some .abort | some .eject | none => s.finishCmd b r

/-- The completion of a command whose blocks are all done (R143, R144). -/
def Cmd.doneResult (c : Cmd) : CmdResult :=
  match c.recovered with
  | some (lba, x) => { completion := .recovered, detail := .none, lba := some lba, addr := some x.sense }
  | none => CmdResult.plain .good .none

/-- The device slot's command ends: it writes no sense record (R187). -/
def State.finishDevice (s : State) (c : Completion) (d : Detail) : State :=
  match s.deviceSlot with
  | none => s
  | some cmd =>
    let s1 := (({ s with deviceSlot := none } : State).dropReports .device).releaseStaging .device
    if cmd.silent then s1
    else (s1.enqueue (.status .device c d 0 cmd.op.code)).modLink fun l => { l with reservations := l.reservations - 1 }

/-- The command of a slot, bay's or device's, ends with no block named. -/
def State.finishTarget (s : State) (target : BayField) (c : Completion) (d : Detail) : State :=
  match target with
  | .bay b => s.finishCmd b (CmdResult.plain c d)
  | .device => s.finishDevice c d

end Sys2Proof.Machine
end

