-- ==== Sys2Proof/Machine/Positioner.lean ====
section
/-! DEFINITION. The Positioner's shared operations (04_head_positioning.md): orders, seeks, recalibration, unload, retract,
ACT_FAULT, calibration, and what each servo sample does in each state. -/

namespace Sys2Proof.Machine

/-! ## Answers to open orders -/

/-- The work that was at the track waits for the spindle's next readiness (R126); a stopped command is at its boundary, for a try
that fails there is not retried, the last one too (R146; notes/assumptions/93.md). Work that waits to regain its track is told by
the answer to its order. -/
def State.jobLosesHeads (s : State) (b : BayId) : State :=
  match (s.bay b).job with
  | some j =>
    if j.stage = .atTrack then (s.setJob b (some { j with stage := .waitReady })).tell (.boundary b) else s
  | none => s

/-- Every open load, seek or held seek order is answered UNLOADED (R83, R84). -/
def State.answerUnloaded (s : State) (b : BayId) : State :=
  let p := (s.bay b).pos
  let s1 := s.modPos b fun p => { p with
    loadOpen := false, seekFor := .nobody, heldSeek := none, heldSeekOwned := false, reloadTarget := none, givingUp := false
    again := .nothing }
  let s2 := if p.loadOpen then s1.tell (.loadFailed b) else s1
  let s3 := if p.seekFor = .nobody then s2 else s2.tell (.seekUnloaded b)
  if p.heldSeek.isSome && p.heldSeekOwned then s3.tell (.seekUnloaded b) else s3

/-! ## Unload, retract, fault -/

/-- Entry to UNLOADING (R83). `keep` leaves the open orders open, for an unload of the Positioner's own (R71, R73, R79). A park
sensor that reads parked already ends the unload in the same event. -/
def State.enterUnloading (s : State) (b : BayId) (keep : Bool) : State :=
  let s1 := s.leaveTrack b
  let s2 := if keep then s1 else (s1.jobLosesHeads b).answerUnloaded b
  (s2.modPos b fun p => { p with
    state := .unloading
    target := none
    calibrated := false
    onTrack := false
    loadTimer := none
    seekTimer := none
    recalTimer := none
    unloadTimer := some Config.unloadTime
    driveDir := .outward
    driveMag := 4 }).tell (.poke b)

/-- Entry to RETRACTING (R84). A load order held in UNLOADING stays held to PARKED (R70; notes/assumptions/63.md). -/
def State.enterRetracting (s : State) (b : BayId) : State :=
  ((((s.leaveTrack b).jobLosesHeads b).answerUnloaded b).modPos b fun p => { p with
    state := .retracting
    target := none
    calibrated := false
    onTrack := false
    loadTimer := none
    seekTimer := none
    recalTimer := none
    unloadTimer := none
    retractTimer := some (p.retractTimer.getD Config.retractTime)
    driveMag := 0 }).tell (.poke b)

/-- Entry to ACT_FAULT (R86). -/
def State.enterActFault (s : State) (b : BayId) (d : ActDetail) : State :=
  (s.modPos b fun p => { p with
    state := .actFault
    fault := d
    target := none
    onTrack := false
    loadTimer := none
    seekTimer := none
    recalTimer := none
    unloadTimer := none
    retractTimer := none
    driveMag := 0
    pendingFault := none
    unloadTimedOut := false
    loadOpen := false
    heldLoad := none
    heldSeek := none
    heldSeekOwned := false
    seekFor := .nobody
    givingUp := false
    again := .nothing
    reloadTarget := none }).tell (.actFault b d)

/-- An unload order (R83). In UNLOADING and RETRACTING it joins, and it withdraws a load that would follow
(notes/assumptions/11.md); in ACT_FAULT it is answered ACT_FAULT (R86). -/
def State.unloadOrder (s : State) (b : BayId) : State :=
  match (s.bay b).pos.state with
  | .parked => s
  | .actFault => s.tell (.actFault b (s.bay b).pos.fault)
  | .unloading | .retracting =>
    let s1 := if (s.bay b).pos.heldLoad.isSome then s.tell (.loadFailed b) else s
    (s1.answerUnloaded b).modPos b fun p => { p with heldLoad := none }
  | .loading | .calibrating | .seeking | .settling | .following | .recalibrating => s.enterUnloading b false

/-- A retract order (R84). -/
def State.retractOrder (s : State) (b : BayId) : State :=
  match (s.bay b).pos.state with
  | .parked | .retracting | .actFault => s
  | .loading | .calibrating | .seeking | .settling | .following | .recalibrating | .unloading => s.enterRetracting b

/-! ## Loading -/

/-- Entry to LOADING (R71). The fault detail of an earlier fault is dropped (R86). -/
def State.enterLoading (s : State) (b : BayId) : State :=
  s.modPos b fun p => { p with
    state := .loading
    loadAttempts := p.loadAttempts + 1
    loadTimer := some Config.loadTime
    gain := 1
    driveDir := .inward
    driveMag := 2
    fault := .none
    again := .nothing }

/-- The bay's operation waits for the answer to the seek order that its load order holds: the read or the write of a record does
(R94, R100). The reload of an UNFORMATTED bay has no operation that waits (R94). -/
def Bay.awaitsHeldSeek (x : Bay) : Bool := x.job.any fun j => j.stage == .loadingToSeek

/-- A load order taken in PARKED (R70), with the seek order it holds. -/
def State.loadFromParked (s : State) (b : BayId) (fresh : Bool) (seek : Option Track) : State :=
  if (s.bay b).mayLoad && !s.powerLoss then
    (s.modPos b fun p => { p with
      loadAttempts := 0
      returnCyl := if fresh then 1 else p.returnCyl
      head := if fresh then 0 else p.head
      loadOpen := true
      heldSeek := seek
      heldSeekOwned := seek.isSome && (s.bay b).awaitsHeldSeek
      heldLoad := none }).enterLoading b
  else (s.modPos b fun p => { p with heldLoad := none }).tell (.loadFailed b)

/-! ## Seeking -/

/-- The first row whose bound is the distance or more (R76). -/
def rowFor (profile : List SeekRow) (d : Nat) : Option SeekRow := profile.find? fun r => decide (d ≤ r.bound)

/-- The direction from the current cylinder toward a target (R76); at distance 0 the reference names none
(notes/assumptions/62.md). -/
def towards (current target : Nat) : DriveDir := if current ≤ target then .inward else .outward

/-- The start of a seek from the current cylinder (R76). A current cylinder above 1,535, which only a sample with such a track id gives,
may lie beyond every row's bound: the seek then has no row, no velocity and no time (the model's choice,
notes/assumptions/109.md). -/
def State.startSeek (s : State) (b : BayId) (t : Track) : State :=
  let s1 := s.leaveTrack b
  let p := (s1.bay b).pos
  let row := rowFor s1.profile (if p.current ≤ t.cyl then t.cyl - p.current else p.current - t.cyl)
  s1.modPos b fun p => { p with
    state := .seeking
    target := some t
    head := t.head
    row := row
    seekTimer := some ((row.map fun r => r.timeout).getD 0 * 1000)
    settleCount := 0
    onTrack := false
    driveDir := towards p.current t.cyl
    driveMag := (row.map fun r => r.velocity).getD 0 }

/-- A head change on the same cylinder: it settles with the first profile row (R75, R77). -/
def State.startHeadChange (s : State) (b : BayId) (t : Track) : State :=
  let s1 := s.leaveTrack b
  let row := s1.profile.head?
  s1.modPos b fun p => { p with
    state := .settling
    target := some t
    head := t.head
    row := row
    seekTimer := some ((row.map fun r => r.timeout).getD 0 * 1000)
    settleCount := 0
    onTrack := false }

/-- A seek order taken in FOLLOWING (R75). -/
def State.seekFromFollowing (s : State) (b : BayId) (t : Track) (owned : Bool) : State :=
  let p := (s.bay b).pos
  let waiting : SeekFor := if owned then .operation else .nobody
  if p.target = some t then (if owned then s.tell (.seekDone b) else s)
  else
    let s1 := s.modPos b fun p => { p with retryUsed := false, reloadUsed := false, seekFor := waiting, givingUp := false }
    if (p.target.map fun x => x.cyl) = some t.cyl then s1.startHeadChange b t else s1.startSeek b t

/-- A seek order is held; an order it replaces is answered UNLOADED (R75). R75 states the replacement for SEEKING, SETTLING and
RECALIBRATING; that it is the same in LOADING and CALIBRATING is the model's choice (notes/assumptions/107.md). -/
def State.holdSeek (s : State) (b : BayId) (t : Track) (owned : Bool) : State :=
  let p := (s.bay b).pos
  let s1 := s.modPos b fun p => { p with heldSeek := some t, heldSeekOwned := owned }
  if p.heldSeek.isSome && p.heldSeekOwned then s1.tell (.seekUnloaded b) else s1

/-- A seek order (R75). `owned` says that the bay's running operation waits for its answer. -/
def State.seekOrder (s : State) (b : BayId) (t : Track) (owned : Bool) : State :=
  match (s.bay b).pos.state with
  | .following => s.seekFromFollowing b t owned
  | .loading | .calibrating | .seeking | .settling | .recalibrating => s.holdSeek b t owned
  | .parked | .unloading | .retracting => if owned then s.tell (.seekUnloaded b) else s
  | .actFault => if owned then s.tell (.actFault b (s.bay b).pos.fault) else s

/-- A load order (R70), which may hold a seek order for its closing seek (R74). One that arrives in UNLOADING or RETRACTING while one
is held there takes its place, with the seek order that it holds (the model's choice, notes/assumptions/110.md). -/
def State.loadOrder (s : State) (b : BayId) (fresh : Bool) (seek : Option Track) : State :=
  match (s.bay b).pos.state with
  | .parked => s.loadFromParked b fresh seek
  | .loading | .calibrating =>
    let s1 := s.modPos b fun p => { p with loadOpen := true }
    match seek with
    | some t => s1.holdSeek b t (s.bay b).awaitsHeldSeek
    | none => s1
  | .seeking | .settling | .following | .recalibrating =>
    let s1 := s.tell (.loaded b)
    match seek with
    | some t => s1.seekOrder b t (s.bay b).awaitsHeldSeek
    | none => s1
  | .unloading | .retracting => s.modPos b fun p => { p with heldLoad := some { fresh, seek } }
  | .actFault => s.tell (.actFault b (s.bay b).pos.fault)

/-- A held load order is taken in the state that PARKED has led to (R70): it joins a load of the Positioner's own
(notes/assumptions/74.md). -/
def State.takeHeldLoad (s : State) (b : BayId) : State :=
  match (s.bay b).pos.heldLoad with
  | some h => (s.modPos b fun p => { p with heldLoad := none }).loadOrder b h.fresh h.seek
  | none => s

/-- A pending fault is entered (R83, R84). -/
def State.enterPendingFault (s : State) (b : BayId) : State :=
  match (s.bay b).pos.pendingFault with
  | some d => s.enterActFault b d
  | none => s

/-- The heads reach PARKED (R83, R84): the waiting unload orders are answered and a pending fault is then entered, or a load of the
Positioner's own is begun where the flying conditions hold (R71, R73, R79), and a held load order is taken (R70). After the
power-fail latch no order waits, and the fault is entered at once (notes/assumptions/88.md). -/
def State.onParked (s : State) (b : BayId) : State :=
  let p := (s.bay b).pos
  let s1 := (s.modPos b fun p => { p with
    state := .parked, driveMag := 0, unloadTimer := none, retractTimer := none, unloadTimedOut := false, calibrated := false
    again := .nothing }).tell (.poke b)
  match p.pendingFault with
  | some _ => if s.powerLoss then s1.enterPendingFault b else s1.tell (.faultDue b)
  | none =>
    match p.again with
    | .nothing => s1.takeHeldLoad b
    | .secondLoad => (if (s.bay b).mayLoad then s1.enterLoading b else s1.answerUnloaded b).takeHeldLoad b
    | .reload =>
      (if (s.bay b).mayLoad then (s1.modPos b fun p => { p with loadAttempts := 0 }).enterLoading b
        else s1.answerUnloaded b).takeHeldLoad b

/-- An unload or a retract ends while the filtered park sensor reads parked (R83, R84). -/
def State.stepParked (s : State) (b : BayId) : State :=
  let p := (s.bay b).pos
  if p.parked ∧ (p.state = .unloading ∨ p.state = .retracting) then s.onParked b else s

/-! ## Recalibration and seek failures -/

/-- Entry to RECALIBRATING (R79). -/
def State.enterRecalibrating (s : State) (b : BayId) (givingUp : Bool) : State :=
  (s.leaveTrack b).modPos b fun p => { p with
    state := .recalibrating
    recalTimer := some Config.recalibrateTime
    seekTimer := none
    onTrack := false
    driveDir := .outward
    driveMag := 1
    givingUp := givingUp }

/-- A seek failure (R78). -/
def State.seekFailure (s : State) (b : BayId) (cause : SeekCause) : State :=
  let used := (s.bay b).pos.retryUsed
  (s.modPos b fun p => { p with lastCause := cause, retryUsed := true }).enterRecalibrating b used

/-- Whether a sample satisfies the on-track conditions for a target in FOLLOWING (R82). -/
def Sample.onTrack (x : Sample) (cyl threshold : Nat) : Bool :=
  x.valid && x.track == cyl && decide (x.pes.natAbs ≤ threshold)

/-- The held seek order is taken as in FOLLOWING (R75). -/
def State.takeHeldSeek (s : State) (b : BayId) : State :=
  match (s.bay b).pos.heldSeek with
  | some t =>
    let owned := (s.bay b).pos.heldSeekOwned
    (s.modPos b fun p => { p with heldSeek := none, heldSeekOwned := false }).seekFromFollowing b t owned
  | none => s

/-- The PES correction drive (R80); an invalid sample leaves the drive as it was. R80 names no direction for a corrected PES of 0: the
direction stays (notes/assumptions/33.md). -/
def Positioner.corrected (p : Positioner) (x : Sample) : Positioner :=
  if x.valid then
    { p with
      driveDir := if 0 < x.pes then .outward else if x.pes < 0 then .inward else p.driveDir
      driveMag := correctionMag x.pes }
  else p

/-- Entry to FOLLOWING on a track (R77, R78): the open orders are answered, with success or with SEEK_ERROR. -/
def State.enterFollowing (s : State) (b : BayId) (t : Track) (x : Sample) (failed : Bool) : State :=
  let p := (s.bay b).pos
  let s1 := s.modPos b fun p => { p with
    state := .following
    target := some t
    returnCyl := t.cyl
    seekTimer := none
    wrongRun := 0
    invalidRun := 0
    writeThreshold := s.dmt.writeThreshold
    onTrack := x.onTrack t.cyl s.dmt.writeThreshold
    loadOpen := false
    seekFor := .nobody
    givingUp := false
    reloadTarget := none }
  let s2 := match p.seekFor with
    | .nobody => s1
    | .operation => s1.tell (if failed then .seekFailed b else .seekDone b)
    | .regain => s1.tell (if failed then .regainFailed b else .regained b)
  let s3 := if p.loadOpen then s2.tell (.loaded b) else s2
  s3.takeHeldSeek b

/-- The first valid sample ends a recalibration: the seek is tried again, or is given up where the heads are (R78, R79), where
FOLLOWING drives the sample's PES correction (R65, R80). -/
def State.recalibrated (s : State) (b : BayId) (x : Sample) : State :=
  let p := (s.bay b).pos
  let s1 := s.modPos b fun p => { p with recalTimer := none }
  if p.givingUp then (s1.modPos b fun p => p.corrected x).enterFollowing b { cyl := x.track, head := p.head } x true
  else s1.startSeek b (p.target.getD { cyl := x.track, head := p.head })

/-- OFF_CYLINDER (R80): the heads re-seek their target, which is the one retry. -/
def State.offCylinder (s : State) (b : BayId) : State :=
  let p := (s.bay b).pos
  ((s.modPos b fun p => { p with
    retryUsed := true, reloadUsed := false, seekFor := .regain, onTrack := false, givingUp := false }).startSeek b
      (p.target.getD { cyl := p.current, head := p.head })).tell (.trackLost b)

/-- LOST_SERVO (R81). -/
def State.lostServo (s : State) (b : BayId) : State :=
  ((s.modPos b fun p => { p with
    retryUsed := true, reloadUsed := false, seekFor := .regain, onTrack := false }).enterRecalibrating b false).tell
      (.trackLost b)

/-! ## Calibration (R72 to R74) -/

/-- Entry to CALIBRATING (R72). -/
def State.enterCalibrating (s : State) (b : BayId) : State :=
  s.modPos b fun p => { p with
    state := .calibrating
    loadTimer := none
    gain := 1
    driveMag := 0
    calibration := { biasPhase := false, gathered := 0, fields := 0, sum := 0 } }

/-- A failed load attempt (R71, R73): once more after the first, a pending fault after the second. -/
def State.loadFails (s : State) (b : BayId) (d : ActDetail) : State :=
  let s1 := s.enterUnloading b true
  if (s.bay b).pos.loadAttempts < 2 then s1.modPos b fun p => { p with again := .secondLoad }
  else s1.modPos b fun p => { p with pendingFault := some d }

/-- The gain for a mean burst sum; none below 6 (R72). -/
def gainFor (mean : Nat) : Option Nat :=
  if mean < 6 then none else if mean < 64 then some 4 else if mean < 128 then some 2 else some 1

/-- The closing seek (R74): to the seek of a reload (R79), to the held seek, or to the return cylinder. A seek order that arrives
during a reload waits for the end of its closing seek (notes/assumptions/79.md). -/
def State.closingSeek (s : State) (b : BayId) : State :=
  let p := (s.bay b).pos
  match p.reloadTarget, p.heldSeek with
  | some t, _ => s.startSeek b t
  | none, some t =>
    (s.modPos b fun p => { p with
      heldSeek := none, heldSeekOwned := false, retryUsed := false, reloadUsed := false, givingUp := false
      seekFor := if p.heldSeekOwned then .operation else .nobody }).startSeek b t
  | none, none =>
    (s.modPos b fun p => { p with retryUsed := false, reloadUsed := false, seekFor := .nobody, givingUp := false }).startSeek b
      { cyl := p.returnCyl, head := p.head }

/-- A sample of the gain phase (R72). -/
def State.gainSample (s : State) (b : BayId) (x : Sample) : State :=
  let c := (s.bay b).pos.calibration
  let gathered := if x.forGain then c.gathered + 1 else c.gathered
  let sum : Int := if x.forGain then c.sum + x.sum else c.sum
  let fields := c.fields + 1
  if gathered = Config.calibrationSamples then
    match gainFor (sum.toNat / Config.calibrationSamples) with
    | some g =>
      s.modPos b fun p => { p with gain := g, calibration := { biasPhase := true, gathered := 0, fields := 0, sum := 0 } }
    | none => s.loadFails b .noServo
  else if Config.calibrationFields ≤ fields then s.loadFails b .noServo
  else s.modPos b fun p => { p with calibration := { biasPhase := false, gathered, fields, sum } }

/-- A sample of the bias phase (R73). The sample that ends the phase leaves the progress as it was before
(notes/assumptions/64.md). -/
def State.biasSample (s : State) (b : BayId) (x : Sample) : State :=
  let c := (s.bay b).pos.calibration
  let gathered := if x.valid then c.gathered + 1 else c.gathered
  let sum : Int := if x.valid then c.sum + x.rawPes else c.sum
  let fields := c.fields + 1
  if gathered = Config.calibrationSamples then
    let bias := Int.tdiv sum 8
    if bias.natAbs ≤ 32 then (s.modPos b fun p => { p with bias := bias, calibrated := true }).closingSeek b
    else s.loadFails b .calRange
  else if Config.calibrationFields ≤ fields then s.loadFails b .noServo
  else s.modPos b fun p => { p with calibration := { biasPhase := true, gathered, fields, sum } }

/-! ## Servo samples by state (R69 to R82) -/

/-- Every sample is recorded; a valid one gives the current cylinder (R69). -/
def State.recordSample (s : State) (b : BayId) (x : Sample) : State :=
  s.modPos b fun p => { p with last := some x, current := if x.valid then x.track else p.current }

/-- A sample in LOADING (R71): the gain steps through 1, 2 and 4 until a sample is valid. -/
def State.loadingSample (s : State) (b : BayId) (x : Sample) : State :=
  if x.valid then s.enterCalibrating b
  else s.modPos b fun p => { p with gain := if p.gain = 1 then 2 else if p.gain = 2 then 4 else 1 }

/-- A sample in SEEKING (R76). -/
def State.seekingSample (s : State) (b : BayId) (x : Sample) : State :=
  match (s.bay b).pos.target with
  | some t =>
    if x.valid then
      if x.track = t.cyl then s.modPos b fun p => ({ p with state := .settling, settleCount := 0 } : Positioner).corrected x
      else s.modPos b fun p => { p with driveDir := towards x.track t.cyl }
    else s
  | none => s

/-- The wrong-track and invalid runs after a sample in SETTLING (R69, R80; notes/assumptions/35.md). -/
def Positioner.settlingRuns (p : Positioner) (cyl : Nat) (x : Sample) : Positioner :=
  { p with
    wrongRun := if x.valid && x.track != cyl then min 2 (p.wrongRun + 1) else 0
    invalidRun := if x.valid then 0 else min 4 (p.invalidRun + 1) }

/-- A sample in SETTLING (R77). -/
def State.settlingSample (s : State) (b : BayId) (x : Sample) : State :=
  match (s.bay b).pos.target, (s.bay b).pos.row with
  | some t, some row =>
    let s1 := s.modPos b fun p => p.settlingRuns t.cyl x
    if x.valid && x.track != t.cyl then s1.seekFailure b .trackMismatch
    else
      let count := if x.valid && decide (x.pes.natAbs ≤ row.window) then (s.bay b).pos.settleCount + 1 else 0
      let s2 := s1.modPos b fun p => ({ p with settleCount := count } : Positioner).corrected x
      if row.settleCount ≤ count then s2.enterFollowing b t x false else s2
  | _, _ => s

/-- A sample in FOLLOWING (R80 to R82). -/
def State.followingSample (s : State) (b : BayId) (x : Sample) : State :=
  let p := (s.bay b).pos
  match p.target with
  | some t =>
    let wrong := if x.valid && x.track != t.cyl then p.wrongRun + 1 else 0
    let invalid := if x.valid then 0 else p.invalidRun + 1
    let s1 := s.modPos b fun p => ({ p with
      wrongRun := wrong, invalidRun := invalid, onTrack := x.onTrack t.cyl p.writeThreshold } : Positioner).corrected x
    if 2 ≤ wrong then s1.offCylinder b else if 4 ≤ invalid then s1.lostServo b else s1
  | none => s

/-- What a recorded sample does in the Positioner's state (R69). -/
def State.actOnSample (s : State) (b : BayId) (x : Sample) : State :=
  match (s.bay b).pos.state with
  | .parked | .unloading | .retracting | .actFault => s
  | .loading => s.loadingSample b x
  | .calibrating => if (s.bay b).pos.calibration.biasPhase then s.biasSample b x else s.gainSample b x
  | .seeking => s.seekingSample b x
  | .settling => s.settlingSample b x
  | .following => s.followingSample b x
  | .recalibrating => if x.valid then s.recalibrated b x else s

end Sys2Proof.Machine
end

