-- ==== Sys2Proof/Machine/Blocks.lean ====
section
/-! DEFINITION. How a media command works through its blocks (R137 to R142) and how a reassign runs, for REASSIGN and for the
auto-reassign of a WRITE (R31 to R37, R127). -/

namespace Sys2Proof.Machine

/-! ## Sector operations -/

/-- A sector operation as it begins. -/
def Job.start (kind : JobKind) (x : Sector) (slots : List Nat) : Job where
  kind := kind
  sector := x
  stage := .seeking
  tries := 0
  matched := false
  fieldRead := false
  slots := slots

/-- The heads are at the sector's track: it is in hand, or it ends at once when no try is left (R126). -/
def State.atTrackNow (s : State) (b : BayId) (j : Job) : State :=
  let s1 := s.setJob b (some { j with stage := .atTrack })
  if j.kind = .seekOnly then s1.tell (.sector b .good)
  else if s.jobTries b j ≤ j.tries then s1.tell (.sector b j.failure)
  else s1.tell (.poke b)

/-- Work begins on a sector: a seek is ordered unless the heads are FOLLOWING on its track (R137). It is ordered too where the track is
the Positioner's target already and the heads are not FOLLOWING: R137 has no case for it, and the order waits for the seek under way
and is taken afresh after it, also after its SEEK_ERROR (the model's choice, notes/assumptions/111.md). -/
def State.approach (s : State) (b : BayId) (j : Job) : State :=
  if (s.bay b).pos.on j.sector.track then s.atTrackNow b j
  else (s.setJob b (some { j with stage := .seeking })).seekOrder b j.sector.track true

/-- The completion of a sector result (R130, R143). -/
def SectorResult.completion : SectorResult → Completion
  | .good => .good
  | .recovered => .recovered
  | .mediumError => .mediumError
  | .idNotFound => .idNotFound
  | .writeFault => .writeFault
  | .writeProtected => .writeProtected
  | .seekError => .seekError

/-- The address that goes with a result: for SEEK_ERROR the cylinder and head sought (R144). -/
def Job.failedAt (j : Job) (r : SectorResult) : SenseAddr :=
  if r = .seekError then { cyl := j.sector.addr.cyl, head := j.sector.addr.head, ps := none } else j.sector.addr.sense

/-- The detail that goes with a result: for SEEK_ERROR the cause of the last seek failure (R144). -/
def State.resultDetail (s : State) (b : BayId) (r : SectorResult) : Detail :=
  if r = .seekError then .seek (s.bay b).pos.lastCause else .none

/-! ## Blocks (R137) -/

/-- The command takes its next block, translated from the tables as they stand; a READ or VERIFY takes the block's buffer slot
with it, and waits while the bay is at its quota (R115, R117, R137). -/
def State.takeBlock (s : State) (b : BayId) : State :=
  match (s.bay b).slot, (s.bay b).tu.tables with
  | some c, some t =>
    match t.translate (c.lba + c.done) with
    | some x =>
      match c.op with
      | .read | .verify =>
        if s.mayAllocate b then
          (s.allocate b .mediaData x.lba).approach b
            (Job.start (if c.op = .read then .mediaRead else .mediaVerify) x [s.lowestFree])
        else s
      | .write => s.approach b (Job.start .mediaWrite x [])
      | .seek => s.approach b (Job.start .seekOnly x [])
      | .reassign | .format _ _ _ _ | .flushRecord | .eject _ | .reportCartridge | .reportCapacity | .reportDefects
      | .standbyNow | .wake | .loadTable _ | .readTable _ | .identify => s
    | none => s
  | _, _ => s

/-- A command that counts blocks has done them all. -/
def Cmd.allDone (c : Cmd) : Bool :=
  match c.op with
  | .read | .write | .verify | .seek => c.done == c.count
  | .reassign | .format _ _ _ _ | .flushRecord | .eject _ | .reportCartridge | .reportCapacity | .reportDefects | .standbyNow
  | .wake | .loadTable _ | .readTable _ | .identify => false

/-- The completion of a command that ends at a boundary because it was stopped (R143, R146, R173). -/
def Cmd.stoppedResult (c : Cmd) : StopCause → CmdResult
  | .link d => CmdResult.plain .linkError d
  | .abort => if c.allDone then c.doneResult else CmdResult.plain .aborted .none
  | .eject => if c.allDone then c.doneResult else CmdResult.plain .aborted .none

/-- Between blocks: the command ends when it is stopped or all its blocks are done, and takes its next block otherwise. -/
def State.nextBlock (s : State) (b : BayId) : State :=
  match (s.bay b).slot with
  | some c =>
    match c.stop with
    | some cause => s.finishCmd b (c.stoppedResult cause)
    | none => if c.done = c.count then s.finishCmd b c.doneResult else s.takeBlock b
  | none => s

/-- A block is done (R143); the first RECOVERED one is kept for the sense record (R144). -/
def Cmd.blockDone (c : Cmd) (lba : Nat) (x : PhysAddr) (recovered : Bool) : Cmd :=
  { c with
    done := c.done + 1
    recovered := if recovered && c.recovered.isNone then some (lba, x) else c.recovered }

/-- The block's sector is done: a READ offers its slot (R138), a VERIFY and a WRITE free theirs (R116, R117). -/
def State.blockGood (s : State) (b : BayId) (c : Cmd) (j : Job) (recovered : Bool) : State :=
  let s1 := (s.setJob b none).modCmd b fun x => x.blockDone (c.lba + c.done) j.sector.addr recovered
  let s2 : State := match c.op, j.slots.head? with
    | .read, some k => s1.offer (.slotData b k)
    | .verify, some k => s1.freeSlot k
    | .write, some k => s1.freeSlot k
    | _, _ => s1
  s2.nextBlock b

/-- The block ends its command with a failure result (R137, R144). -/
def State.blockFailed (s : State) (b : BayId) (j : Job) (r : SectorResult) : State :=
  s.failCmd b { completion := r.completion, detail := s.resultDetail b r, lba := j.sector.lba, addr := some (j.failedAt r) }

/-! ## Reassign (R31 to R37) -/

/-- The address of the sector that a reassign abandons: the home position, or its old target slot (R31). -/
def Tables.abandoned (t : Tables) (r : Reassign) : PhysAddr :=
  match r.target with
  | some j => slotAddr t.heads (t.zone r.zone) j
  | none => r.home

/-- A reassign of a block as it begins (R31). -/
def Tables.reassignOf (t : Tables) (lba : Nat) (auto : Bool) (slot : Nat) : Option Reassign :=
  (t.home lba).map fun (n, x) =>
    { lba, zone := n, home := x, target := t.targetAt x, auto, attempts := 0, candidate := 0, zeros := false, slot }

/-- Record the reassign under way. -/
def State.setReassign (s : State) (b : BayId) (r : Option Reassign) : State := s.modBay b fun x => { x with reassign := r }

/-- A reassign ends without placing its block, by refusal or by failed slots (R32, R34, R37). For a WRITE the block keeps its
original result and the code is its detail (R37, R127). -/
def State.reassignFails (s : State) (b : BayId) (r : Reassign) (code : Completion) : State :=
  let x := (((s.bay b).tu.tables.map fun t => t.abandoned r).getD r.home).sense
  if r.auto then s.failCmd b { completion := .idNotFound, detail := .result code, lba := some r.lba, addr := some x }
  else
    s.finishCmd b { completion := code, detail := .none, lba := some r.lba,
                    addr := some (if r.attempts = 0 then r.home.sense else x) }

/-- A reassign ends with the result of its own sector operation: SEEK_ERROR, or a gate refused by write-protect. That result is the
completion, of a WRITE too (R36, R37, R127, R144). Its detail is that of R144, the seek cause for SEEK_ERROR, where the table of R127
has none (the model's choice, notes/assumptions/60.md). -/
def State.reassignEnds (s : State) (b : BayId) (r : Reassign) (j : Job) (result : SectorResult) : State :=
  let x := (((s.bay b).tu.tables.map fun t => t.abandoned r).getD r.home).sense
  s.failCmd b { completion := result.completion, detail := s.resultDetail b result, lba := some r.lba,
                addr := some (if r.auto && result == .seekError then j.failedAt result else x) }

/-- A stopped reassign ends its command at a boundary (R36). For a WRITE its first failure stands, with ABORTED as its detail (R37,
R146; notes/assumptions/41.md). -/
def State.reassignStopped (s : State) (b : BayId) (r : Reassign) (cause : StopCause) : State :=
  let x := (((s.bay b).tu.tables.map fun t => t.abandoned r).getD r.home).sense
  match (s.bay b).slot with
  | some c =>
    if r.auto then
      s.failCmd b { completion := .idNotFound, detail := .result .aborted, lba := some r.lba, addr := some x }
    else s.finishCmd b { c.stoppedResult cause with lba := some r.lba, addr := some x }
  | none => s

/-- An attempt on a candidate slot, after the checks of R34. -/
def State.attemptSpare (s : State) (b : BayId) (r : Reassign) : State :=
  match (s.bay b).tu.tables with
  | none => s
  | some t =>
    if (s.bay b).cart.wpProtected then s.reassignFails b r .writeProtected
    else
      match t.reassignRefusal r.zone, candidate t.heads (t.zone r.zone) t.map with
      | some code, _ => s.reassignFails b r code
      | none, none => s.reassignFails b r .sparesExhausted
      | none, some k =>
        (s.setReassign b (some { r with attempts := r.attempts + 1, candidate := k })).approach b
          (Job.start .spareWrite (t.sectorAt r.zone (slotAddr t.heads (t.zone r.zone) k) true (some r.lba)) [r.slot])

/-- The REASSIGN command takes a buffer slot and reads the sector being abandoned; it waits at the bay's quota (R33). -/
def State.readAbandoned (s : State) (b : BayId) (r : Reassign) : State :=
  match (s.bay b).tu.tables with
  | some t =>
    if s.mayAllocate b then
      ((s.allocate b .mediaData (some r.lba)).setReassign b (some { r with slot := s.lowestFree })).approach b
        (Job.start .reassignRead (t.sectorAt r.zone (t.abandoned r) r.target.isSome (some r.lba)) [s.lowestFree])
    else s.setReassign b (some r)
  | none => s

/-- The REASSIGN command begins: the checks of R32, then the old data (R33). -/
def State.startReassign (s : State) (b : BayId) (c : Cmd) : State :=
  match (s.bay b).tu.tables with
  | none => s
  | some t =>
    match t.reassignOf c.lba false 0 with
    | none => s
    | some r =>
      if (s.bay b).cart.wpProtected then s.reassignFails b r .writeProtected
      else
        match t.reassignRefusal r.zone with
        | some code => s.reassignFails b r code
        | none => s.readAbandoned b r

/-- The auto-reassign of a WRITE sector that ended ID_NOT_FOUND, with the sector's FULL slot as its data (R33, R127). -/
def State.startAuto (s : State) (b : BayId) (j : Job) : State :=
  match (s.bay b).tu.tables, j.sector.lba, s.jobSlot b j with
  | some t, some lba, some k =>
    match t.reassignOf lba true k with
    | some r => ((s.setJob b none).setReassign b (some r)).attemptSpare b r
    | none => s
  | _, _, _ => s

/-- The old-sector read has ended: its data, or zeros when it failed, is written to a candidate slot (R33, R36). -/
def State.oldDataInHand (s : State) (b : BayId) (r : Reassign) (zeros : Bool) : State :=
  let s1 := s.modSlot r.slot fun x =>
    { x with state := .full, data := if zeros then List.replicate 512 0 else x.data }
  let s2 := (s1.setJob b none).setReassign b (some { r with zeros })
  match (s.bay b).slot.bind fun c => c.stop with
  | some cause => s2.reassignStopped b { r with zeros } cause
  | none => s2.attemptSpare b { r with zeros }

/-- New tables from a reassign; the dirty flag is set, but only while the cartridge is not write-protected (R34, R35, R38). -/
def State.changeTables (s : State) (b : BayId) (t : Tables) : State :=
  let guarded := (s.bay b).cart.wpProtected
  s.modTu b fun u => { u with tables := some t, dirty := u.dirty || !guarded }

/-- The success change of R35 and what follows it: the REASSIGN command completes, or the WRITE goes on, its block RECOVERED at
the abandoned sector's address (notes/assumptions/61.md). -/
def State.sparePlaced (s : State) (b : BayId) (r : Reassign) (t : Tables) : State :=
  let x := t.abandoned r
  let s1 := ((s.changeTables b (t.place r.zone r.home r.target r.candidate)).setJob b none).setReassign b none
  if r.auto then
    (((s1.countRecovered b).freeSlot r.slot).modCmd b fun c => c.blockDone r.lba x true).nextBlock b
  else
    (s1.modCmd b fun c => { c with done := 1 }).finishCmd b
      (if r.zeros then { completion := .dataNotPreserved, detail := .none, lba := some r.lba, addr := some x.sense }
       else CmdResult.plain .good .none)

/-- A failed slot is retired; the reassign ends with the third, at a stop, or by the checks before the next attempt (R34, R36). -/
def State.spareFailed (s : State) (b : BayId) (r : Reassign) (t : Tables) : State :=
  let s1 := (s.changeTables b (t.retire r.zone r.candidate)).setJob b none
  if 3 ≤ r.attempts then s1.reassignFails b r .spareWriteFailed
  else
    match (s.bay b).slot.bind fun c => c.stop with
    | some cause => s1.reassignStopped b r cause
    | none => s1.attemptSpare b r

/-- The result of a spare write (R34 to R36). -/
def State.spareResult (s : State) (b : BayId) (r : Reassign) (j : Job) (result : SectorResult) : State :=
  match (s.bay b).tu.tables with
  | none => s
  | some t =>
    match result with
    | .good | .recovered => s.sparePlaced b r t
    | .idNotFound | .writeFault | .mediumError => s.spareFailed b r t
    | .writeProtected | .seekError => s.reassignEnds b r j result

/-- The result of a reassign's old-sector read (R33, R36). -/
def State.oldReadResult (s : State) (b : BayId) (r : Reassign) (j : Job) (result : SectorResult) : State :=
  match result with
  | .good | .recovered => s.oldDataInHand b r false
  | .mediumError | .idNotFound | .writeFault => s.oldDataInHand b r true
  | .writeProtected | .seekError => s.reassignEnds b r j result

/-- The result of a block's sector (R130, R137 to R141). -/
def State.blockResult (s : State) (b : BayId) (j : Job) (r : SectorResult) : State :=
  match (s.bay b).slot with
  | none => s
  | some c =>
    match r with
    | .good => s.blockGood b c j false
    | .recovered => s.blockGood b c j true
    | .idNotFound =>
      if c.op = .write && c.caps.autoReassign && c.stop.isNone then s.startAuto b j else s.blockFailed b j r
    | .mediumError | .writeFault | .writeProtected | .seekError => s.blockFailed b j r

end Sys2Proof.Machine
end

