-- ==== Sys2Proof/Machine/Spindle.lean ====
section
/-! DEFINITION. The Spindle Controller's shared operations (03_spindle_control.md): the spin-up allowance, start and stop
requests, entry to each state, and what an index edge does. -/

namespace Sys2Proof.Machine

/-! ## The spin-up allowance (R49, R50) -/

/-- The purge count that a grant loads (R50). -/
def Dmt.purge (d : Dmt) : PurgeKind → Nat
  | .insertion => d.insertionPurge
  | .resume => d.resumePurge

/-- A grant of the allowance starts the spin-up (R50). -/
def State.grantAllowance (s : State) (b : BayId) : State :=
  ({ s with allowHolder := some b } : State).modSpindle b fun x => { x with
    state := .accelerating
    drive := Config.fullDrive
    revolutionOpen := false
    inRun := 0
    outRun := 0
    firstAtSpeed := false
    failure := .none
    firstIndexTimer := some Config.firstIndexTime
    spinUpTimer := some Config.spinUpTime
    gapTimer := none
    purgeRemaining := s.dmt.purge x.purgeKind }

/-- A request for the allowance (R49). -/
def State.requestAllowance (s : State) (b : BayId) : State :=
  match s.allowHolder with
  | none => s.grantAllowance b
  | some _ =>
    ({ s with allowWaiter := some b } : State).modSpindle b fun x => { x with state := .waitAllowance, drive := 0, gapTimer := none }

/-- The holder releases the allowance; a recorded waiter is granted in the same event (R49). -/
def State.releaseAllowance (s : State) (b : BayId) : State :=
  if s.allowHolder = some b then
    match s.allowWaiter with
    | some w => ({ s with allowHolder := none, allowWaiter := none } : State).grantAllowance w
    | none => { s with allowHolder := none }
  else s

/-- The waiter withdraws (R49). -/
def State.withdrawAllowance (s : State) (b : BayId) : State :=
  if s.allowWaiter = some b then { s with allowWaiter := none } else s

/-! ## Entries -/

/-- Readiness for head load ends: a Positioner in a loaded state unloads (R48, R55, R67). -/
def State.headsLeave (s : State) (b : BayId) : State :=
  if (s.bay b).pos.state.loaded then s.enterUnloading b false else s

/-- Entry to BRAKING (R59). -/
def State.enterBraking (s : State) (b : BayId) : State :=
  s.modSpindle b fun x => { x with
    state := .braking
    drive := 0
    firstIndexTimer := none
    spinUpTimer := none
    gapTimer := none
    recoveryTimer := none
    brakeTimer := some Config.brakeTime
    stopTimer := some Config.stopTime
    watchOpen := false }

/-- A start taken in STOPPED with the watch closed (R47). -/
def State.takeStart (s : State) (b : BayId) (k : PurgeKind) : State :=
  (s.modSpindle b fun x => { x with purgeKind := k, pendingStart := none }).requestAllowance b

/-- Entry to STOPPED (R58, R59, R61): waiting stops are answered, then a pending start is taken (`State.startPending`). -/
def State.enterStopped (s : State) (b : BayId) : State :=
  let s1 := (s.modSpindle b fun x => { x with
    state := .stopped
    drive := 0
    revolutionOpen := false
    gapTimer := none
    brakeTimer := none
    stopTimer := none
    stopWaiting := false
    watchOpen := false }).tell (.poke b)
  if (s.bay b).spindle.pendingStart.isSome then s1.tell (.stopped b) else s1

/-- The start that was pending at the entry to STOPPED is taken as in STOPPED (R47, R59). -/
def State.startPending (s : State) (b : BayId) : State :=
  match (s.bay b).spindle.pendingStart with
  | some k => if s.bayPresent b && (s.bay b).spindle.atRest then s.takeStart b k else s
  | none => s

/-- Entry to SPIN_FAILED (R58). The Cartridge Handler hears of the failure before the heads' leaving makes a boundary, so that a
command being stopped ends with the failure (R110, R126, R146). -/
def State.enterSpinFailed (s : State) (b : BayId) (d : SpinDetail) : State :=
  let s1 := s.modSpindle b fun x => { x with
    state := .spinFailed
    drive := 0
    failure := d
    firstIndexTimer := none
    spinUpTimer := none
    gapTimer := none
    recoveryTimer := none
    brakeTimer := none
    stopTimer := some Config.stopTime
    pendingStart := none }
  ((s1.releaseAllowance b).tell (.spinFailed b d)).retractOrder b

/-- Entry to SPEED_FAULT (R55). -/
def State.enterSpeedFault (s : State) (b : BayId) : State :=
  ((s.modSpindle b fun x => { x with
    state := .speedFault, outRun := 0, inRun := 0, recoveryTimer := some Config.recoveryTime }).headsLeave b).tell
      (.speedLost b)

/-- Entry to AT_SPEED from REGULATING or SPEED_FAULT (R53, R54, R56); from SPEED_FAULT it is told as speed recovered (R63). -/
def State.enterAtSpeed (s : State) (b : BayId) : State :=
  let s1 := s.modSpindle b fun x => { x with
    state := .atSpeed
    inRun := 0
    outRun := 0
    spinUpTimer := if x.firstAtSpeed then x.spinUpTimer else none
    recoveryTimer := if x.firstAtSpeed then none else x.recoveryTimer
    firstAtSpeed := true }
  let s2 := if (s.bay b).spindle.state = .speedFault then s1.tell (.speedRecovered b) else s1
  if (s.bay b).spindle.purgeRemaining = 0 then s2.tell (.ready b) else s2

/-! ## Requests (R47, R48) -/

/-- A start request with a purge kind, taken according to the spindle's state (R47). -/
def State.takeStartRequest (s : State) (b : BayId) (k : PurgeKind) : State :=
  match (s.bay b).spindle.state with
  | .stopped =>
    if (s.bay b).spindle.watchOpen then s.modSpindle b fun x => { x with pendingStart := some k } else s.takeStart b k
  | .waitAllowance | .accelerating | .regulating | .atSpeed | .speedFault => s
  | .braking => s.modSpindle b fun x => { x with pendingStart := some k }
  | .spinFailed => s.tell (.spinFailed b (s.bay b).spindle.failure)
  | .coasting => s

/-- A start request (R47); an absent bay's Spindle Controller takes none (R43). -/
def State.startRequest (s : State) (b : BayId) (k : PurgeKind) : State :=
  if s.bayPresent b then s.takeStartRequest b k else s

/-- A stop request, taken according to the spindle's state (R48). -/
def State.takeStopRequest (s : State) (b : BayId) : State :=
  match (s.bay b).spindle.state with
  | .stopped =>
    if (s.bay b).spindle.watchOpen then s.modSpindle b fun x => { x with stopWaiting := true } else s.tell (.poke b)
  | .waitAllowance => (s.withdrawAllowance b).enterStopped b
  | .accelerating => (((s.enterBraking b).modSpindle b fun x => { x with stopWaiting := true }).headsLeave b).releaseAllowance b
  | .regulating | .atSpeed | .speedFault => ((s.enterBraking b).modSpindle b fun x => { x with stopWaiting := true }).headsLeave b
  | .braking => s.modSpindle b fun x => { x with pendingStart := none, stopWaiting := true }
  | .spinFailed => s.modSpindle b fun x => { x with stopWaiting := true }
  | .coasting => s

/-- A stop request (R48); an absent bay's Spindle Controller takes none (R43). -/
def State.stopRequest (s : State) (b : BayId) : State := if s.bayPresent b then s.takeStopRequest b else s

/-! ## Index edges (R45, R51 to R56, R58, R59, R62) -/

/-- The measurement of an edge (R45): the first edge opens a revolution, a later one ends it. -/
def Spindle.measured (x : Spindle) (elapsed : Nat) : Spindle :=
  let counted := min Config.saturatedPeriod (x.counter + elapsed)
  if x.revolutionOpen then { x with counter := 0, period := counted, deviation := deviationOf counted }
  else { x with counter := 0, revolutionOpen := true }

/-- The timers that an edge restarts or stops (R57 to R59). -/
def Spindle.edgeTimers (x : Spindle) : Spindle :=
  match x.state with
  | .accelerating | .regulating | .atSpeed | .speedFault => { x with gapTimer := some Config.gapTime, firstIndexTimer := none }
  | .braking | .spinFailed => { x with stopTimer := some Config.stopTime }
  | .stopped | .waitAllowance | .coasting => x

/-- The end of a revolution in ACCELERATING (R51). -/
def State.endAccelerating (s : State) (b : BayId) : State :=
  if entersRegulation (s.bay b).spindle.period then
    (s.modSpindle b fun x => { x with state := .regulating, drive := Config.regulatingDrive, inRun := 0 }).releaseAllowance b
  else s

/-- The end of a revolution toward AT_SPEED, in REGULATING or SPEED_FAULT (R52, R53, R56). -/
def State.endTowardSpeed (s : State) (b : BayId) : State :=
  let x := (s.bay b).spindle
  let run := if inWindow x.period then x.inRun + 1 else 0
  let s1 := s.modSpindle b fun x => { x with drive := regulatedDrive x.drive x.period, inRun := run }
  if 4 ≤ run then s1.enterAtSpeed b else s1

/-- The end of a revolution in AT_SPEED (R52, R54, R55). The revolution that enters SPEED_FAULT does not count for the purge
(notes/assumptions/9.md). -/
def State.endAtSpeed (s : State) (b : BayId) : State :=
  let x := (s.bay b).spindle
  let run := if outOfSpeed x.period then x.outRun + 1 else 0
  let s1 := s.modSpindle b fun x => { x with drive := regulatedDrive x.drive x.period, outRun := run }
  if 3 ≤ run then s1.enterSpeedFault b
  else
    let s2 := s1.modSpindle b fun x => { x with purgeRemaining := x.purgeRemaining - 1 }
    if x.purgeRemaining = 1 then s2.tell (.ready b) else s2

/-- What the end of a revolution does in the spindle's state (R45). -/
def State.endRevolution (s : State) (b : BayId) : State :=
  match (s.bay b).spindle.state with
  | .accelerating => s.endAccelerating b
  | .regulating | .speedFault => s.endTowardSpeed b
  | .atSpeed => s.endAtSpeed b
  | .stopped | .waitAllowance | .braking | .spinFailed | .coasting => s

/-- An index edge (R45): measurement, timers, the revolution it ends, and braking when it is met at rest (R61, R62). -/
def State.takeEdge (s : State) (b : BayId) (elapsed : Nat) : State :=
  let ended := (s.bay b).spindle.revolutionOpen
  let s1 := s.modSpindle b fun x => (x.measured elapsed).edgeTimers
  let s2 := if ended then s1.endRevolution b else s1
  if (s.bay b).spindle.state = .stopped then s2.enterBraking b else s2

end Sys2Proof.Machine
end

