-- ==== Sys2Proof/Machine/Handling.lean ====
section
/-! DEFINITION. The Cartridge Handler's and Bay Power Control's shared operations (05_cartridge_handling.md,
09_power_modes_and_power_loss.md): lock pulses, spin-up and mount, flush, unmounting, removal, BAY_FAULT, standby and wake. -/

namespace Sys2Proof.Machine

/-! ## Power modes (R161, R162) -/

/-- Set the power mode. -/
def State.setMode (s : State) (b : BayId) (m : PowerMode) : State := s.modPower b fun p => { p with mode := m }

/-- The cartridge state leaves MOUNTED: the mode is UNMOUNTED, both timers stop, and an entry or a wake ends (R161). A bay whose mode is
UNMOUNTED already, and whose timers a completion has restarted, has them stopped too where it goes to UNMOUNTING or BAY_FAULT (R162;
the model's choice, notes/assumptions/113.md). -/
def State.leavePower (s : State) (b : BayId) : State :=
  s.modPower b fun p => { p with mode := .unmounted, unloadTimer := none, standbyTimer := none, entry := none, wake := none }

/-- The mode that a bay's mechanism gives (R161). -/
def Bay.mechanismMode (x : Bay) : PowerMode :=
  if x.pos.state.loaded then .idle
  else if x.spindle.state.spinning || x.spindle.state == .waitAllowance then .parkedIdle
  else .standby

/-- The standby entry ends. -/
def State.endEntry (s : State) (b : BayId) : State := s.modPower b fun p => { p with entry := none }

/-! ## Lock pulses and spin-up (R90, R92, R93) -/

/-- Set the phase of the eject request. -/
def State.ejectPhase (s : State) (b : BayId) (phase : EjectPhase) : State :=
  s.modCart b fun c => { c with eject := c.eject.map fun e => { e with phase } }

/-- Entry to UNMOUNTING (R97, R98, R99, R102): the mode is UNMOUNTED, and a standby entry's flush runs on as phase 1 (R164). -/
def State.enterUnmounting (s : State) (b : BayId) : State :=
  let was := (s.bay b).cart.state
  let s1 := ((s.modCart b fun c => { c with state := .unmounting, startupWait := false }).ejectPhase b .flush).leavePower b
  let s2 := s1.modBay b fun x => { x with flush := x.flush.map fun f => { f with requester := .unmount } }
  let s3 := if was = .spinningUp ∨ was = .mounting then s2.tell (.mountOver b) else s2
  s3.tell (.poke b)

/-- Entry to SPINNING_UP (R93). -/
def State.enterSpinningUp (s : State) (b : BayId) : State :=
  let s1 := s.modCart b fun c => { c with state := .spinningUp }
  if s.autospinHigh then s1.startRequest b .insertion else s1

/-- The lock is confirmed (R92, R98). -/
def State.lockConfirmed (s : State) (b : BayId) : State :=
  let s1 := s.modCart b fun c => { c with lockConfirm := none, lockAttempts := 0, startupWait := false }
  if (s.bay b).cart.eject.isSome then s1.enterUnmounting b else s1.enterSpinningUp b

/-- A lock pulse is issued with its confirm window (R90, R92); a lock sense already engaged confirms it. A release pulse still
driven ends (notes/assumptions/67.md). -/
def State.issueLock (s : State) (b : BayId) (attempts : Nat) : State :=
  let s1 := s.modCart b fun c => { c with
    state := .locking
    lockAttempts := attempts
    lockPulse := true
    releasePulse := false
    pulseTimer := some Config.pulseTime
    lockConfirm := some Config.confirmTime
    startupWait := false }
  if (s.bay b).cart.lockEngaged then s1.lockConfirmed b else s1

/-- The eject request ends in RELEASED; an EJECT that waits on it completes (R102, R105). -/
def State.ejectDone (s : State) (b : BayId) : State :=
  let e := (s.bay b).cart.eject
  let s1 := s.modCart b fun c => { c with eject := none }
  match e with
  | some e =>
    if e.commandWaits then s1.finishCmd b (CmdResult.plain .good (if e.discarded then .recordDiscarded else .none)) else s1
  | none => s1

/-- The release is confirmed (R102). -/
def State.releaseConfirmed (s : State) (b : BayId) : State :=
  (s.modCart b fun c => { c with state := .released, releaseConfirm := none }).ejectDone b

/-- A release pulse is driven with its confirm window (R90). A lock pulse still driven ends (notes/assumptions/67.md). -/
def State.driveRelease (s : State) (b : BayId) : State :=
  s.modCart b fun c => { c with
    lockPulse := false
    releasePulse := true
    pulseTimer := some Config.pulseTime
    releaseConfirm := some Config.confirmTime }

/-- Entry to RELEASING, or its second release pulse (R102); a lock sense already open confirms it (R90). -/
def State.issueRelease (s : State) (b : BayId) (attempts : Nat) : State :=
  let s1 := ((s.driveRelease b).modCart b fun c => { c with state := .releasing, lockAttempts := attempts }).ejectPhase b .release
  if (s.bay b).cart.lockEngaged then s1 else s1.releaseConfirmed b

/-! ## The record: sectors, slots, mount (R94, R128) -/

/-- Record sector k (R128). -/
def recordSector (k : Nat) : Sector where
  addr := { cyl := 0, head := 0, ps := k }
  zone := Config.systemZone
  spareArea := false
  rate := Config.systemRateCode
  lba := none

/-- Whether a slot holds a record part. -/
def SlotRec.isRecordPart (r : SlotRec) : Bool :=
  match r.purpose with
  | some (.recordPart _) => true
  | _ => false

/-- The record part slots of a bay are freed (R118). -/
def State.freeRecordSlots (s : State) (b : BayId) : State := (s.freeWhere b SlotRec.isRecordPart).tell (.poke b)

/-- Cylinder 0, head 0. -/
def systemTrack : Track := { cyl := 0, head := 0 }

/-- The spindle is ready in SPINNING_UP: the state becomes MOUNTING, with a fresh load order that holds the seek to cylinder 0,
head 0 (R93). -/
def State.enterMounting (s : State) (b : BayId) : State :=
  let s1 := s.modCart b fun c => { c with state := .mounting, mountCaps := s.dmt.caps }
  (s1.setJob b (some { Job.start .recordRead (recordSector 0) [] with stage := .loadingToSeek })).loadOrder b true
    (some systemTrack)

/-- An interrupted mount waits for the spindle and will start over from sector 0 (R94); a cancelled one is at its safe point. -/
def State.mountWaits (s : State) (b : BayId) : State :=
  let s1 := (s.dropJob b).freeRecordSlots b
  if (s.bay b).cart.eject.isSome then s1.enterUnmounting b
  else s1.setJob b (some { Job.start .recordRead (recordSector 0) [] with stage := .waitReady })

/-- The four record parts joined (R94). -/
def State.recordRead (s : State) (slots : List Nat) : List Byte := slots.flatMap fun k => (s.slotRec k).data

/-- A valid record is installed and the bay is MOUNTED in IDLE (R14, R15, R94, R95, R161). -/
def State.mounted (s : State) (b : BayId) (t : Tables) : State :=
  let s1 := s.modBay b fun x => { x with
    tu := { x.tu with tables := some t, dirty := false }
    cart := { x.cart with state := .mounted, mountDetail := .none, unitChanged := true } }
  (((s1.setMode b .idle).restartIdleTimers b).seekOrder b { cyl := 1, head := 0 } false).tell (.mountOver b)

/-- An invalid record leaves the bay UNFORMATTED (R14, R94, R95). -/
def State.unformatted (s : State) (b : BayId) (d : MountDetail) : State :=
  let s1 := s.modBay b fun x => { x with
    tu := { x.tu with tables := none, dirty := false }
    cart := { x.cart with state := .unformatted, mountDetail := d, unitChanged := true } }
  (s1.writeSense b 0 0 (CmdResult.plain .unformatted (.mount d))).tell (.mountOver b)

/-- The record read has ended (R94, R98): validation, unless the mount is cancelled. `failed` is the detail of a sector that
failed (check 1 of R13). -/
def State.endMountRead (s : State) (b : BayId) (j : Job) (failed : Option MountDetail) : State :=
  let image := s.recordRead j.slots
  let s1 := (s.dropJob b).freeRecordSlots b
  if (s.bay b).cart.eject.isSome then s1.enterUnmounting b
  else
    match failed with
    | some d => s1.unformatted b d
    | none =>
      match recordDetail image with
      | .none => s1.mounted b (recordTables image)
      | d => s1.unformatted b d

/-- The result of a record sector's read (R94, R128). -/
def State.mountSector (s : State) (b : BayId) (j : Job) (r : SectorResult) : State :=
  match r with
  | .good | .recovered =>
    if j.sector.part < 3 then
      (s.setJob b (some { Job.start .recordRead (recordSector (j.sector.part + 1)) j.slots with stage := .atTrack })).tell (.poke b)
    else s.endMountRead b j none
  | .mediumError => s.endMountRead b j (some .recordCheck)
  | .idNotFound | .seekError | .writeFault | .writeProtected => s.endMountRead b j (some .noRecord)

/-! ## Standby entries (R163, R164) -/

/-- The bay's slot holds a STANDBY NOW. -/
def Bay.standbyNow (x : Bay) : Bool := (x.slot.map fun c => c.op) == some .standbyNow

/-- The slot's command is stopped. -/
def Bay.stopped (x : Bay) : Bool := (x.slot.bind fun c => c.stop).isSome

/-- Phase UNLOAD of a standby entry (R163). -/
def State.standbyUnload (s : State) (b : BayId) : State :=
  ((s.modPower b fun p => { p with
    mode := .parkedIdle, entry := p.entry.map fun e => { e with phase := .unload } }).unloadOrder b).tell (.poke b)

/-- Phase BRAKE of a standby entry (R163). -/
def State.standbyBrake (s : State) (b : BayId) : State :=
  ((s.modPower b fun p => { p with
    mode := .standby, entry := p.entry.map fun e => { e with phase := .brake } }).stopRequest b).tell (.poke b)

/-- A stopped STANDBY NOW at a boundary where work remains (R166). -/
def State.standbyStopped (s : State) (b : BayId) : State :=
  ((s.endEntry b).setMode b (s.bay b).mechanismMode).finishCmd b (CmdResult.plain .aborted .none)

/-- A standby entry goes on when its phase's goal holds (R163). -/
def State.stepStandby (s : State) (b : BayId) : State :=
  match (s.bay b).power.entry with
  | none => s
  | some e =>
    match e.phase with
    | .flush => s
    | .unload =>
      if (s.bay b).pos.state = .parked then
        if (s.bay b).standbyNow && (s.bay b).stopped then s.standbyStopped b else s.standbyBrake b
      else s
    | .brake =>
      if (s.bay b).spindle.atRest then
        let s1 := s.endEntry b
        if (s.bay b).standbyNow then s1.finishCmd b (CmdResult.plain .good .none) else s1
      else s

/-- Whether a command needs loaded heads (R161, R165): every media command but a FLUSH RECORD, whose own steps load them. -/
def CmdOp.needsHeads : CmdOp → Bool
  | .read | .write | .verify | .seek | .reassign | .format _ _ _ _ => true
  | .flushRecord | .eject _ | .reportCartridge | .reportCapacity | .reportDefects | .standbyNow | .wake | .loadTable _
  | .readTable _ | .identify => false

/-- A wake begins (R165). -/
def State.beginWake (s : State) (b : BayId) (waiting : Bool) : State :=
  let s1 := s.modPower b fun p => { p with wake := some { startMode := p.mode, waiting } }
  let s2 := if (s.bay b).power.mode = .standby then s1.startRequest b .resume else s1
  if (s2.bay b).spindle.ready then s2.loadOrder b false none else s2

/-- A command waits on the wake under way, or on one begun for it (R136, R165). -/
def State.waitForWake (s : State) (b : BayId) : State :=
  let s1 := s.modCmd b fun c => { c with wait := .wake }
  match (s.bay b).power.wake with
  | some w => s1.modPower b fun p => { p with wake := some { w with waiting := true } }
  | none => s1.beginWake b true

/-- The waiting ends and the command works. -/
def State.startsWorking (s : State) (b : BayId) : State := (s.modCmd b fun c => { c with wait := .working }).tell (.poke b)

/-- A standby entry's flush has ended with a command waiting behind it: the entry ends without unload (R164). -/
def State.endEntryFor (s : State) (b : BayId) (c : Cmd) : State :=
  let s1 := s.endEntry b
  if (s.bay b).pos.state.loaded then
    (s1.setMode b (if c.op.needsHeads || c.op == .flushRecord then .active else .idle)).startsWorking b
  else if c.op.needsHeads then (s1.setMode b .parkedIdle).waitForWake b
  else (s1.setMode b .parkedIdle).startsWorking b

/-- What follows the flush of a standby entry; `failed` holds the failing sector's result and address (R163, R164, R166). With a
command waiting behind it a failed flush leaves the heads loaded (R164; notes/assumptions/87.md). -/
def State.afterStandbyFlush (s : State) (b : BayId) (failed : Option (Completion × SenseAddr)) : State :=
  match (s.bay b).power.entry with
  | none => s
  | some e =>
    match (s.bay b).slot, failed with
    | some c, some (r, x) =>
      if c.wait = .flush then (s.restartIdleTimers b).endEntryFor b c
      else
        let s1 := s.endEntry b
        let s2 := if e.startMode = .parkedIdle then (s1.setMode b .parkedIdle).unloadOrder b
          else s1.setMode b (if (s.bay b).pos.state.loaded then .idle else .parkedIdle)
        let s3 := s2.restartIdleTimers b
        if c.op = .standbyNow then
          s3.finishCmd b { completion := .flushFailed, detail := .result r, lba := none, addr := some x }
        else s3
    | none, some _ =>
      let s1 := s.endEntry b
      let s2 := if e.startMode = .parkedIdle then (s1.setMode b .parkedIdle).unloadOrder b
        else s1.setMode b (if (s.bay b).pos.state.loaded then .idle else .parkedIdle)
      s2.restartIdleTimers b
    | some c, none =>
      if c.wait = .flush then s.endEntryFor b c
      else if c.op = .standbyNow && c.stop.isSome then s.standbyStopped b
      else s.standbyUnload b
    | none, none => s.standbyUnload b

/-! ## The flush (R100, R101, R104) -/

/-- A flush begins from the state of the spindle and the Positioner (R100). -/
def State.startFlush (s : State) (b : BayId) (requester : FlushFor) (caps : Caps) : State :=
  let j := Job.start .recordWrite (recordSector 0) []
  let s1 := s.modBay b fun x => { x with
    flush := some { requester, writing := false, generation := 0, caps, stop := false }
    job := some { j with stage := .waitReady } }
  if (s.bay b).spindle.state = .stopped ∨ (s.bay b).spindle.state = .braking then s1.startRequest b .resume
  else if (s.bay b).pos.state.loaded then s1.approach b j
  else if (s.bay b).spindle.ready then
    (s1.setJob b (some { j with stage := .loadingToSeek })).loadOrder b false (some systemTrack)
  else s1

/-- The flush's own items are given back. -/
def State.dropFlush (s : State) (b : BayId) : State :=
  ((s.dropJob b).freeRecordSlots b).modBay b fun x => { x with flush := none }

/-- The state returns to MOUNTED from UNMOUNTING and the eject request ends (R101, R104, R161). -/
def State.backToMounted (s : State) (b : BayId) : State :=
  ((s.modCart b fun c => { c with state := .mounted, eject := none }).setMode b (s.bay b).mechanismMode).restartIdleTimers b

/-- The dirty flag is cleared as a discard with its attention; a flag already clear gives none (R101, R110). -/
def State.discard (s : State) (b : BayId) (cause : Byte) : State :=
  if (s.bay b).tu.dirty then (s.modTu b fun u => { u with dirty := false }).raise b .recordDiscarded cause else s

/-- The eject goes on after a discard made for it (R101). -/
def State.ejectDiscarded (s : State) (b : BayId) : State :=
  (s.modCart b fun c => { c with eject := c.eject.map fun e => { e with discarded := true } }).tell (.poke b)

/-- A flush has failed with a sector's result (R100, R101). An EJECT that was stopped ends with the failure, and the state
returns to MOUNTED (R104, R146). The discard that write-protect has made serves a button's or a forced eject
(notes/assumptions/69.md). -/
def State.flushFailed (s : State) (b : BayId) (f : Flush) (r : Completion) (x : SenseAddr) : State :=
  let s1 := s.dropFlush b
  let result : CmdResult := { completion := .flushFailed, detail := .result r, lba := none, addr := some x }
  match f.requester with
  | .unmount =>
    match (s.bay b).cart.eject.map fun (e : Eject) => e.source with
    | some .eject => (s1.backToMounted b).finishCmd b result
    | some .ejectForce =>
      if f.stop then (s1.backToMounted b).finishCmd b result
      else (s1.modTu b fun u => { u with dirty := false }).ejectDiscarded b
    | some .button => (s1.discard b discardFlushFailed).ejectDiscarded b
    | none => (s1.discard b discardFlushFailed).tell (.poke b)
  | .flushRecord => s1.finishCmd b result
  | .standby => s1.afterStandbyFlush b (some (r, x))

/-- A flush ends because its command was stopped (R104, R106, R166). -/
def State.flushHalted (s : State) (b : BayId) (f : Flush) : State :=
  let s1 := s.dropFlush b
  match f.requester with
  | .unmount => (s1.backToMounted b).finishCmd b (CmdResult.plain .aborted .none)
  | .flushRecord => s1.finishCmd b (CmdResult.plain .aborted .none)
  | .standby => s1.standbyStopped b

/-- A flush has succeeded: sector 3 is written whole (R39, R100). An EJECT that was stopped while sector 3 was written ends here, for
its unload, brake and release remain (R104; notes/assumptions/81.md). -/
def State.flushSucceeded (s : State) (b : BayId) (f : Flush) : State :=
  let s1 := (s.dropFlush b).modTu b fun u => { u with
    tables := u.tables.map fun t => { t with generation := f.generation }, dirty := false }
  match f.requester with
  | .unmount => if f.stop then (s1.backToMounted b).finishCmd b (CmdResult.plain .aborted .none) else s1.tell (.poke b)
  | .flushRecord => s1.finishCmd b (CmdResult.plain .good .none)
  | .standby => s1.afterStandbyFlush b none

/-- The flush is asked to stop at the end of its record sector (R104, R106, R166). -/
def Bay.flushStopped (x : Bay) (f : Flush) : Bool :=
  f.stop || (x.stopped && (f.requester == .flushRecord || (f.requester == .standby && x.standbyNow)))

/-- The result of a record sector's write (R100, R128). -/
def State.flushSector (s : State) (b : BayId) (j : Job) (r : SectorResult) : State :=
  match (s.bay b).flush with
  | none => s
  | some f =>
    match r with
    | .good | .recovered =>
      if 3 ≤ j.sector.part then s.flushSucceeded b f
      else if (s.bay b).flushStopped f then s.flushHalted b f
      else
        (s.setJob b (some { Job.start .recordWrite (recordSector (j.sector.part + 1)) j.slots with stage := .atTrack })).tell
          (.poke b)
    | .mediumError | .idNotFound | .writeFault | .writeProtected | .seekError =>
      s.flushFailed b f r.completion (j.failedAt r)

/-- The image of the flush is built into the four slots in the event in which they are held (R39, R100). -/
def State.buildFlush (s : State) (b : BayId) (f : Flush) (t : Tables) (slots : List Nat) : State :=
  let generation := (t.generation + 1) % 65536
  let image := recordImage t generation
  let s1 := s.modBay b fun x => { x with flush := some { f with writing := true, generation } }
  (List.range 4).foldl (fun (s : State) k =>
    s.modSlot (slots.getD k 0) fun r => { r with state := .full, data := recordPartOf image k }) s1

/-! ## Unmounting, BAY_FAULT, removal (R102, R103, R109 to R112) -/

/-- UNMOUNTING goes on to its next phase when the goal of its phase holds (R102). -/
def State.stepUnmount (s : State) (b : BayId) : State :=
  match (s.bay b).cart.eject.map fun (e : Eject) => e.phase with
  | some .flush =>
    if (s.bay b).flush.isSome then s
    else if (s.bay b).tu.dirty then s.startFlush b .unmount s.dmt.caps
    else ((s.ejectPhase b .unload).unloadOrder b).tell (.poke b)
  | some .unload =>
    if (s.bay b).pos.state = .parked then ((s.ejectPhase b .brake).stopRequest b).tell (.poke b) else s
  | some .brake =>
    if (s.bay b).pos.state = .parked && (s.bay b).spindle.atRest then s.issueRelease b 1 else s
  | some .waitStop | some .cancel | some .release | some .faultWait | none => s

/-- The block and the address that the bay's command works on: the block of a reassign and the sector it abandons (R37;
notes/assumptions/60.md), or the sector in hand (R144). -/
def Bay.blockInHand (x : Bay) : Option Nat × Option SenseAddr :=
  match x.reassign, x.tu.tables with
  | some r, some t => (some r.lba, some (t.abandoned r).sense)
  | _, _ =>
    let inHand := x.job.filter fun j => j.kind.ofCommand
    (inHand.bind fun j => j.sector.lba, inHand.map fun j => j.sector.addr.sense)

/-- The completion and the detail that a fault gives a command (R110, R144). -/
def FaultDetail.completion : FaultDetail → Completion
  | .spin _ => .spinFault
  | .none | .lock | .lockLost | .actuator _ => .bayFault

/-- The detail that a fault gives a command (R144). -/
def FaultDetail.commandDetail : FaultDetail → Detail
  | .spin x => .spin x
  | .none => .fault .none
  | .lock => .fault .lock
  | .lockLost => .fault .lockLost
  | .actuator x => .fault (.actuator x)

/-- The completion of the slot's command when the bay enters BAY_FAULT (R110, R127, R144). Its detail is the fault detail, as R144
gives it, also for a WRITE in its auto-reassign, where the table of R127 has none (the model's choice, notes/assumptions/60.md). -/
def faultResult (d : FaultDetail) (x : Bay) : CmdResult :=
  { completion := d.completion, detail := d.commandDetail, lba := x.blockInHand.1, addr := x.blockInHand.2 }

/-- The slot's command ends with the fault, one that is being stopped for LINK_ERROR too (notes/assumptions/83.md); an EJECT is kept
with its request unless the fault came from RELEASING (R110). -/
def State.faultCommand (s : State) (b : BayId) (d : FaultDetail) (releasing : Bool) : State :=
  match (s.bay b).slot with
  | none => s
  | some c =>
    match c.op with
    | .eject _ => if releasing then s.finishCmd b (CmdResult.plain .bayFault (.fault d)) else s
    | .read | .write | .verify | .seek | .reassign | .format _ _ _ _ | .flushRecord | .reportCartridge | .reportCapacity
    | .reportDefects | .standbyNow | .wake | .loadTable _ | .readTable _ | .identify =>
      s.finishCmd b (faultResult d (s.bay b))

/-- Entry to BAY_FAULT (R110). A second cause in BAY_FAULT changes nothing here. An EJECT that is kept does not report the discard made
here (R105; notes/assumptions/92.md). -/
def State.bayFault (s : State) (b : BayId) (d : FaultDetail) : State :=
  if (s.bay b).cart.state = .bayFault then s
  else
    let releasing := (s.bay b).cart.state == .releasing
    let mixed := ((s.bay b).format.map fun f => f.recordWritten).getD false
    let s1 := s.modBay b fun x => { x with
      ledLit := true
      cart := { x.cart with
        state := .bayFault
        fault := d
        mountDetail := if mixed then .recordCheck else x.cart.mountDetail
        settleTimer := none
        lockConfirm := none
        releaseConfirm := none
        startupWait := false
        eject := if releasing then none else x.cart.eject.map fun e => { e with phase := .faultWait } } }
    let s2 := (s1.raise b .bayFault (BitVec.ofNat 8 d.code)).discard b discardFault
    let s3 := (s2.faultCommand b d releasing).leavePower b
    let s4 := (((s3.dropJob b).freeRecordSlots b).modBay b fun x => { x with flush := none, reassign := none, format := none }).tell
      (.poke b)
    match d with
    | .actuator _ => s4.stopRequest b
    | .none | .lock | .lockLost | .spin _ => s4

/-- A lock fault (R109). -/
def State.lockFault (s : State) (b : BayId) : State := ((s.retractOrder b).stopRequest b).bayFault b .lockLost

/-- The start-up release that a bay still owes may follow its entry to EMPTY (R112; notes/assumptions/51.md). -/
def State.offerStartup (s : State) (b : BayId) : State :=
  if (s.bay b).cart.startupRelease then s.tell (.poke b) else s

/-- Removal (R103); a Positioner in ACT_FAULT whose park sensor reads parked returns to PARKED (R86). In EMPTY the start-up
release may follow (R112). Slots of a READ that a fault has ended stay until their frames are sent, also where the removal comes
out of BAY_FAULT before that (R111, R118; notes/assumptions/101.md). -/
def State.removal (s : State) (b : BayId) : State :=
  let e := (s.bay b).cart.eject
  let s1 := (s.modBay b fun x => { x with
    tu := Translation.reset
    cart := { x.cart with
      state := .empty
      mountDetail := .none
      fault := .none
      preventRemoval := false
      unitChanged := false
      eject := none
      lockAttempts := 0
      settleTimer := none
      lockConfirm := none
      releaseConfirm := none }
    pos := if x.pos.state = .actFault ∧ x.pos.parked then { x.pos with state := .parked } else x.pos }).leavePower b
  let s2 := (s1.raise b .removed 0).offerStartup b
  match e with
  | some e => if e.commandWaits then s2.finishCmd b (CmdResult.plain .good (if e.discarded then .recordDiscarded else .none)) else s2
  | none => s2

/-- The second release pulse of RELEASING waits until the park sensor reads parked and the spindle is STOPPED (R90, R102). -/
def State.stepRelease (s : State) (b : BayId) : State :=
  if (s.bay b).cart.releaseConfirm.isNone && (s.bay b).pos.confirmedParked && (s.bay b).spindle.atRest then s.issueRelease b 2
  else s

/-- What waits in BAY_FAULT until the heads are confirmed parked and the spindle STOPPED (R111). -/
def State.stepFault (s : State) (b : BayId) : State :=
  if (s.bay b).pos.confirmedParked && (s.bay b).spindle.atRest then
    if !(s.bay b).cart.cartridgeIn then s.removal b
    else if (s.bay b).cart.eject.isSome then s.issueRelease b 1
    else s
  else s

/-- What waits at start-up until the heads are confirmed parked and the spindle STOPPED (R112). -/
def State.stepStartup (s : State) (b : BayId) : State :=
  let c := (s.bay b).cart
  if (s.bay b).pos.confirmedParked && (s.bay b).spindle.atRest then
    if c.state == .locking && c.startupWait then
      if c.eject.isSome then s.enterUnmounting b
      else if c.lockEngaged then s.lockConfirmed b
      else s.issueLock b 1
    else if c.state == .empty && c.startupRelease then
      (s.driveRelease b).modCart b fun c => { c with startupRelease := false }
    else s
  else s

end Sys2Proof.Machine
end

