-- ==== Sys2Proof/Machine/Formatting.lean ====
section
/-! DEFINITION. FORMAT's shared operations (08_formatting_and_certification.md): its checks, its phases, and its end. -/

namespace Sys2Proof.Machine

/-! ## Acceptance (R149 to R151) -/

/-- The defect set that a FORMAT assembles (R151). -/
def Bay.formatDefects (x : Bay) (heads : Nat) (zones : List ZoneEntry) (useList keepGrown : Bool) : List (PhysAddr × Origin) :=
  let listed := if useList then stagedAddrs (x.tu.stagedList.getD []) else []
  let grown : List PhysAddr :=
    if keepGrown && x.cart.state == .mounted then
      ((x.tu.tables.map fun t => t.map).getD []).filterMap fun e => if e.origin = .grown then some e.addr else none
    else []
  assembleDefects heads zones listed grown

/-- FORMAT's own checks, 10 to 14 of R150; the refusal of the first that fails. -/
def Bay.formatRefusal (x : Bay) (heads : Nat) (useList keepGrown : Bool) : Option CmdResult :=
  match x.tu.stagedZone with
  | none => some (CmdResult.plain .notStaged .zone)
  | some image =>
    let zones := stagedZones image
    if useList && x.tu.stagedList.isNone then some (CmdResult.plain .notStaged .defectList)
    else if heads ≠ 1 ∧ heads ≠ 2 then some (CmdResult.plain .illegalRequest .none)
    else
      match layoutDetail heads (lastCylinder zones + 1) (field image 0 1) zones false with
      | .none =>
        if Config.maxDefects < (x.formatDefects heads zones useList keepGrown).length then
          some (CmdResult.plain .defectListFull .none)
        else none
      | d => some (CmdResult.plain .illegalRequest (.mount d))

/-- FORMAT's progress record at its acceptance (R149, R152), with no zones where none are staged (notes/assumptions/95.md). -/
def Bay.formatOf (x : Bay) (heads : Nat) (certify useList keepGrown : Bool) : Format :=
  let zones := (stagedZones (x.tu.stagedZone.getD [])).map fun z => { z with ptr := 0 }
  { heads, certify, zones, defects := x.formatDefects heads zones useList keepGrown, phase := .waiting, cyl := 0, head := 0,
    ps := 0, certRun := false, recordWritten := false, newTables := none }

/-! ## Sectors named by FORMAT (R153 to R155) -/

/-- A sector at an address under the staged layout; cylinder 0 has its fixed form (R152, R153). -/
def Format.sectorAt (f : Format) (x : PhysAddr) : Sector :=
  if x.cyl = 0 then { addr := x, zone := Config.systemZone, spareArea := false, rate := Config.systemRateCode, lba := none }
  else
    match zoneHolding f.zones x.cyl with
    | some (n, z) => { addr := x, zone := n, spareArea := z.isSpare x.cyl, rate := z.rate, lba := none }
    | none => { addr := x, zone := 0, spareArea := false, rate := 0, lba := none }

/-- The place that FORMAT has reached. -/
def Format.place (f : Format) : PhysAddr := { cyl := f.cyl, head := f.head, ps := f.ps }

/-- The new cylinder count (R149). -/
def Format.cylinders (f : Format) : Nat := lastCylinder f.zones + 1

/-- The last physical sector of the track in hand: sector 3 on cylinder 0 (R155). -/
def Format.lastSector (f : Format) : Nat :=
  if f.cyl = 0 then 3 else ((zoneHolding f.zones f.cyl).map fun (_, z) => z.spt).getD 0

/-- How many physical sectors FORMAT writes on the track in hand: 16 on cylinder 0, SPT + 1 on a user track (R2, R5). -/
def Format.sectorCount (f : Format) : Nat :=
  if f.cyl = 0 then Config.systemSectors else ((zoneHolding f.zones f.cyl).map fun (_, z) => z.spt + 1).getD 0

/-- A physical sector of the track in hand as FORMAT writes it: its ID field and 512 zero bytes (R129, R153, R154). -/
def Format.sectorWritten (f : Format) (ps : Nat) : TrackSector where
  id := (f.sectorAt { f.place with ps }).wanted.bytes
  field := dataField (List.replicate 512 0)

/-- The track in hand as FORMAT writes it, physical sector 0 first (R2, R129). -/
def Format.trackImage (f : Format) : List TrackSector := (List.range f.sectorCount).map f.sectorWritten

/-- The track after the one in hand, if there is one (R153, R154): cylinder 0 belongs to INVALIDATE, the others to TRACKS. -/
def Format.nextTrack (f : Format) : Option Format :=
  if f.head + 1 < f.heads then some { f with head := f.head + 1, ps := 0 }
  else if f.cyl + 1 < f.cylinders then some { f with cyl := f.cyl + 1, head := 0, ps := 0, phase := .tracks }
  else none

/-- The sector that certification reads after the one in hand (R155): of cylinder 0 only sectors 0 to 3 of head 0. -/
def Format.nextCert (f : Format) : Option Format :=
  if f.ps < f.lastSector then some { f with ps := f.ps + 1 }
  else if f.cyl = 0 then some { f with cyl := 1, head := 0, ps := 0 }
  else if f.head + 1 < f.heads then some { f with head := f.head + 1, ps := 0 }
  else if f.cyl + 1 < f.cylinders then some { f with cyl := f.cyl + 1, head := 0, ps := 0 }
  else none

/-- Record FORMAT's progress. -/
def State.setFormat (s : State) (b : BayId) (f : Format) : State := s.modBay b fun x => { x with format := some f }

/-! ## The end of FORMAT (R157 to R159) -/

/-- FORMAT ends after INVALIDATE has begun: the cartridge is UNFORMATTED (R158, R159); one that a link reset ends sets the
unit-changed flag (R95). -/
def State.formatFails (s : State) (b : BayId) (f : Format) (r : CmdResult) : State :=
  let silent := ((s.bay b).slot.map fun c => c.silent).getD false
  (s.modCart b fun c => { c with
    state := .unformatted
    mountDetail := if f.recordWritten then .recordCheck else .signature
    unitChanged := c.unitChanged || silent }).finishCmd b r

/-- A stopped FORMAT at a boundary (R159). -/
def State.formatStopped (s : State) (b : BayId) (f : Format) : State := s.formatFails b f (CmdResult.plain .aborted .none)

/-- The new record is written whole: FORMAT installs its tables and completes (R157, R161). -/
def State.formatDone (s : State) (b : BayId) (t : Tables) : State :=
  let s1 := s.modBay b fun x => { x with
    tu := { tables := some t, dirty := false, stagedZone := none, stagedList := none }
    cart := { x.cart with state := .mounted, mountDetail := .none } }
  (((s1.setMode b .idle).restartIdleTimers b).finishCmd b (CmdResult.plain .good .none)).seekOrder b { cyl := 1, head := 0 }
    false

/-! ## The phases (R153 to R157) -/

/-- The track in hand is sought and written (R153, R154). -/
def State.formatTrack (s : State) (b : BayId) (f : Format) : State :=
  (s.setFormat b f).approach b (Job.start .formatTrack (f.sectorAt f.place) [])

/-- INVALIDATE begins (R153). -/
def State.formatBegin (s : State) (b : BayId) (f : Format) : State :=
  let s1 := s.modBay b fun x => { x with
    tu := { x.tu with tables := none, dirty := false }
    cart := { x.cart with state := .formatting, mountDetail := .signature } }
  (s1.leavePower b).formatTrack b { f with phase := .invalidate, cyl := 0, head := 0, ps := 0 }

/-- RECORD begins with the tables of DISPOSE (R157). -/
def State.formatRecord (s : State) (b : BayId) (f : Format) (d : Disposing) : State :=
  let t : Tables := { heads := f.heads, cylinders := f.cylinders, zones := d.zones, map := d.map, generation := 0,
                      certified := f.certRun }
  (s.setFormat b { f with phase := .record, cyl := 0, head := 0, ps := 0, newTables := some t }).approach b
    (Job.start .formatRecord (recordSector 0) [])

/-- DISPOSE, and what follows it (R156, R158, R159). -/
def State.formatDispose (s : State) (b : BayId) (f : Format) : State :=
  let d := dispose f.heads f.zones f.defects
  let f := { f with phase := .dispose }
  match d.exhausted with
  | some z => s.formatFails b f (CmdResult.plain .sparesExhausted (.zoneNumber z))
  | none => if (s.bay b).stopped then s.formatStopped b f else s.formatRecord b f d

/-- A slot is filled again: FILLING, with nothing in it (R129; notes/assumptions/70.md). -/
def SlotRec.refilled (r : SlotRec) : SlotRec := { r with state := .filling, ecc := none, data := [] }

/-- The sector in hand is read for certification, into the slot already held, which is refilled (R129, R155). -/
def State.formatCertify (s : State) (b : BayId) (f : Format) (slots : List Nat) : State :=
  ((slots.foldl (fun (s : State) k => s.modSlot k SlotRec.refilled) s).setFormat b f).approach b
    (Job.start .certRead (f.sectorAt f.place) slots)

/-- A format track is written: the next one, or the phase after TRACKS (R153 to R155, R159). -/
def State.trackWritten (s : State) (b : BayId) (f : Format) : State :=
  let s1 := s.setJob b none
  if (s.bay b).stopped then s1.formatStopped b f
  else
    match f.nextTrack with
    | some f => s1.formatTrack b f
    | none =>
      if f.certify then s1.formatCertify b { f with phase := .certify, cyl := 0, head := 0, ps := 0 } []
      else s1.formatDispose b f

/-- Certification has run: its slot is freed and DISPOSE follows (R155). -/
def State.certified (s : State) (b : BayId) (f : Format) : State :=
  ((s.setJob b none).freeWhere b fun _ => true).formatDispose b { f with certRun := true }

/-- Whether a certification read's outcome is a defect (R155). The read correction span, which R152 has FORMAT use, decides nothing
here: neither R129 nor R155 gives it a part (the model's choice, notes/assumptions/103.md). -/
def certDefect (threshold : Nat) : Option EccClass → Bool
  | none => true
  | some .uncorrectable => true
  | some (.correctable span) => threshold ≤ span
  | some .clean => false

/-- The completion code of a defect found by certification (R158). -/
def certCode : Option EccClass → Completion
  | none => .idNotFound
  | some _ => .mediumError

/-- The next certification read, or the end of the phase (R155, R159). -/
def State.nextCertRead (s : State) (b : BayId) (f : Format) (j : Job) : State :=
  if (s.bay b).stopped then s.formatStopped b f
  else
    match f.nextCert with
    | some f => s.formatCertify b f j.slots
    | none => s.certified b f

/-- A certification read has its outcome (R129, R155). -/
def State.certResult (s : State) (b : BayId) (f : Format) (j : Job) (outcome : Option EccClass) : State :=
  let threshold := ((s.bay b).slot.map fun c => c.caps.reportThreshold).getD 0
  let at_ : CmdResult := { completion := .systemAreaDefect, detail := .result (certCode outcome), lba := none,
                           addr := some j.sector.addr.sense }
  if !certDefect threshold outcome then s.nextCertRead b f j
  else if f.cyl = 0 then s.formatFails b f at_
  else
    let defects := addDefect j.sector.addr .certified f.defects
    if Config.maxDefects < defects.length then
      s.formatFails b f { at_ with completion := .defectListFull, detail := .none }
    else s.nextCertRead b { f with defects } j

/-- The image of the new record is built into its four slots (R157). -/
def State.buildFormat (s : State) (t : Tables) (slots : List Nat) : State :=
  (List.range 4).foldl (fun (s : State) k =>
    s.modSlot (slots.getD k 0) fun r => { r with state := .full, data := recordPartOf (recordImage t 0) k }) s

/-- A record sector of FORMAT has been written or has failed (R157 to R159). The last one written completes the FORMAT, a stop that
is pending or not (notes/assumptions/85.md). -/
def State.formatRecordSector (s : State) (b : BayId) (f : Format) (j : Job) (r : SectorResult) : State :=
  match r with
  | .good | .recovered =>
    let f := { f with recordWritten := true }
    if 3 ≤ j.sector.part then
      match f.newTables with
      | some t => s.formatDone b t
      | none => s
    else if (s.bay b).stopped then (s.setFormat b f).formatStopped b f
    else
      ((s.setFormat b f).setJob b (some { Job.start .formatRecord (recordSector (j.sector.part + 1)) j.slots with
        stage := .atTrack })).tell (.poke b)
  | .mediumError | .idNotFound | .writeFault =>
    s.formatFails b f { completion := .systemAreaDefect, detail := .result r.completion, lba := none,
                        addr := some j.sector.addr.sense }
  | .writeProtected | .seekError =>
    s.formatFails b f { completion := r.completion, detail := s.resultDetail b r, lba := none, addr := some (j.failedAt r) }

/-- The result of a format track, or of a certification read that could not seek (R154, R155, R158). -/
def State.formatSector (s : State) (b : BayId) (f : Format) (j : Job) (r : SectorResult) : State :=
  match r with
  | .good | .recovered => s.trackWritten b f
  | .mediumError | .idNotFound | .writeFault | .writeProtected | .seekError =>
    s.formatFails b f { completion := r.completion, detail := s.resultDetail b r, lba := none, addr := some (j.failedAt r) }

end Sys2Proof.Machine
end

