-- ==== Sys2Proof/Machine/Stops.lean ====
section
/-! DEFINITION. How a command is stopped at its next boundary, by ABORT, by a button eject, by a link error or by a link reset
(R36, R99, R104, R106, R146, R148, R159, R166, R173, R179). -/

namespace Sys2Proof.Machine

/-- A media command in its blocks is at a boundary: no seek is in motion and no data field is under way (R126, R146). -/
def State.jobStopReady (s : State) (b : BayId) : Bool :=
  match (s.bay b).job with
  | none => true
  | some j =>
    match j.stage with
    | .waitReady | .loading => true
    | .loadingToSeek | .seeking | .regain => false
    | .atTrack => !s.inField b

/-- A report frame of the bay's command is going out. -/
def State.reportGoingOut (s : State) (target : BayField) : Bool :=
  match s.link.outFrame with
  | some f => f.owned && f.target == target && f.slot.isNone
  | none => false

/-- A DATA-OUT frame for the bay is in progress, as far as its header has come (R146; notes/assumptions/90.md). -/
def State.dataFrameComing (s : State) (b : BayId) : Bool :=
  s.link.inFrame.any fun f =>
    let header := f.header
    f.due.isNone && header.getD 0 0 == 0x02 && (header.length < 2 || BayField.ofByte (header.getD 1 0) == some (.bay b))

/-- The slot's command can end now. STANDBY NOW and an accepted FORMAT end at boundaries of their own (R159, R166); an EJECT is
reached through its request (R104). A FLUSH RECORD whose write has lost the track has no record sector under way and ends at once, a
seek back in motion or not (R104, R106, R146; the model's choice, notes/assumptions/112.md). -/
def State.stopReady (s : State) (b : BayId) (c : Cmd) : Bool :=
  match c.op with
  | .standbyNow | .eject _ => false
  | .format _ _ _ _ => (((s.bay b).format.map fun f => f.phase).getD .waiting) == .waiting
  | .flushRecord =>
    c.wait != .working || !(((s.bay b).flush.map fun f => f.writing).getD false && s.inField b)
  | .read | .write | .verify | .seek | .reassign => c.wait != .working || s.jobStopReady b
  | .reportCartridge | .reportCapacity | .reportDefects | .readTable _ | .identify => !s.reportGoingOut (.bay b)
  | .wake => true
  | .loadTable _ => !s.dataFrameComing b

/-- A LOAD TABLE in the bay's slot is being stopped (R99, R146). -/
def Bay.stoppedLoad (x : Bay) : Bool :=
  x.slot.any fun c => c.stop.isSome &&
    match c.op with
    | .loadTable _ => true
    | .read | .write | .verify | .seek | .reassign | .format _ _ _ _ | .flushRecord | .eject _ | .reportCartridge | .reportCapacity
    | .reportDefects | .standbyNow | .wake | .readTable _ | .identify => false

/-- The slot's command ends at a boundary. -/
def State.endStopped (s : State) (b : BayId) (c : Cmd) (cause : StopCause) : State :=
  match c.op, (s.bay b).flush, (s.bay b).reassign with
  | .flushRecord, some f, _ =>
    if f.requester = .flushRecord then s.flushHalted b f else s.finishCmd b (c.stoppedResult cause)
  | _, _, some r => s.reassignStopped b r cause
  | _, _, none => s.finishCmd b (c.stoppedResult cause)

/-- A stopped command ends if it is at a boundary (R146). -/
def State.tryStop (s : State) (b : BayId) : State :=
  match (s.bay b).slot with
  | none => s
  | some c =>
    match c.stop with
    | some cause => if c.result.isNone && s.stopReady b c then s.endStopped b c cause else s
    | none => s

/-- A link error stands before another cause. -/
def StopCause.joins (old : Option StopCause) (new : StopCause) : StopCause :=
  match old, new with
  | some (.link d), _ => .link d
  | some x, .abort => x
  | some x, .eject => x
  | _, .link d => .link d
  | none, x => x

/-- The slot's command is to stop at its next boundary, which may be now; no further report frame of it is sent. -/
def State.requestStop (s : State) (b : BayId) (cause : StopCause) : State :=
  ((s.modCmd b fun c => { c with stop := some (StopCause.joins c.stop cause) }).dropDescs (Desc.isReportOf (.bay b))).tryStop b

/-- A flush of an EJECT that was stopped ends when its record sector is no longer being written (R104; notes/assumptions/77.md). -/
def State.haltFlush (s : State) (b : BayId) : State :=
  match (s.bay b).flush with
  | some f => if f.stop && !(f.writing && s.inField b) then s.flushHalted b f else s
  | none => s

/-- A failed try or a lost seek is the boundary of the operation under way: that of a media command, of a FLUSH RECORD or of a
stopped EJECT's flush (R104, R106, R146). A stopped FORMAT or STANDBY NOW has later boundaries (R159, R166). -/
def Bay.endsAtTry (x : Bay) : Bool :=
  (x.flush.any fun f => f.stop) ||
    (x.slot.any fun c => c.stop.isSome &&
      match c.op with
      | .read | .write | .verify | .seek | .reassign | .flushRecord => true
      | .format _ _ _ _ | .eject _ | .reportCartridge | .reportCapacity | .reportDefects | .standbyNow | .wake | .loadTable _
      | .readTable _ | .identify => false)

/-! ## EJECT and the commands that a link reset ends (R104, R179) -/

/-- The eject request is still in its flush phase (R104). -/
def Cartridge.ejectFlushing (x : Cartridge) : Bool :=
  match x.eject with
  | some e => e.phase == .flush && x.state == .unmounting
  | none => false

/-- The slot's EJECT is attached to a button's request (R96, R104). -/
def Cartridge.ejectAttached (x : Cartridge) : Bool :=
  match x.eject with
  | some e => e.source == .button && e.commandWaits
  | none => false

/-- An EJECT's own flush is stopped: at once before the write and while no record sector is being written, or at the end of the
record sector (R104). -/
def State.stopEjectFlush (s : State) (b : BayId) : State :=
  match (s.bay b).flush with
  | none => (s.backToMounted b).finishCmd b (CmdResult.plain .aborted .none)
  | some f =>
    if f.writing && s.inField b then s.modBay b fun x => { x with flush := some { f with stop := true } }
    else s.flushHalted b f

/-- The eject request goes on without its EJECT (R104). -/
def State.detachEject (s : State) (b : BayId) : State :=
  s.modCart b fun c => { c with eject := c.eject.map fun e => { e with commandWaits := false } }

/-- ABORT reaches an EJECT (R104): whether it was stopped, and the state. One that is attached to a button's request is stopped in
every phase of it (notes/assumptions/84.md). -/
def State.abortEject (s : State) (b : BayId) : Bool × State :=
  if (s.bay b).cart.ejectAttached then (true, (s.detachEject b).finishCmd b (CmdResult.plain .aborted .none))
  else if (s.bay b).cart.ejectFlushing then (true, s.stopEjectFlush b)
  else (false, s)

/-- A link reset ends the slot's command without STATUS, at the boundary that ABORT would reach (R148, R179). An EJECT past its
flush phase, or whose request waits in BAY_FAULT, goes on without status (R104; notes/assumptions/48.md). -/
def State.endSilently (s : State) (b : BayId) : State :=
  match (s.bay b).slot with
  | none => s
  | some c =>
    let s1 := s.modCmd b fun c => { c with silent := true, result := none }
    match c.op, c.result with
    | .eject _, _ =>
      if (s.bay b).cart.ejectAttached then (s1.detachEject b).finishCmd b (CmdResult.plain .aborted .none)
      else if (s.bay b).cart.ejectFlushing then s1.stopEjectFlush b
      else s1
    | _, some r => s1.finishCmd b r
    | _, none => s1.requestStop b .abort

end Sys2Proof.Machine
end

