-- ==== Sys2Proof/Machine/LinkPort.lean ====
section
/-! DEFINITION. The Link Interface's shared operations (10_the_drive_link.md, 11_tables_sense_and_attention.md): DATA-OUT frames
and where they go, table images, report frames, and the end of an outbound frame. -/

namespace Sys2Proof.Machine

/-! ## Report frames (R41, R108, R187) -/

/-- The payload sources of a report command's frames. -/
def State.reportSources (s : State) (target : BayField) (c : Cmd) : List ReportSource :=
  match target with
  | .device =>
    match c.op with
    | .readTable id => (List.range (imageFrames (s.tableImage .device id).length)).map fun k => .table id k
    | .identify => [.bytes s.identifyPayload]
    | .read | .write | .verify | .seek | .reassign | .format _ _ _ _ | .flushRecord | .eject _ | .reportCartridge
    | .reportCapacity | .reportDefects | .standbyNow | .wake | .loadTable _ => []
  | .bay b =>
    match c.op, (s.bay b).tu.tables with
    | .reportCartridge, _ => [.bytes (cartridgePayload (s.bay b) c.unitWas)]
    | .reportCapacity, some t => [.bytes (capacityPayload t)]
    | .reportDefects, some t => (List.range (defectFrames t.map.length)).map fun k => .defects k
    | .readTable id, _ => (List.range (imageFrames (s.tableImage (.bay b) id).length)).map fun k => .table id k
    | _, _ => []

/-- Change the command in the slot of a target. -/
def State.modTarget (s : State) (target : BayField) (f : Cmd → Cmd) : State :=
  match target with
  | .bay b => s.modCmd b f
  | .device => { s with deviceSlot := s.deviceSlot.map f }

/-- A report command's frames are ready and join the queue as room allows (R176; notes/assumptions/13.md). -/
def State.offerReports (s : State) (target : BayField) (c : Cmd) : State :=
  let sources := s.reportSources target c
  sources.foldl (fun (s : State) x => s.offer (.report target x true))
    (s.modTarget target fun c => { c with framesLeft := sources.length })

/-! ## DATA-OUT frames (R116, R139, R173, R174) -/

/-- What a DATA-OUT frame of a bay field goes to (R174). -/
inductive Expected where
  | nothing
  | sector (b : BayId) (c : Cmd)
  | image (x : Staging)
  deriving DecidableEq, Repr

/-- The LOAD TABLE image that a bay field's slot waits for. -/
def State.expectedImage (s : State) (target : BayField) : Expected :=
  match s.staging with
  | some x => if x.target = target ∧ x.bytes.length < x.declared then .image x else .nothing
  | none => .nothing

/-- The command that expects a DATA-OUT frame, if one does (R174). -/
def State.expecting (s : State) (target : BayField) : Expected :=
  match target with
  | .device => s.expectedImage .device
  | .bay b =>
    match (s.bay b).slot with
    | some c =>
      if c.op = .write then (if c.received < c.count ∧ c.result.isNone then .sector b c else .nothing)
      else s.expectedImage target
    | none => .nothing

/-- The first payload byte of a frame for the bay's WRITE is held back: the bay is at its quota, or the WRITE waits for a mount
or behind a standby entry's flush (R116). -/
def State.holdsFrame (s : State) (b : BayId) (c : Cmd) : Bool := c.wait == .mount || c.wait == .flush || !s.mayAllocate b

/-- The error of a DATA-OUT frame against the length its command expects, if it has one (R173). -/
def dataOutError (expected declared : Nat) (payload : List LinkByte) (ended : Detail) : Option Detail :=
  match payloadError declared payload ended with
  | some d => some d
  | none => if declared = expected then none else some .length

/-- The slot that the frame in progress is filling for the bay's WRITE, if it has taken one (R116). -/
def State.frameSlot (s : State) (b : BayId) : Option Nat :=
  (s.link.inFrame.bind fun f => f.slot).filter fun k =>
    (s.slotRec k).owner == some b && (s.slotRec k).state == .filling && (s.slotRec k).purpose == some .hostData

/-- A sector frame of a WRITE arrives (R116): its slot becomes FULL, or the WRITE ends LINK_ERROR (R173). -/
def State.takeSectorFrame (s : State) (b : BayId) (c : Cmd) (declared : Nat) (payload : List LinkByte) (ended : Detail) :
    State :=
  match dataOutError 512 declared payload ended with
  | some d => s.requestStop b (.link d)
  | none =>
    let taken := s.frameSlot b
    let k := taken.getD s.lowestFree
    (((if taken.isSome then s else s.allocate b .hostData (some (c.lba + c.received))).modSlot k fun r =>
      { r with state := .full, data := payload.map linkData }).modCmd b fun c => { c with received := c.received + 1 }).tell
      (.poke b)

/-- A complete image is checked and installed or staged, or rejected (R184 to R186). -/
def State.imageComplete (s : State) (x : Staging) : State :=
  match imageRejection x.id x.declared x.bytes with
  | some d => s.finishTarget x.target .tableRejected d
  | none =>
    let body := x.bytes.take (x.declared - 2)
    match x.id, x.target with
    | .mode, _ =>
      ({ s with dmt := clampedDmt x.bytes } : State).finishTarget x.target .good
        (if wasClamped x.bytes then .clamped else .none)
    | .profile, _ => ({ s with profile := profileRows x.bytes } : State).finishTarget x.target .good .none
    | .zone, .bay b => (s.modTu b fun u => { u with stagedZone := some body }).finishTarget x.target .good .none
    | .defectList, .bay b => (s.modTu b fun u => { u with stagedList := some body }).finishTarget x.target .good .none
    | .zone, .device => s
    | .defectList, .device => s

/-- A frame of a LOAD TABLE's image arrives (R174, R183). -/
def State.takeImageFrame (s : State) (x : Staging) (declared : Nat) (payload : List LinkByte) (ended : Detail) : State :=
  match dataOutError (min 512 (x.declared - x.bytes.length)) declared payload ended with
  | some d => s.finishTarget x.target .linkError d
  | none =>
    let x := { x with bytes := x.bytes ++ payload.map linkData }
    let s1 : State := { s with staging := some x }
    if x.bytes.length = x.declared then s1.imageComplete x else s1

/-- The LOAD TABLE of a bay field is being stopped (R99, R146). -/
def State.loadStopped (s : State) : BayField → Bool
  | .bay b => (s.bay b).stoppedLoad
  | .device => false

/-- The frame that was in progress when its LOAD TABLE was stopped is received to its end: the LOAD TABLE ends ABORTED and installs
nothing, or LINK_ERROR where the frame has failed (R146, R183). -/
def State.takeLastFrame (s : State) (x : Staging) (declared : Nat) (payload : List LinkByte) (ended : Detail) : State :=
  match dataOutError (min 512 (x.declared - x.bytes.length)) declared payload ended with
  | some d => s.finishTarget x.target .linkError d
  | none => s.finishTarget x.target .aborted .none

/-- A frame of a WRITE whose first payload byte is held back (R116), with its two reservations (R176). The link timer does not run
while the part withholds its acknowledge (R178). -/
def State.holdFrame (s : State) (b : BayId) (declared : Nat) (payload : List LinkByte) : State :=
  s.modLink fun l => { l with
    inFrame := some {
      bytes := (frameHeader 0x02 (.bay b) declared).map linkByte, ack := false, held := none, slot := none, late := []
      limit := (l.inFrame.map fun f => f.limit).getD s.dmt.linkLimit
      due := some { bay := b, declared, payload } }
    timer := none
    reservations := l.reservations + 2 }

/-- The frame in progress was begun for a command of this bay field that has ended since (R139). -/
def State.frameLate (s : State) : BayField → Bool
  | .bay b => s.link.inFrame.any fun f => f.late.contains b
  | .device => false

/-- A DATA-OUT frame with a good header arrives (R173, R174), or is ended by the link timer (R178). A frame whose first byte was
taken before its WRITE ended is discarded without report (R139). A frame that no command expects is answered UNEXPECTED_DATA, one
that the link timer ends too (notes/assumptions/89.md). -/
def State.takeDataOut (s : State) (target : BayField) (declared : Nat) (payload : List LinkByte) (late : Bool)
    (ended : Detail) : State :=
  if late || s.frameLate target then s
  else
    match s.expecting target with
    | .nothing => s.answer target .unexpectedData .none 0
    | .sector b c =>
      if !payload.isEmpty && (s.frameSlot b).isNone && s.holdsFrame b c then s.holdFrame b declared payload
      else s.takeSectorFrame b c declared payload ended
    | .image x =>
      if s.loadStopped target then s.takeLastFrame x declared payload ended else s.takeImageFrame x declared payload ended

/-- The held frame is let go and gives back its two reservations (R176). -/
def State.dropHeld (s : State) : State :=
  s.modLink fun l => { l with inFrame := none, timer := none, reservations := l.reservations - 2 }

/-- A held frame ends early because LDIR has turned, before its first payload byte was taken: it is a SHORT_FRAME of its WRITE
(R173). -/
def State.cutHeld (s : State) : State :=
  match s.link.inFrame.bind fun f => f.due with
  | none => s
  | some h =>
    match s.expecting (.bay h.bay) with
    | .sector b c => s.dropHeld.takeSectorFrame b c h.declared [] .short
    | .nothing => s.dropHeld
    | .image _ => s.dropHeld

/-! ## The inbound frame in progress (R171, R172, R176, R178) -/

/-- The slot that the frame in progress has taken and not filled is freed (R116, R118). -/
def State.dropFrameSlot (s : State) : State :=
  match s.link.inFrame.bind fun f => f.slot with
  | some k =>
    if (s.slotRec k).state == .filling && (s.slotRec k).purpose == some .hostData then s.freeSlot k else s
  | none => s

/-- An inbound frame has ended before LFRM dropped: its further bytes begin no frame (R172, R178). -/
def State.frameSpent (s : State) : State := s.modLink fun l => { l with spent := true }

/-- A LOAD TABLE that is being stopped ends with the frame in progress (R146). -/
def State.stoppedLoadEnds (s : State) (b : BayId) : State :=
  if (s.bay b).stoppedLoad then s.tell (.boundary b) else s

/-- The frame in progress is over: its slot is freed unless it became FULL (R116), the link timer stops (R178), and a LOAD TABLE that
waited for its end is stopped (R146). `early` says that LFRM has not dropped, so that its further bytes begin no frame (R172, R178).
A frame held back stays in progress until its bay takes it. -/
def State.inboundEnds (s : State) (early : Bool) : State :=
  match s.link.inFrame with
  | some f =>
    if f.due.isSome then s
    else
      ((s.dropFrameSlot.modLink fun l => { l with inFrame := none, timer := none, spent := early }).stoppedLoadEnds
        .bayA).stoppedLoadEnds .bayB
  | none => s

/-- The frame in progress ends in this event with the effect `f`: its two reservations are given back, to be used by what the frame
queues (R176), and it is over. -/
def State.endInbound (s : State) (early : Bool) (f : State → State) : State :=
  (f (s.modLink fun l => { l with reservations := l.reservations - 2 })).inboundEnds early

/-- The first header byte of an inbound frame is taken and LACK raised (R171, R172): the frame reserves two entries (R176), and the
link timer runs until LSTB drops (R178). -/
def State.beginInbound (s : State) (x : LinkByte) : State :=
  s.modLink fun l => { l with
    inFrame := some { bytes := [x], ack := true, held := none, slot := none, late := [], limit := s.dmt.linkLimit, due := none }
    timer := some s.dmt.linkLimit
    reservations := l.reservations + 2 }

/-- The WRITE for which the next byte of the frame in progress is its first payload byte (R116). -/
def State.firstPayload (s : State) (f : InFrame) : Option (BayId × Cmd) :=
  if f.bytes.length = 4 then
    match frameVerdict f.bytes .short with
    | .dataOut target _ _ =>
      match s.expecting target with
      | .sector b c => if s.frameLate target then none else some (b, c)
      | .nothing => none
      | .image _ => none
    | .frameError _ => none
    | .answered _ _ _ _ => none
    | .command _ => none
  else none

/-- A byte of the frame in progress is taken and LACK raised (R171). -/
def State.takeByte (s : State) (f : InFrame) (x : LinkByte) (slot : Option Nat) : State :=
  s.modLink fun l => { l with
    inFrame := some { f with bytes := f.bytes ++ [x], ack := true, held := none, slot }
    timer := some f.limit }

/-- LSTB is raised for the next byte of the frame in progress: the byte is taken, or, when it is the first payload byte of a WRITE's
frame, waits on the lines for its buffer slot, unacknowledged, and the link timer does not run (R116, R178). -/
def State.strobed (s : State) (f : InFrame) (x : LinkByte) : State :=
  match s.firstPayload f with
  | none => s.takeByte f x f.slot
  | some (b, c) =>
    if s.holdsFrame b c then s.modLink fun l => { l with inFrame := some { f with held := some x }, timer := none }
    else (s.allocate b .hostData (some (c.lba + c.received))).takeByte f x (some s.lowestFree)

/-- A byte that waits on the lines is taken in the event in which its WRITE may take it or has ended (R115, R116, R139). -/
def State.stepByte (s : State) : State :=
  match s.link.inFrame with
  | some f => match f.held with
    | some x => s.strobed f x
    | none => s
  | none => s

/-- A frame whose first payload byte is held back goes on when the bay's WRITE can take it, or is discarded when the WRITE has ended
(R116, R139). -/
def State.stepHeld (s : State) (b : BayId) : State :=
  match s.link.inFrame.bind fun f => f.due with
  | none => s.stepByte
  | some h =>
    if h.bay ≠ b then s
    else
      match s.expecting (.bay b) with
      | .sector _ c => if s.holdsFrame b c then s else s.dropHeld.takeSectorFrame b c h.declared h.payload .short
      | .nothing => s.dropHeld
      | .image _ => s.dropHeld

/-- A strobe of the host adapter, or a µs without one, with no frame in progress: a frame begins at the first byte strobed after LFRM
has risen (R172), as room allows (R176). The rest of a frame that has ended early begins none (R178). A low LFRM is the end of that
rest. -/
def State.heard (s : State) (lfrm : Bool) (strobe : Option LinkByte) : State :=
  if lfrm = false then s.modLink fun l => { l with spent := false }
  else
    match strobe with
    | some x => if s.takesFrame && !s.link.spent then s.beginInbound x else s
    | none => s

/-- The row of the table for an inbound frame that arrives with these bytes (R172, R173): that of its command, DATA_OUT_FRAME, or
INBOUND_FRAME_ERROR. -/
def frameRow (bytes : List LinkByte) : Instr :=
  match frameVerdict bytes .short with
  | .command i => i
  | .dataOut target declared payload => .dataOutFrame target (BitVec.ofNat 16 declared) ⟨payload, false⟩
  | .frameError _ => .inboundFrameError ⟨bytes, false⟩
  | .answered _ _ _ _ => .inboundFrameError ⟨bytes, false⟩

/-- The row that a drop of LFRM makes due: the frame in progress arrives with the bytes taken so far (R172; notes/assumptions/78.md). -/
def State.arrivalRow (s : State) (lfrm : Bool) : List Instr :=
  if s.frameUnderWay && !lfrm then (s.link.inFrame.map fun f => frameRow f.bytes).toList else []

/-- One µs of the four-phase exchange with a host adapter that sends (R171): `lfrm` is the level of LFRM, and `strobe` the byte it
holds with LSTB raised, nothing while LSTB is low. LACK drops when LSTB does; the link timer runs while the part waits for LSTB to
drop, or for the next strobe, loaded anew for each wait (R178). A byte whose acknowledge is held back stays on the lines. With LFRM
low the frame in progress is at its end: nothing more of it is exchanged, and it arrives (`State.arrivalRow`). -/
def State.receive (s : State) (lfrm : Bool) (strobe : Option LinkByte) : State :=
  match s.link.inFrame with
  | none => s.heard lfrm strobe
  | some f =>
    let waits (l : Link) : Link := { l with timer := some ((l.timer.getD f.limit) - 1) }
    if s.frameUnderWay && f.held.isNone && lfrm then
      match strobe, f.ack with
      | some _, true => s.modLink waits
      | none, true => s.modLink fun l => { l with inFrame := some { f with ack := false }, timer := some f.limit }
      | none, false => s.modLink waits
      | some x, false => s.strobed f x
    else s

/-! ## The end of an outbound frame (R41, R138, R177, R178) -/

/-- The outbound frame is over. -/
def State.clearOut (s : State) : State := s.modLink fun l => { l with outFrame := none, timer := none }

/-- A READ whose last DATA-IN frame has been sent queues its STATUS (R138). -/
def State.readDrained (s : State) (b : BayId) : State :=
  match (s.bay b).slot with
  | some c =>
    match c.result with
    | some r => if s.outstanding b then s else s.postStatus b r
    | none => s
  | none => s

/-- A report frame of the command in a slot has been sent: the command completes with its last frame (R41, R187), a stop that is
pending or not (notes/assumptions/82.md), or ends here when it is stopped with frames left (R146). -/
def State.reportSent (s : State) (target : BayField) : State :=
  let s1 := s.modTarget target fun c => { c with framesLeft := c.framesLeft - 1 }
  match s1.slotOf target with
  | some c =>
    if c.framesLeft = 0 then s1.finishTarget target .good .none
    else if c.stop.isSome then s1.finishTarget target .aborted .none
    else s1
  | none => s1

/-- An outbound frame has gone out (R177). -/
def State.frameSent (s : State) (f : OutFrame) : State :=
  let s1 := s.clearOut
  match f.slot, f.target with
  | some k, .bay b => (((s1.freeSlot k).modCmd b fun c => { c with sent := c.sent + 1 }).readDrained b).joinPending
  | some k, .device => s1.freeSlot k
  | none, target => if f.owned then s1.reportSent target else s1

/-- A DATA-IN frame of a READ is abandoned: the READ ends LINK_ERROR and its other FULL slots are freed unsent (R138, R178). -/
def State.readLinkError (s : State) (b : BayId) : State :=
  let s1 := (s.dropDescs (Desc.isSlotOf b)).freeWhere b fun r => r.purpose == some .mediaData && r.state == .full
  match (s.bay b).slot.bind fun c => c.result with
  | some _ => (s1.modCmd b fun c => { c with result := none }).finishCmd b (CmdResult.plain .linkError .timeout)
  | none => s1.requestStop b (.link .timeout)

/-- The outbound frame is abandoned (R178). -/
def State.abandonFrame (s : State) (f : OutFrame) : State :=
  let s1 := s.clearOut
  match f.slot, f.target with
  | some k, .bay b => (s1.freeSlot k).readLinkError b
  | some k, .device => s1.freeSlot k
  | none, target => if f.owned then s1.finishTarget target .linkError .timeout else s1

/-- ABORT of the device slot's command (R145, R146): whether there was one, and the state. -/
def State.abortDevice (s : State) : Bool × State :=
  match s.deviceSlot with
  | none => (false, s)
  | some c =>
    match c.op with
    | .loadTable _ => (true, s.finishDevice .aborted .none)
    | _ =>
      if s.reportGoingOut .device then
        (true, { s with deviceSlot := some { c with stop := some .abort } }.dropDescs (Desc.isReportOf .device))
      else (true, s.finishDevice .aborted .none)

end Sys2Proof.Machine
end

