-- ==== Sys2Proof/Machine/ServoPort.lean ====
section
/-! DEFINITION. The servo bus (R191): which bay's sample select is driven, the five bytes of a read, and the sample that they
make. -/

namespace Sys2Proof.Machine

/-- The sample that the five bytes of a read carry, in the order of R191: the flag byte, A, B and the track id in two bytes. That the
most significant of the two comes first is the model's choice (notes/assumptions/115.md); the places of the two flags are free values
(notes/assumptions/106.md). -/
def servoWord (bytes : List Byte) : ServoWord where
  sync := Config.servoSyncFlag (bytes.getD 0 0)
  indexFlag := Config.servoIndexFlag (bytes.getD 0 0)
  ampA := bytes.getD 1 0
  ampB := bytes.getD 2 0
  track := BitVec.ofNat 16 (field bytes 3 2)

/-- SSTB strobes `n` further bytes of a read, five in all; `data k` is what SD0 to SD7 carry at byte `k` (R191). -/
def ServoRead.strobed (x : ServoRead) (n : Nat) (data : Nat → Byte) : ServoRead :=
  { x with
    bytes := x.bytes ++ (((List.range Config.servoBytes).drop x.bytes.length).take n).map data }

/-- A sample of this bay has been handed over: its sample select is released, and it waits for the bus no more (R191). -/
def ServoBus.handedOver (x : ServoBus) (b : BayId) : ServoBus where
  reading := x.reading.filter fun r => r.bay != b
  waiter := x.waiter.filter fun w => w != b

/-- What the servo front ends do in a microsecond: the levels of the two sample ready lines, whether bay A is read first if both are
raised, how many bytes of a read that begins are strobed in the same microsecond, and what SD0 to SD7 carry at each byte. -/
structure ServoInputs where
  readyA : Bool
  readyB : Bool
  aFirst : Bool
  pace : Nat
  data : Nat → Byte

/-- A bay asks for the servo bus: its sample ready line is raised. That of an absent bay is not sampled (R191). -/
def State.servoAsks (s : State) (x : ServoInputs) (b : BayId) : Bool :=
  s.bayPresent b && (match b with | .bayA => x.readyA | .bayB => x.readyB)

/-- The bay whose sample is read next on a free bus: one that has waited for the bus goes first, and of two that ask together either
may (R191). -/
def State.servoNext (s : State) (x : ServoInputs) : Option BayId :=
  let first := s.servo.waiter.getD (if x.aFirst then .bayA else .bayB)
  if s.servoAsks x first then some first
  else if s.servoAsks x (otherBay first) then some (otherBay first)
  else none

/-- The read of this microsecond: the one under way strobes its last bytes, so that no read takes more than 2 µs, or one begins
(R191). -/
def State.servoReading (s : State) (x : ServoInputs) : Option ServoRead :=
  match s.servo.reading with
  | some r => some (r.strobed Config.servoBytes x.data)
  | none => (s.servoNext x).map fun b => ({ bay := b, bytes := [] } : ServoRead).strobed x.pace x.data

/-- All five bytes have been read (R191). -/
def ServoRead.complete (x : ServoRead) : Bool := Config.servoBytes ≤ x.bytes.length

/-- The servo bus after a microsecond: a read that is complete releases its sample select, and a bay that asks meanwhile waits. -/
def State.servoBus (s : State) (x : ServoInputs) : ServoBus :=
  match s.servoReading x with
  | some r => {
      reading := if r.complete then none else some r
      waiter := if s.servoAsks x (otherBay r.bay) then some (otherBay r.bay) else none }
  | none => { reading := none, waiter := none }

/-- The row of a sample whose fifth byte has been read in this microsecond: its Positioner receives it (R191). -/
def State.servoRow (s : State) (x : ServoInputs) : List Instr :=
  match s.servoReading x with
  | some r => if r.complete then [.servoSample r.bay (servoWord r.bytes)] else []
  | none => []

end Sys2Proof.Machine
end

