-- ==== Sys2Proof/Machine/Clock.lean ====
section
/-! DEFINITION. The passing of one microsecond while no command waits (notes/assumptions/3.md): the period counters count up
(R44), every running timer counts down, the exchange of a byte of the link may go on, and so may the read of a servo sample. What a
timer does at its end is the effect of its own row of the opcode table. -/

namespace Sys2Proof.Machine

/-- One µs less to run; a timer that is due stays due. -/
def tickTimer (t : Timer) : Timer := t.map fun n => n - 1

/-- The Spindle Controller's counter and timers (R44). -/
def Spindle.tick (x : Spindle) : Spindle :=
  { x with
    counter := min Config.saturatedPeriod (x.counter + 1)
    spinUpTimer := tickTimer x.spinUpTimer
    firstIndexTimer := tickTimer x.firstIndexTimer
    gapTimer := tickTimer x.gapTimer
    recoveryTimer := tickTimer x.recoveryTimer
    brakeTimer := tickTimer x.brakeTimer
    stopTimer := tickTimer x.stopTimer }

/-- The Positioner's timers (R66). -/
def Positioner.tick (x : Positioner) : Positioner :=
  { x with
    loadTimer := tickTimer x.loadTimer
    seekTimer := tickTimer x.seekTimer
    recalTimer := tickTimer x.recalTimer
    unloadTimer := tickTimer x.unloadTimer
    retractTimer := tickTimer x.retractTimer }

/-- The Cartridge Handler's timers (R90, R91). -/
def Cartridge.tick (x : Cartridge) : Cartridge :=
  { x with
    settleTimer := tickTimer x.settleTimer
    lockConfirm := tickTimer x.lockConfirm
    releaseConfirm := tickTimer x.releaseConfirm
    pulseTimer := tickTimer x.pulseTimer }

/-- The idle timers (R162). -/
def Power.tick (x : Power) : Power :=
  { x with unloadTimer := tickTimer x.unloadTimer, standbyTimer := tickTimer x.standbyTimer }

/-- A bay's counter and timers; the idle timers count only under the conditions of R162. -/
def Bay.tick (x : Bay) : Bay :=
  { x with
    spindle := x.spindle.tick
    pos := x.pos.tick
    cart := x.cart.tick
    power := if x.idleCounting then x.power.tick else x.power }

/-- The outbound frame in progress and the link timer (R171, R178). The timer runs while the part waits for the host adapter's
next phase, is stopped when the phase comes, and is loaded anew for the next wait; the exchange of the last byte leaves it
stopped. The timer of an inbound frame runs with the exchange of its bytes (`State.receive`). -/
def Link.tick (x : Link) (phase : Bool) : Link :=
  match x.outFrame with
  | none => x
  | some f =>
    if f.over then x
    else if phase then
      { x with outFrame := some f.advance, timer := if f.advance.over then none else some f.limit }
    else { x with timer := tickTimer x.timer }

/-- What the pins bring in a microsecond: whether the host adapter gives the phase that an outbound frame waits for, asserts LFRM,
and holds a byte with LSTB raised, and what the servo front ends do. -/
structure Inputs where
  phase : Bool
  lfrm : Bool
  strobe : Option LinkByte
  servo : ServoInputs

/-- The microsecond of everything but the servo bus: nothing counts while RESET is held (R192), and a bay that is not present has no
clock (R192). -/
def State.count (s : State) (x : Inputs) : State :=
  if s.resetHeld then s
  else
    let t := s.receive x.lfrm x.strobe
    { t with
      bayA := s.bayA.tick
      bayB := if s.twoBays then s.bayB.tick else s.bayB
      link := t.link.tick x.phase }

/-- The row that the end of the last byte's exchange makes due: the outbound frame has gone out (R177; notes/assumptions/59.md). -/
def State.sentRow (s : State) (phase : Bool) : List Instr :=
  if s.linkAlive && (s.link.tick phase).outFrame.any OutFrame.over then [.outboundFrameSent] else []

/-- One µs passes. What the pins make due in it, a frame that arrives or has gone out and a sample that has been read, waits as its row
at the end of the queue, the frame first (notes/assumptions/59.md, 78.md, 106.md). The servo bus goes on while RESET is held
(R191). -/
def State.tickWith (s : State) (x : Inputs) : State :=
  { s.count x with
    servo := s.servoBus x.servo
    hostTurns := s.hostTurns + 1
    pending := s.pending ++ s.arrivalRow x.lfrm ++ s.sentRow x.phase ++ s.servoRow x.servo }

/-- What the pins bring in the microsecond of a number: free values (notes/assumptions/59.md, 78.md, 106.md). -/
def inputsAt (n : Nat) : Inputs where
  phase := Config.hostPhase n
  lfrm := Config.hostFrame n
  strobe := Config.hostStrobe n
  servo := {
    readyA := Config.sampleReadyA n
    readyB := Config.sampleReadyB n
    aFirst := Config.servoAFirst n
    pace := Config.servoPace n
    data := Config.servoData n }

/-- One µs passes. -/
def State.tick (s : State) : State := s.tickWith (inputsAt s.hostTurns)

end Sys2Proof.Machine
end

