-- ==== Sys2Proof/Machine/Deliver.lean ====
section
/-! DEFINITION. How commands begin to work, how the messages of an event are delivered from block to block, and how an event
ends: `conclude` delivers them all, brings the readiness class up to date and lets the link begin a frame. -/

namespace Sys2Proof.Machine

/-! ## A command begins (R136, R153, R161, R164, R165) -/

/-- A FLUSH RECORD that finds the record dirty begins its flush (R106). In PARKED_IDLE or STANDBY that is a wake: the flush's own
steps load the heads, and heads that stand loaded already answer its load order (R100, R165). R100 gives loaded heads a seek order and
no load: that a FLUSH RECORD accepted in the closing seek of a wake that no command waits on gives a load order too, answered LOADED
at once, and that the mode is ACTIVE with that answer, is the model's choice (notes/assumptions/104.md). -/
def State.flushCommand (s : State) (b : BayId) (c : Cmd) : State :=
  let mode := (s.bay b).power.mode
  if mode = .parkedIdle ∨ mode = .standby then
    let s1 := (s.modPower b fun p => { p with
      wake := some { startMode := (p.wake.map fun w => w.startMode).getD mode, waiting := true } }).startFlush b .flushRecord c.caps
    if (s.bay b).pos.state.loaded then s1.loadOrder b false none else s1
  else s.startFlush b .flushRecord c.caps

/-- A command that nothing holds back begins its work. -/
def State.beginWork (s : State) (b : BayId) : State :=
  match (s.bay b).slot with
  | none => s
  | some c =>
    match c.op with
    | .read | .write | .verify | .seek => s.takeBlock b
    | .reassign => s.startReassign b c
    | .format _ _ _ _ =>
      match (s.bay b).format with
      | some f => s.formatBegin b f
      | none => s
    | .flushRecord => if (s.bay b).tu.dirty then s.flushCommand b c else s.finishCmd b (CmdResult.plain .good .none)
    | .reportCartridge | .reportCapacity | .reportDefects | .readTable _ => s.offerReports (.bay b) c
    | .wake =>
      if (s.bay b).power.mode = .parkedIdle ∨ (s.bay b).power.mode = .standby then s.waitForWake b
      else s.finishCmd b (CmdResult.plain .good .none)
    | .identify | .eject _ | .standbyNow | .loadTable _ => s

/-- Whether an operation is FORMAT. -/
def CmdOp.isFormat : CmdOp → Bool
  | .format _ _ _ _ => true
  | .read | .write | .verify | .seek | .reassign | .flushRecord | .eject _ | .reportCartridge | .reportCapacity
  | .reportDefects | .standbyNow | .wake | .loadTable _ | .readTable _ | .identify => false

/-- A command is taken in the power mode it finds (R136, R161, R165). A FORMAT that finds the heads out of the loaded states in
IDLE, in a reload of the Positioner's own, waits for a load (R153; notes/assumptions/75.md). -/
def State.takeInMode (s : State) (b : BayId) (op : CmdOp) : State :=
  match (s.bay b).power.mode with
  | .idle | .active =>
    let s1 := if op = .wake then s else s.setMode b .active
    if op.isFormat && !(s.bay b).pos.state.loaded then (s1.modCmd b fun c => { c with wait := .wake }).loadOrder b false none
    else s1.beginWork b
  | .parkedIdle | .standby => if op.needsHeads then s.waitForWake b else s.beginWork b
  | .unmounted => s.beginWork b

/-- A command has taken the bay's slot: it waits behind a standby entry's flush, ends an entry that is past its flush, and
otherwise begins (R153, R164). A FORMAT that finds the heads of an UNFORMATTED bay out of the loaded states gives the load order of
R94 at once where the spindle is ready for it (notes/assumptions/58.md). -/
def State.commandAccepted (s : State) (b : BayId) (op : CmdOp) : State :=
  if (s.bay b).cart.state = .unformatted ∧ op.needsHeads ∧ !(s.bay b).pos.state.loaded then
    let s1 := s.modCmd b fun c => { c with wait := .wake }
    if (s.bay b).mayLoad then s1.loadOrder b false (some systemTrack) else s1
  else
    match (s.bay b).power.entry.map fun (e : StandbyEntry) => e.phase with
    | some .flush => s.modCmd b fun c => { c with wait := .flush }
    | some .unload => (s.endEntry b).takeInMode b op
    | some .brake => (s.endEntry b).takeInMode b op
    | none => s.takeInMode b op

/-! ## Validation of a media command (R134, R135) -/

/-- Whether an operation makes check 8 of R134: all but FORMAT and FLUSH RECORD. -/
def CmdOp.makesRangeCheck : CmdOp → Bool
  | .read | .write | .verify | .seek | .reassign => true
  | .format _ _ _ _ | .flushRecord | .eject _ | .reportCartridge | .reportCapacity | .reportDefects | .standbyNow | .wake
  | .loadTable _ | .readTable _ | .identify => false

/-- Whether an operation makes check 9 of R134. -/
def CmdOp.makesProtectCheck : CmdOp → Bool
  | .write | .reassign | .format _ _ _ _ => true
  | .read | .verify | .seek | .flushRecord | .eject _ | .reportCartridge | .reportCapacity | .reportDefects | .standbyNow
  | .wake | .loadTable _ | .readTable _ | .identify => false

/-- FORMAT's own checks, for a FORMAT (R150). -/
def Bay.ownChecks (x : Bay) : CmdOp → Option CmdResult
  | .format heads _ useList keepGrown => x.formatRefusal heads.toNat useList keepGrown
  | .read | .write | .verify | .seek | .reassign | .flushRecord | .eject _ | .reportCartridge | .reportCapacity
  | .reportDefects | .standbyNow | .wake | .loadTable _ | .readTable _ | .identify => none

/-- Checks 7 to 9 of R134 and FORMAT's own (R150): the refusal of the first that fails. -/
def Bay.lateChecks (x : Bay) (op : CmdOp) (lba count : Nat) : Option CmdResult :=
  if x.cart.unitChanged then some (CmdResult.plain .unitChanged .none)
  else if op.makesRangeCheck && decide (x.tu.capacity < lba + count) then
    some { completion := .outOfRange, detail := .none, lba := some lba, addr := none }
  else if op.makesProtectCheck && x.cart.wpProtected then some (CmdResult.plain .writeProtected .none)
  else x.ownChecks op

/-- Checks 4 to 9 of R134 and FORMAT's own: the refusal of the first that fails. -/
def Bay.mediaChecks (x : Bay) (op : CmdOp) (lba count : Nat) : Option CmdResult :=
  match x.cart.state with
  | .bayFault => some (CmdResult.plain .bayFault (.fault x.cart.fault))
  | .mounted => x.lateChecks op lba count
  | .unformatted =>
    if op.isFormat then x.lateChecks op lba count
    else some (CmdResult.plain .unformatted (.mount x.cart.mountDetail))
  | .empty | .seated | .locking | .spinningUp | .mounting | .formatting | .unmounting | .releasing | .released =>
    some (CmdResult.plain .notReady (.cartState x.cart.state))

/-- The refusal UNIT_CHANGED clears the flag (R95, R134). -/
def State.clearUnitChanged (s : State) (b : BayId) (r : CmdResult) : State :=
  if r.completion = .unitChanged then s.modCart b fun c => { c with unitChanged := false } else s

/-- The progress record of a FORMAT that has been accepted (R149, R152). -/
def State.openFormat (s : State) (b : BayId) : CmdOp → State
  | .format heads certify useList keepGrown => s.setFormat b ((s.bay b).formatOf heads.toNat certify useList keepGrown)
  | .read | .write | .verify | .seek | .reassign | .flushRecord | .eject _ | .reportCartridge | .reportCapacity
  | .reportDefects | .standbyNow | .wake | .loadTable _ | .readTable _ | .identify => s

/-- A media command aimed at a bay: validation, then acceptance (R133 to R136, R150, R165). -/
def State.mediaCommand (s : State) (b : BayId) (op : CmdOp) (lba count : Nat) : State :=
  if !s.bayPresent b then s.refuse b op.code (CmdResult.plain .illegalRequest .none)
  else if (s.bay b).slot.isSome then s.refuse b op.code (CmdResult.plain .busy .none)
  else if (s.bay b).cart.state = .empty then s.refuse b op.code (CmdResult.plain .noCartridge .none)
  else if (s.bay b).cart.state = .spinningUp ∧ !s.autospinHigh then
    ((s.takeSlot b { Cmd.fresh op lba count s.dmt.caps with wait := .mount }).openFormat b op).startRequest b .insertion
  else
    match (s.bay b).mediaChecks op lba count with
    | some r => (s.clearUnitChanged b r).refuse b op.code r
    | none => ((s.takeSlot b (Cmd.fresh op lba count s.dmt.caps)).openFormat b op).commandAccepted b op

/-- The wait for a mount is over: validation resumes from check 4 with the state reached (R135); a WAKE completes by that state
(R167). -/
def State.mountIsOver (s : State) (b : BayId) : State :=
  match (s.bay b).slot with
  | none => s
  | some c =>
    if c.wait ≠ .mount then s
    else if c.op = .wake then
      match (s.bay b).cart.state with
      | .mounted | .unformatted => s.finishCmd b (CmdResult.plain .good .none)
      | .empty | .seated | .locking | .spinningUp | .mounting | .formatting | .unmounting | .releasing | .released | .bayFault =>
        s.finishCmd b (CmdResult.plain .notReady (.cartState (s.bay b).cart.state))
    else
      match (s.bay b).mediaChecks c.op c.lba c.count with
      | some r => (s.clearUnitChanged b r).finishCmd b r
      | none => (s.modCmd b fun c => { c with wait := .working }).commandAccepted b c.op

/-! ## Work that waits -/

/-- The slot's command goes on when nothing of it is under way (R115, R137, R142). -/
def State.stepCommand (s : State) (b : BayId) : State :=
  match (s.bay b).slot with
  | none => s
  | some c =>
    if c.wait ≠ .working ∨ c.stop.isSome ∨ c.result.isSome ∨ (s.bay b).job.isSome then s
    else
      match c.op with
      | .read | .write | .verify | .seek => if (s.bay b).reassign.isSome then s else s.takeBlock b
      | .reassign =>
        match (s.bay b).reassign with
        | some r => s.readAbandoned b r
        | none => s.startReassign b c
      | .format _ _ _ _ => if (s.bay b).format.any fun f => f.phase == .waiting then s.beginWork b else s
      | .flushRecord => if (s.bay b).flush.isSome then s else s.beginWork b
      | .reportCartridge | .reportCapacity | .reportDefects | .readTable _ => if c.framesLeft = 0 then s.beginWork b else s
      | .wake => s.beginWork b
      | .eject _ | .standbyNow | .loadTable _ | .identify => s

/-- The purpose of the next slot of a sector operation. -/
def Job.nextPurpose (j : Job) : Purpose := if j.kind = .certRead then .mediaData else .recordPart j.slots.length

/-- A sector operation may ask for its slots: those of a mount or a flush when the heads are on cylinder 0, those of FORMAT at
once (R94, R100, R155, R157). -/
def Job.asksSlots (j : Job) : Bool :=
  match j.kind with
  | .recordRead | .recordWrite => j.stage == .atTrack
  | .certRead | .formatRecord => true
  | .mediaRead | .mediaVerify | .mediaWrite | .seekOnly | .reassignRead | .spareWrite | .formatTrack => false

/-- The slots that a mount, a flush or a FORMAT needs are allocated one by one as the quota allows (R115). -/
def State.fillSlots : Nat → State → BayId → State
  | 0, s, _ => s
  | n + 1, s, b =>
    match (s.bay b).job with
    | some j =>
      if j.asksSlots && decide (j.slots.length < j.kind.slotsNeeded) && s.mayAllocate b then
        State.fillSlots n ((s.allocate b j.nextPurpose none).setJob b (some { j with slots := j.slots ++ [s.lowestFree] })) b
      else s
    | none => s

/-- The image is built in the event in which its four slots are held (R100, R157). -/
def State.buildImage (s : State) (b : BayId) (before : Nat) : State :=
  match (s.bay b).job with
  | none => s
  | some j =>
    if j.slots.length ≠ 4 then s
    else
      match j.kind, (s.bay b).flush, (s.bay b).tu.tables, (s.bay b).format.bind fun f => f.newTables with
      | .recordWrite, some f, some t, _ => if f.writing then s else s.buildFlush b f t j.slots
      | .formatRecord, _, _, some t => if before = 4 then s else s.buildFormat t j.slots
      | _, _, _, _ => s

/-- The bay's place at the channel: the next sector of a visit comes into hand or the visit ends; a ready sector requests the
channel, and a request whose sector is no longer ready is withdrawn (R119, R120). -/
def State.stepChannel (s : State) (b : BayId) : State :=
  let ready := match (s.bay b).job with
    | some j => s.jobReady b j && decide (j.tries < s.jobTries b j)
    | none => false
  match s.chan.visit, (s.bay b).job with
  | some v, some j =>
    if v.bay = b then
      if v.phase = .between then
        if ready && !v.ending && v.track == j.sector.track && j.kind != .formatTrack then
          s.modVisit fun v => { v with kind := j.kind, phase := .searching, search := 0 }
        else s.releaseChannel b
      else s
    else if ready then s.requestChannel b else s.withdrawChannel b
  | some v, none => if v.bay = b then s.releaseChannel b else s.withdrawChannel b
  | none, _ => if ready then s.requestChannel b else s.withdrawChannel b

/-- The step of its own that a bay's cartridge state may take (R102, R111, R112). -/
def State.stepCart (s : State) (b : BayId) : State :=
  match (s.bay b).cart.state with
  | .unmounting => s.stepUnmount b
  | .bayFault => s.stepFault b
  | .releasing => s.stepRelease b
  | .locking | .empty => s.stepStartup b
  | .seated | .spinningUp | .mounting | .mounted | .unformatted | .formatting | .released => s

/-- Whatever of a bay may go on goes on. -/
def State.goOn (s : State) (b : BayId) : State :=
  let s1 := ((s.stepParked b).stepHeld b).stepCommand b
  let before := ((s1.bay b).job.map fun j => j.slots.length).getD 0
  let s2 := ((State.fillSlots 4 s1 b).buildImage b before).stepChannel b
  (s2.stepStandby b).stepCart b

/-! ## What a block does when it is told something -/

/-- Heads are loaded for a job that waited: the load order is given again (R94, R100, R126, R137). -/
def State.reload (s : State) (b : BayId) (j : Job) : State :=
  match j.kind with
  | .recordRead => (s.setJob b (some { j with stage := .loadingToSeek })).loadOrder b true (some systemTrack)
  | .recordWrite => (s.setJob b (some { j with stage := .loadingToSeek })).loadOrder b false (some systemTrack)
  | .mediaRead | .mediaVerify | .mediaWrite | .seekOnly | .reassignRead | .spareWrite | .formatTrack | .certRead
  | .formatRecord => (s.setJob b (some { j with stage := .loading })).loadOrder b false none

/-- Told ready for head load (R54, R63): the mount, the waiting operation, an UNFORMATTED bay or a wake goes on. -/
def State.onReady (s : State) (b : BayId) : State :=
  if (s.bay b).cart.state = .spinningUp then s.enterMounting b
  else
    match (s.bay b).job with
    | some j => if j.stage = .waitReady then s.reload b j else s
    | none =>
      if (s.bay b).cart.state = .unformatted ∧ !(s.bay b).pos.state.loaded then s.loadOrder b false (some systemTrack)
      else if (s.bay b).power.wake.isSome || ((s.bay b).slot.any fun c => c.wait == .wake) then s.loadOrder b false none
      else s

/-- Told speed lost (R94, R161). -/
def State.onSpeedLost (s : State) (b : BayId) : State :=
  if (s.bay b).cart.state = .mounting then s.mountWaits b
  else if (s.bay b).power.mode = .idle ∧ ((s.bay b).power.entry.map fun (e : StandbyEntry) => e.phase) ≠ some .flush then
    s.setMode b .parkedIdle
  else s

/-- A wake's load is answered LOADED: the wake ends, and the command that waits on it begins (R161, R165, R167). -/
def State.wakeEnds (s : State) (b : BayId) : State :=
  let s1 := s.modPower b fun p => { p with wake := none }
  match (s.bay b).slot with
  | some c =>
    if c.op = .wake && c.wait == .wake then (s1.setMode b .idle).finishCmd b (CmdResult.plain .good .none)
    else if c.wait = .wake then ((s1.setMode b .active).modCmd b fun c => { c with wait := .working }).beginWork b
    else if c.op = .flushRecord then s1.setMode b .active
    else s1.setMode b .idle
  | none => s1.setMode b .idle

/-- A load order is answered LOADED (R70, R126, R137, R153, R165). -/
def State.onLoaded (s : State) (b : BayId) : State :=
  let s1 :=
    if (s.bay b).power.wake.isSome then s.wakeEnds b
    else if ((s.bay b).slot.map fun c => c.wait) = some .wake then
      (s.modCmd b fun c => { c with wait := .working }).beginWork b
    else s
  match (s.bay b).job with
  | some j => if j.stage = .loading then s1.approach b j else s1
  | none => s1

/-- An operation whose heads have left waits for the spindle's next readiness; a mount starts over (R94, R100, R137). -/
def State.waitForReady (s : State) (b : BayId) (j : Job) : State :=
  if j.kind = .recordRead then s.mountWaits b else s.setJob b (some { j with stage := .waitReady })

/-- A load order is answered NOT_READY or UNLOADED: its operation waits for the next readiness (R94, R100, R137). -/
def State.onLoadFailed (s : State) (b : BayId) : State :=
  match (s.bay b).job with
  | some j =>
    if j.stage = .loading ∨ j.stage = .loadingToSeek then s.waitForReady b j else s
  | none => s

/-- A waiting operation loads the heads at once where the spindle is ready already. -/
def State.reloadNow (s : State) (b : BayId) : State :=
  match (s.bay b).job with
  | some j => if j.stage = .waitReady ∧ (s.bay b).mayLoad then s.reload b j else s
  | none => s

/-- A seek order, or the report that position is regained, is answered UNLOADED: the operation loads the heads again when it can
(R79, R94, R100, R137), and one that is being stopped is at its boundary (R146). -/
def State.onSeekUnloaded (s : State) (b : BayId) : State :=
  match (s.bay b).job with
  | some j =>
    match j.stage with
    | .loadingToSeek => s.waitForReady b j
    | .seeking | .regain =>
      if (s.bay b).endsAtTry then (s.setJob b (some { j with stage := .waitReady })).tell (.boundary b)
      else (s.waitForReady b j).reloadNow b
    | .waitReady | .loading | .atTrack => s
  | none => s

/-- Whether the operation waits for the answer to a seek order. -/
def Stage.seeks : Stage → Bool
  | .seeking | .loadingToSeek => true
  | .waitReady | .loading | .regain | .atTrack => false

/-- The slot became free (R99, R161, R165): no command waits on a wake under way, an eject that waited for the slot goes on
(notes/assumptions/94.md), and an ACTIVE bay takes the mode its mechanism gives. -/
def State.onSlotFreed (s : State) (b : BayId) : State :=
  let s0 := match (s.bay b).power.wake with
    | some w => s.modPower b fun p => { p with wake := some { w with waiting := false } }
    | none => s
  let s1 := if (s.bay b).power.mode = .active then s0.setMode b (s.bay b).mechanismMode else s0
  if ((s.bay b).cart.eject.map fun e => e.phase) = some .waitStop then s1.enterUnmounting b else s1

/-- The result of the sector in hand goes to its operation (R130). -/
def State.onSector (s : State) (b : BayId) (r : SectorResult) : State :=
  match (s.bay b).job with
  | none => s
  | some j =>
    match j.kind, (s.bay b).reassign, (s.bay b).format with
    | .mediaRead, _, _ => s.blockResult b j r
    | .mediaVerify, _, _ => s.blockResult b j r
    | .mediaWrite, _, _ => s.blockResult b j r
    | .seekOnly, _, _ => s.blockResult b j r
    | .reassignRead, some x, _ => s.oldReadResult b x j r
    | .spareWrite, some x, _ => s.spareResult b x j r
    | .recordRead, _, _ => s.mountSector b j r
    | .recordWrite, _, _ => s.flushSector b j r
    | .formatTrack, _, some f => s.formatSector b f j r
    | .certRead, _, some f => s.formatSector b f j r
    | .formatRecord, _, some f => s.formatRecordSector b f j r
    | _, _, _ => s

/-- The outcome of a certification read goes to FORMAT (R129, R155). -/
def State.onCertified (s : State) (b : BayId) (outcome : Option EccClass) : State :=
  match (s.bay b).job, (s.bay b).format with
  | some j, some f => if j.kind = .certRead then s.certResult b f j outcome else s
  | _, _ => s

/-- One message is delivered. No rule gives an action of its own to the report of speed recovered (R63): what waits goes on at
readiness. -/
def State.deliver (s : State) : Signal → State
  | .ready b => s.onReady b
  | .speedLost b => s.onSpeedLost b
  | .speedRecovered _ => s
  | .stopped b => s.startPending b
  | .faultDue b => s.enterPendingFault b
  | .spinFailed b d => s.bayFault b (.spin d)
  | .loaded b => s.onLoaded b
  | .loadFailed b => s.onLoadFailed b
  | .seekDone b =>
    match (s.bay b).job with
    | some j => if j.stage.seeks then (s.atTrackNow b j).tell (.boundary b) else s
    | none => s
  | .seekFailed b =>
    match (s.bay b).job with
    | some j => if j.stage.seeks then s.tell (.sector b .seekError) else s
    | none => s
  | .seekUnloaded b => s.onSeekUnloaded b
  | .trackLost b => s.modJob b fun j => if j.stage = .atTrack then { j with stage := .regain } else j
  | .regained b =>
    match (s.bay b).job with
    | some j => if j.stage = .regain then (s.atTrackNow b j).tell (.boundary b) else s
    | none => s
  | .regainFailed b =>
    match (s.bay b).job with
    | some j => if j.stage = .regain then s.tell (.sector b .seekError) else s
    | none => s
  | .actFault b d => s.bayFault b (.actuator d)
  | .sector b r => s.onSector b r
  | .certified b outcome => s.onCertified b outcome
  | .boundary b => (s.tryStop b).haltFlush b
  | .slotFreed b => s.onSlotFreed b
  | .mountOver b => s.mountIsOver b
  | .poke b => s.goOn b

/-- The messages of an event are delivered in order, at most `n` of them. -/
def settle : Nat → State → State
  | 0, s => s
  | n + 1, s =>
    match s.signals with
    | [] => s
    | m :: rest => settle n (({ s with signals := rest } : State).deliver m)

/-! ## The end of an event -/

/-- The readiness class follows the power mode; a change raises READINESS (R168). -/
def State.refreshReadiness (s : State) (b : BayId) : State :=
  let class_ := (s.bay b).power.mode.readiness
  if (s.bay b).power.readiness = class_ then s
  else (s.modPower b fun p => { p with readiness := class_ }).raise b .readiness (BitVec.ofNat 8 class_.code)

/-- What closes every event once its messages are delivered. -/
def State.closeEvent (s : State) : State := ((s.refreshReadiness .bayA).refreshReadiness .bayB).joinPending.kick

/-- The end of an event. After the power-fail latch nothing follows from it (R169, R170). -/
def State.conclude (s : State) : Host.Outcome State Fault Refusal :=
  if s.powerLoss || s.resetHeld then .next { s with signals := [] }
  else
    let t := settle Config.messageBudget s
    if t.signals.isEmpty then .next t.closeEvent else .fault .unsettled

end Sys2Proof.Machine
end

