-- ==== Sys2Proof/Machine/Events.lean ====
section
/-! DEFINITION. Under which conditions the part takes a frame or an event at all (R89, R169 to R172, R192). Each answers the
state as it is where the part takes nothing. -/

namespace Sys2Proof.Machine

/-- LFRM has been low since the frame that ended last: the next strobe begins a frame (R172). -/
def State.frameOver (s : State) : State := s.modLink fun l => { l with spent := false }

/-- A frame of the host adapter, carried by the event `i`: taken while the link acknowledges its first byte, or as the end of the
frame in progress (notes/assumptions/78.md), withheld while the queue has no room for it (R176), and no event where none may begin
(notes/assumptions/2.md, 72.md). A whole frame is one for which LFRM has risen anew, so that nothing is left of the frame before
it. -/
def State.frame (s : State) (i : Instr) (f : State → State) : Host.Outcome State Fault Refusal :=
  if s.takesFrame then (f s.frameOver).conclude
  else if s.frameUnderWay then (s.endInbound false f).conclude
  else if s.frameMayBegin then .next (s.frameOver.modLink fun l => { l with withheld := some i })
  else .next s

/-- An event of a bay that its block still follows after the power-fail latch (R170). -/
def State.bayEvent (s : State) (b : BayId) (f : State → State) : Host.Outcome State Fault Refusal :=
  if s.bayLive b then (f s).conclude else .next s

/-- An event of a bay that causes nothing after the power-fail latch (R169, R170). -/
def State.bayAct (s : State) (b : BayId) (f : State → State) : Host.Outcome State Fault Refusal :=
  if s.bayLive b && !s.powerLoss then (f s).conclude else .next s

/-- A sensor event of a bay: the filtered level follows after the power-fail latch too, and the Cartridge Handler acts on it
only before (R89, R113). -/
def State.baySensor (s : State) (b : BayId) (level act : State → State) : Host.Outcome State Fault Refusal :=
  if s.bayLive b then (if s.powerLoss then level s else act (level s)).conclude else .next s

/-- An event of the Data Channel during a track visit (R120). -/
def State.visitEvent (s : State) (f : Visit → Job → State) : Host.Outcome State Fault Refusal :=
  match s.chan.visit with
  | some v =>
    match (s.bay v.bay).job with
    | some j => if s.resetHeld || s.powerLoss then .next s else (f v j).conclude
    | none => .next s
  | none => .next s

end Sys2Proof.Machine
end

