-- ==== Sys2Proof/Machine/DeviceEvents.lean ====
section
/-! DEFINITION. RESET, the power-fail latch and the flashing LED (R44, R66, R85, R87, R112, R113, R131, R169, R180, R192,
R193). -/

namespace Sys2Proof.Machine

/-- RESET_ASSERTED (R192): the outputs take their held levels, and no input causes any action until RESET ends. -/
def execResetAsserted (s : State) : Host.Outcome State Fault Refusal :=
  let quiet (x : Bay) : Bay :=
    { x with
      pos := { x.pos with driveMag := 0 }
      cart := { x.cart with lockPulse := false, releasePulse := false, pulseTimer := none } }
  .next { s with
    resetHeld := true
    signals := []
    bayA := quiet s.bayA
    bayB := quiet s.bayB
    chan := { s.chan with gate := false, baySelect := .bayA, headSelect := 0 }
    link := { s.link with inFrame := none, withheld := none, outFrame := none } }

/-- The starting state of a present bay's Cartridge Handler (R112), with the filters at their raw levels (R89). -/
def startCart (x : BayPins) : Cartridge :=
  { Cartridge.reset with
    cartridgeIn := x.cartridgeIn
    wpProtected := x.wpProtected
    lockEngaged := x.lockEngaged
    buttonDown := x.buttonDown
    state := if x.cartridgeIn then (if x.lockEngaged then .locking else .seated) else .empty
    settleTimer := if x.cartridgeIn && !x.lockEngaged then some Config.settleTime else none
    startupWait := x.cartridgeIn && x.lockEngaged
    startupRelease := !x.cartridgeIn && x.lockEngaged }

/-- The Positioner at the end of RESET (R87). -/
def startPos (x : BayPins) : Positioner :=
  if x.headsParked then Positioner.reset
  else { Positioner.reset with state := .retracting, parked := false, retractTimer := some Config.retractTime }

/-- The payload byte of an INSERTED attention: the write-protect level (R181). -/
def protectByte (prot : Bool) : Byte := if prot then 1 else 0

/-- A present bay at the end of RESET (R87, R112): a cartridge found present raises INSERTED. -/
def startBay (x : BayPins) : Bay :=
  { Bay.reset with
    cart := startCart x
    pos := startPos x
    attn := if x.cartridgeIn then Attentions.reset.set .inserted { raised := true, payload := protectByte x.wpProtected }
      else Attentions.reset }

/-- The part in the event that ends RESET, before a POWER_FAIL input that reads active is latched (R192). -/
def startState (pins : Pins) : State :=
  { State.reset with
    twoBays := pins.twoBays
    autospinHigh := pins.autospinHigh
    link := { Link.reset with ldir := pins.ldir, lrst := pins.lrst }
    bayA := startBay pins.bayA
    bayB := if pins.twoBays then startBay pins.bayB else Bay.reset }

/-- The Spindle Controller at the power-fail latch (R60). -/
def Spindle.powerFail (x : Spindle) : Spindle :=
  { x with
    state := .coasting
    drive := 0
    spinUpTimer := none
    firstIndexTimer := none
    gapTimer := none
    recoveryTimer := none
    brakeTimer := none
    stopTimer := none
    watchOpen := false
    pendingStart := none
    stopWaiting := false }

/-- The Positioner at the power-fail latch (R85): RETRACTING from every state but PARKED and ACT_FAULT; a park sensor that
reads parked already ends the retract (R84). -/
def Positioner.powerFail (p : Positioner) : Positioner :=
  match p.state with
  | .parked | .actFault => p
  | .loading | .calibrating | .seeking | .settling | .following | .recalibrating | .unloading | .retracting =>
    { p with
      state := if p.parked then .parked else .retracting
      target := none
      calibrated := false
      onTrack := false
      loadTimer := none
      seekTimer := none
      recalTimer := none
      unloadTimer := none
      retractTimer := if p.parked then none else some (p.retractTimer.getD Config.retractTime)
      driveMag := 0
      loadOpen := false
      heldLoad := none
      heldSeek := none
      heldSeekOwned := false
      seekFor := .nobody
      givingUp := false
      again := .nothing
      reloadTarget := none }

/-- A bay at the power-fail latch (R60, R85, R113, R148, R169): its command ends where it stands; the power mode, the standby
entry, the wake and FORMAT's progress record are kept for PEEK. -/
def Bay.powerFail (x : Bay) : Bay :=
  { x with
    spindle := x.spindle.powerFail
    pos := x.pos.powerFail
    cart := { x.cart with lockPulse := false, releasePulse := false, pulseTimer := none }
    power := { x.power with unloadTimer := none, standbyTimer := none }
    slot := none
    job := none
    reassign := none
    flush := none }

/-- The event in which the power-fail latch is set (R126, R131, R169, R180). Buffer slots keep their records (R118). -/
def State.latchPowerFail (s : State) : State :=
  { s with
    powerLoss := true
    signals := []
    allowHolder := none
    allowWaiter := none
    deviceSlot := none
    chan := { s.chan with holder := none, waiter := none, visit := none, gate := false }
    link := { s.link with
      inFrame := none, withheld := none, outFrame := none, queue := [], offered := [], reservations := 0, timer := none }
    bayA := s.bayA.powerFail
    bayB := if s.twoBays then s.bayB.powerFail else s.bayB }

/-- END_OF_RESET (R192): every block takes its power-on values from the levels sampled; an active POWER_FAIL input is latched
(R169). A servo sample being read is not read on (notes/assumptions/106.md). Commands that wait in the queue, and the number of the
microsecond, are not the part's state and stay. -/
def execEndOfReset (pins : Pins) (s : State) : Host.Outcome State Fault Refusal :=
  if s.resetHeld then
    let t : State := { startState pins with pending := s.pending, hostTurns := s.hostTurns }
    (if pins.powerFail then t.latchPowerFail else t).conclude
  else .next s

/-- POWER_FAIL_LATCH (R169): further edges, and edges while RESET is held, change nothing. -/
def execPowerFailLatch (s : State) : Host.Outcome State Fault Refusal :=
  if s.resetHeld || s.powerLoss then .next s else .next s.latchPowerFail

/-- LED_FLASH_TOGGLE (R193): in BAY_FAULT the activity LED changes between lit and dark. -/
def execLedFlashToggle (b : BayId) (s : State) : Host.Outcome State Fault Refusal :=
  s.bayAct b fun s =>
    if (s.bay b).cart.state = .bayFault then s.modBay b fun x => { x with ledLit := !x.ledLit } else s

end Sys2Proof.Machine
end

