-- ==== Sys2Proof/Machine/CartridgeEvents.lean ====
section
/-! DEFINITION. Cartridge events and the taking of an eject request (05_cartridge_handling.md). -/

namespace Sys2Proof.Machine

/-! ## Eject requests (R96 to R99, R111) -/

/-- Open an eject request. -/
def State.openEject (s : State) (b : BayId) (source : EjectSource) (phase : EjectPhase) : State :=
  s.modCart b fun c => { c with eject := some { source, commandWaits := source != .button, phase, discarded := false } }

/-- An EJECT that needs no request completes GOOD at once; a button press is answered by nothing (R97, R105). -/
def State.ejectAtOnce (s : State) (b : BayId) (source : EjectSource) : State :=
  if source = .button then s else s.finishCmd b (CmdResult.plain .good .none)

/-- An eject request taken in MOUNTING (R98): a record read in progress runs to its end; a load is undone at once, and so is a mount
that waits for the spindle (notes/assumptions/68.md). -/
def State.cancelMount (s : State) (b : BayId) (source : EjectSource) : State :=
  let s1 := s.openEject b source .cancel
  match (s.bay b).job.map fun (j : Job) => j.stage with
  | some .atTrack | some .regain => s1
  | some .waitReady | some .loading | some .loadingToSeek | some .seeking | none =>
    (((s1.dropJob b).freeRecordSlots b).unloadOrder b).enterUnmounting b

/-- An eject request taken in MOUNTED (R97, R99, R164, R166): a command in the slot is stopped first, and a STANDBY NOW completes
ABORTED before the state leaves MOUNTED. -/
def State.ejectMounted (s : State) (b : BayId) (source : EjectSource) : State :=
  if source = .button ∧ (s.bay b).slot.isSome then
    if (s.bay b).standbyNow then
      ((s.finishCmd b (CmdResult.plain .aborted .none)).openEject b source .flush).enterUnmounting b
    else (s.openEject b source .waitStop).requestStop b .eject
  else (s.openEject b source .flush).enterUnmounting b

/-- An eject request taken in UNFORMATTED (R97, R159): a FORMAT that waits is stopped first. -/
def State.ejectUnformatted (s : State) (b : BayId) (source : EjectSource) : State :=
  if source = .button ∧ ((s.bay b).slot.any fun c => c.op.isFormat) then
    (s.openEject b source .waitStop).requestStop b .eject
  else (s.openEject b source .flush).enterUnmounting b

/-- An eject request is taken according to the cartridge state (R97, R98, R111). -/
def State.takeEject (s : State) (b : BayId) (source : EjectSource) : State :=
  match (s.bay b).cart.state with
  | .empty | .formatting => s
  | .seated => (s.modCart b fun c => { c with settleTimer := none, state := .released }).ejectAtOnce b source
  | .locking => s.openEject b source .cancel
  | .spinningUp => ((s.openEject b source .cancel).stopRequest b).enterUnmounting b
  | .mounting => s.cancelMount b source
  | .mounted => s.ejectMounted b source
  | .unformatted => s.ejectUnformatted b source
  | .unmounting => if source = .button then s else s.openEject b source .flush
  | .releasing => if source = .button then s else s.openEject b source .release
  | .released => if source = .button then s.issueLock b 1 else s.ejectAtOnce b source
  | .bayFault => (s.openEject b source .faultWait).tell (.poke b)

/-! ## Sensors -/

/-- A cartridge is accepted in EMPTY (R92). -/
def State.cartridgeArrives (s : State) (b : BayId) : State :=
  if (s.bay b).cart.state = .empty then
    (s.modCart b fun c => { c with state := .seated, settleTimer := some Config.settleTime }).raise b .inserted
      (protectByte (s.bay b).cart.wpProtected)
  else s

/-- PRESENT_ACCEPTED (R89, R92). -/
def execPresentAccepted (b : BayId) (s : State) : Host.Outcome State Fault Refusal :=
  s.baySensor b (fun s => s.modCart b fun c => { c with cartridgeIn := true }) fun s => s.cartridgeArrives b

/-- The present switch opens (R92, R102, R103, R109, R111); in EMPTY a start-up release that is still owed may follow (R112). -/
def State.cartridgeLeaves (s : State) (b : BayId) : State :=
  match (s.bay b).cart.state with
  | .empty => s
  | .seated => ((s.modCart b fun c => { c with state := .empty, settleTimer := none }).raise b .removed 0).offerStartup b
  | .locking | .spinningUp | .mounting | .mounted | .unformatted | .formatting | .unmounting => s.lockFault b
  | .releasing | .released => s.removal b
  | .bayFault => s.stepFault b

/-- PRESENT_LOST (R89, R92, R103, R109, R111). -/
def execPresentLost (b : BayId) (s : State) : Host.Outcome State Fault Refusal :=
  s.baySensor b (fun s => s.modCart b fun c => { c with cartridgeIn := false }) fun s => s.cartridgeLeaves b

/-- The write-protect input changes to protected: a dirty record is discarded (R38), and an open gate closes and ends its
sector WRITE_PROTECTED (R124, R125). -/
def State.becomesProtected (s : State) (b : BayId) : State :=
  let s1 := s.discard b discardWriteProtect
  match s.visitPhase b with
  | some .writing | some .formatWriting => s1.endProtected b
  | some .between | some .searching | some .reading | some .formatWait | none => s1

/-- WRITE_PROTECT_CHANGE (R38, R89, R124, R125). -/
def execWriteProtectChange (b : BayId) (wpProtected : Bool) (s : State) : Host.Outcome State Fault Refusal :=
  s.baySensor b (fun s => s.modCart b fun c => { c with wpProtected := wpProtected }) fun s =>
    if wpProtected then s.becomesProtected b else s

/-- LOCK_SENSE_ENGAGED (R89, R90, R92): it confirms a lock pulse within its window. -/
def execLockSenseEngaged (b : BayId) (s : State) : Host.Outcome State Fault Refusal :=
  s.baySensor b (fun s => s.modCart b fun c => { c with lockEngaged := true }) fun s =>
    if (s.bay b).cart.state = .locking ∧ (s.bay b).cart.lockConfirm.isSome then s.lockConfirmed b else s

/-- The lock sense opens: heads in a loaded state retract (R67); it is a lock fault in the watched states (R109), and confirms a
release within its window (R102). In EMPTY it leaves the window of the start-up release running until it expires: R90 ends a window
at its confirmation, and R112 does not act on this one (the model's choice, notes/assumptions/51.md). -/
def State.lockOpens (s : State) (b : BayId) : State :=
  let s1 := if (s.bay b).pos.state.loaded then s.enterRetracting b else s
  if (s.bay b).cart.state.lockWatched then s1.lockFault b
  else if (s.bay b).cart.state = .releasing ∧ (s.bay b).cart.releaseConfirm.isSome then s1.releaseConfirmed b
  else s1

/-- LOCK_SENSE_OPEN (R67, R89, R90, R102, R109). -/
def execLockSenseOpen (b : BayId) (s : State) : Host.Outcome State Fault Refusal :=
  s.baySensor b (fun s => s.modCart b fun c => { c with lockEngaged := false }) fun s => s.lockOpens b

/-- A button press is tested and taken (R96, R97). -/
def State.buttonPressed (s : State) (b : BayId) : State :=
  if (s.bay b).cart.preventRemoval then s.raise b .ejectRequest 0
  else if (s.bay b).cart.eject.isSome then s
  else s.takeEject b .button

/-- EJECT_BUTTON_PRESS (R89, R96, R97, R99, R111). A press is the change from released to pressed; the change to released does
nothing (notes/assumptions/7.md). -/
def execEjectButtonPress (level : ButtonLevel) (s : State) : Host.Outcome State Fault Refusal :=
  let b := level.bay
  let press := level.pressed && !(s.bay b).cart.buttonDown
  s.baySensor b (fun s => s.modCart b fun c => { c with buttonDown := level.pressed }) fun s =>
    if press then s.buttonPressed b else s

/-! ## Timers -/

/-- SETTLE_TIMER_EXPIRY (R92). -/
def execSettleTimerExpiry (b : BayId) (s : State) : Host.Outcome State Fault Refusal :=
  s.bayAct b fun s =>
    if (s.bay b).cart.settleTimer.isSome && (s.bay b).cart.state == .seated then
      (s.modCart b fun c => { c with settleTimer := none }).issueLock b 1
    else s

/-- PULSE_END (R90): 50 ms after its start a pulse is released. -/
def execPulseEnd (b : BayId) (s : State) : Host.Outcome State Fault Refusal :=
  s.bayAct b fun s => s.modCart b fun c => { c with lockPulse := false, releasePulse := false, pulseTimer := none }

/-- A lock pulse's window expires unconfirmed (R92, R98). A cancelled start passes through UNMOUNTING to its release
(notes/assumptions/80.md). -/
def State.lockUnconfirmed (s : State) (b : BayId) : State :=
  let s1 := s.modCart b fun c => { c with lockConfirm := none }
  if (s.bay b).cart.state ≠ .locking then s1
  else if (s.bay b).cart.eject.isSome then s1.enterUnmounting b
  else if (s.bay b).cart.lockAttempts < 2 then s1.issueLock b 2
  else s1.bayFault b .lock

/-- LOCK_CONFIRM_EXPIRY (R92, R98). -/
def execLockConfirmExpiry (b : BayId) (s : State) : Host.Outcome State Fault Refusal :=
  s.bayAct b fun s => if (s.bay b).cart.lockConfirm.isSome then s.lockUnconfirmed b else s

/-- A release pulse's window expires unconfirmed (R102); the window of a start-up release is not acted on (R112). -/
def State.releaseUnconfirmed (s : State) (b : BayId) : State :=
  let s1 := s.modCart b fun c => { c with releaseConfirm := none }
  if (s.bay b).cart.state ≠ .releasing then s1
  else if (s.bay b).cart.lockAttempts < 2 then s1.tell (.poke b)
  else s1.bayFault b .lock

/-- RELEASE_CONFIRM_EXPIRY (R102). -/
def execReleaseConfirmExpiry (b : BayId) (s : State) : Host.Outcome State Fault Refusal :=
  s.bayAct b fun s => if (s.bay b).cart.releaseConfirm.isSome then s.releaseUnconfirmed b else s

end Sys2Proof.Machine
end

