-- ==== Sys2Proof/Machine/BayCommands.lean ====
section
/-! DEFINITION. The cartridge, report, power and sense commands aimed at a bay (R40, R41, R96, R97, R105, R107, R108, R166,
R167, R188, R189). -/

namespace Sys2Proof.Machine

/-- EJECT (R96, R97, R105). -/
def State.takeEjectCommand (s : State) (b : BayId) (force : Bool) : State :=
  let op : CmdOp := .eject force
  if !s.bayPresent b then s.refuse b op.code (CmdResult.plain .illegalRequest .none)
  else if (s.bay b).slot.isSome then s.refuse b op.code (CmdResult.plain .busy .none)
  else if (s.bay b).cart.state = .empty then s.refuse b op.code (CmdResult.plain .noCartridge .none)
  else if (s.bay b).cart.preventRemoval then s.refuse b op.code (CmdResult.plain .prevented .none)
  else
    let s1 := s.takeSlot b (Cmd.fresh op 0 0 s.dmt.caps)
    if (s.bay b).cart.eject.isSome then
      s1.modCart b fun c => { c with eject := c.eject.map fun e => { e with commandWaits := true } }
    else s1.takeEject b (if force then .ejectForce else .eject)

/-- EJECT (R96, R97, R105). -/
def execEject (b : BayId) (force : Bool) (s : State) : Host.Outcome State Fault Refusal :=
  s.frame (.eject b force) fun s => s.takeEjectCommand b force

/-- PREVENT (R107). -/
def State.takePrevent (s : State) (b : BayId) : State :=
  if !s.bayPresent b then s.refuse b preventCode (CmdResult.plain .illegalRequest .none)
  else if (s.bay b).cart.state = .empty then s.refuse b preventCode (CmdResult.plain .noCartridge .none)
  else (s.modCart b fun c => { c with preventRemoval := true }).answer (.bay b) .good .none preventCode

/-- PREVENT (R107). -/
def execPrevent (b : BayId) (s : State) : Host.Outcome State Fault Refusal :=
  s.frame (.prevent b) fun s => s.takePrevent b

/-- ALLOW (R107). -/
def State.takeAllow (s : State) (b : BayId) : State :=
  if !s.bayPresent b then s.refuse b allowCode (CmdResult.plain .illegalRequest .none)
  else (s.modCart b fun c => { c with preventRemoval := false }).answer (.bay b) .good .none allowCode

/-- ALLOW (R107). -/
def execAllow (b : BayId) (s : State) : Host.Outcome State Fault Refusal :=
  s.frame (.allow b) fun s => s.takeAllow b

/-- REPORT CARTRIDGE (R108): accepted in every cartridge state; the unit-changed flag is taken for the report and cleared. -/
def State.takeReportCartridge (s : State) (b : BayId) : State :=
  let op : CmdOp := .reportCartridge
  if !s.bayPresent b then s.refuse b op.code (CmdResult.plain .illegalRequest .none)
  else if (s.bay b).slot.isSome then s.refuse b op.code (CmdResult.plain .busy .none)
  else
    ((s.takeSlot b { Cmd.fresh op 0 0 s.dmt.caps with unitWas := (s.bay b).cart.unitChanged }).modCart b fun c =>
      { c with unitChanged := false }).commandAccepted b op

/-- REPORT CARTRIDGE (R108). -/
def execReportCartridge (b : BayId) (s : State) : Host.Outcome State Fault Refusal :=
  s.frame (.reportCartridge b) fun s => s.takeReportCartridge b

/-- The refusals that REPORT CAPACITY, REPORT DEFECTS and STANDBY NOW share, in their order (R40, R41, R166). -/
def State.mountedRefusal (s : State) (b : BayId) : Option CmdResult :=
  if !s.bayPresent b then some (CmdResult.plain .illegalRequest .none)
  else if (s.bay b).slot.isSome then some (CmdResult.plain .busy .none)
  else
    match (s.bay b).cart.state with
    | .mounted => none
    | .empty => some (CmdResult.plain .noCartridge .none)
    | .bayFault => some (CmdResult.plain .bayFault (.fault (s.bay b).cart.fault))
    | .unformatted => some (CmdResult.plain .unformatted (.mount (s.bay b).cart.mountDetail))
    | .seated | .locking | .spinningUp | .mounting | .formatting | .unmounting | .releasing | .released =>
      some (CmdResult.plain .notReady (.cartState (s.bay b).cart.state))

/-- A report of the installed tables: accepted only in MOUNTED (R40, R41). -/
def State.tableReport (s : State) (b : BayId) (op : CmdOp) : State :=
  match s.mountedRefusal b with
  | some r => s.refuse b op.code r
  | none => (s.takeSlot b (Cmd.fresh op 0 0 s.dmt.caps)).commandAccepted b op

/-- REPORT CAPACITY (R40). -/
def execReportCapacity (b : BayId) (s : State) : Host.Outcome State Fault Refusal :=
  s.frame (.reportCapacity b) fun s => s.tableReport b .reportCapacity

/-- REPORT DEFECTS (R41). -/
def execReportDefects (b : BayId) (s : State) : Host.Outcome State Fault Refusal :=
  s.frame (.reportDefects b) fun s => s.tableReport b .reportDefects

/-- A standby entry begins (R162, R163). A wake that runs with no command waiting on it ends. -/
def State.enterStandby (s : State) (b : BayId) (source : EntrySource) : State :=
  let s1 := s.modPower b fun p => { p with
    entry := some { source, startMode := p.mode, phase := .flush }
    wake := none
    unloadTimer := if source = .timer then none else p.unloadTimer }
  if (s.bay b).tu.dirty then s1.startFlush b .standby s.dmt.caps else s1.standbyUnload b

/-- STANDBY NOW (R166). -/
def State.takeStandbyNow (s : State) (b : BayId) : State :=
  let op : CmdOp := .standbyNow
  match s.mountedRefusal b with
  | some r => s.refuse b op.code r
  | none =>
    let s1 := s.takeSlot b (Cmd.fresh op 0 0 s.dmt.caps)
    match (s.bay b).power.entry with
    | some _ => s1.modPower b fun p => { p with entry := p.entry.map fun e => { e with source := .standbyNow } }
    | none =>
      if (s.bay b).power.mode = .standby then s1.finishCmd b (CmdResult.plain .good .none)
      else s1.enterStandby b .standbyNow

/-- STANDBY NOW (R166). -/
def execStandbyNow (b : BayId) (s : State) : Host.Outcome State Fault Refusal :=
  s.frame (.standbyNow b) fun s => s.takeStandbyNow b

/-- WAKE (R167). -/
def State.takeWake (s : State) (b : BayId) : State :=
  let op : CmdOp := .wake
  let c := Cmd.fresh op 0 0 s.dmt.caps
  if !s.bayPresent b then s.refuse b op.code (CmdResult.plain .illegalRequest .none)
  else if (s.bay b).slot.isSome then s.refuse b op.code (CmdResult.plain .busy .none)
  else
    match (s.bay b).cart.state with
    | .empty => s.refuse b op.code (CmdResult.plain .noCartridge .none)
    | .bayFault => s.refuse b op.code (CmdResult.plain .bayFault (.fault (s.bay b).cart.fault))
    | .mounted => (s.takeSlot b c).commandAccepted b op
    | .unformatted => (s.takeSlot b c).finishCmd b (CmdResult.plain .good .none)
    | .spinningUp =>
      if s.autospinHigh then s.refuse b op.code (CmdResult.plain .notReady (.cartState (s.bay b).cart.state))
      else (s.takeSlot b { c with wait := .mount }).startRequest b .insertion
    | .seated | .locking | .mounting | .formatting | .unmounting | .releasing | .released =>
      s.refuse b op.code (CmdResult.plain .notReady (.cartState (s.bay b).cart.state))

/-- WAKE (R167). -/
def execWake (b : BayId) (s : State) : Host.Outcome State Fault Refusal :=
  s.frame (.wake b) fun s => s.takeWake b

/-- REQUEST SENSE (R188): the record is copied into a DATA-IN frame and a STATUS GOOD follows; the record is then cleared. -/
def State.takeRequestSense (s : State) (b : BayId) : State :=
  if !s.bayPresent b then s.refuse b requestSenseCode (CmdResult.plain .illegalRequest .none)
  else
    ((s.enqueue (.report (.bay b) (.bytes (senseBytes (s.bay b).sense)) false)).answer (.bay b) .good .none
      requestSenseCode).modBay b fun x => { x with sense := Sense.reset }

/-- REQUEST SENSE (R188). -/
def execRequestSense (b : BayId) (s : State) : Host.Outcome State Fault Refusal :=
  s.frame (.requestSense b) fun s => s.takeRequestSense b

/-- PEEK (R189): a copy of the bay's live state and then a STATUS GOOD; nothing is cleared. -/
def State.takePeek (s : State) (b : BayId) : State :=
  if !s.bayPresent b then s.refuse b peekCode (CmdResult.plain .illegalRequest .none)
  else (s.enqueue (.report (.bay b) (.bytes (s.peekPayload b)) false)).answer (.bay b) .good .none peekCode

/-- PEEK (R189). -/
def execPeek (b : BayId) (s : State) : Host.Outcome State Fault Refusal :=
  s.frame (.peek b) fun s => s.takePeek b

end Sys2Proof.Machine
end

