-- ==== Sys2Proof/Machine/ChannelEvents.lean ====
section
/-! DEFINITION. Data Channel events during a track visit (06_sector_buffer_and_data_channel.md). -/

namespace Sys2Proof.Machine

/-- A good ID field read while the channel searches (R6, R121): a match goes on to the data field; another cylinder is
evidence for the Positioner, which takes it in FOLLOWING (R80); any other is passed over. -/
def State.idField (s : State) (v : Visit) (j : Job) (x : IdField) : State :=
  if x = j.sector.wanted then
    let s1 := s.modJob v.bay fun j => { j with matched := true }
    if j.kind.writes then s1.openGate v.bay { j with matched := true }
    else s1.modVisit fun v => { v with phase := .reading }
  else if x.cyl ≠ j.sector.addr.cyl ∧ (s.bay v.bay).pos.state = .following then s.offCylinder v.bay
  else s

/-- ID_FIELD_READ (R6, R121, R124). -/
def execIdFieldRead (field : BitVec 48) (s : State) : Host.Outcome State Fault Refusal :=
  s.visitEvent fun v j =>
    match v.phase, goodId field with
    | .searching, some x => s.idField v j x
    | _, _ => s

/-- ID_SEARCH_ATTEMPT_END (R121, R123, R125): the attempt is a try with no ID found. -/
def execIdSearchAttemptEnd (s : State) : Host.Outcome State Fault Refusal :=
  s.visitEvent fun v _ => if v.phase = .searching then (s.countTry v.bay).afterFailedTry v.bay else s

/-- Whether a decoder class is delivered under a correction span (R122). -/
def eccDelivered (span : Nat) : EccClass → Bool
  | .clean => true
  | .correctable n => n ≤ span
  | .uncorrectable => false

/-- The result of a delivered sector (R122). -/
def eccResult (threshold : Nat) : EccClass → SectorResult
  | .correctable n => if threshold ≤ n then .recovered else .good
  | .clean | .uncorrectable => .good

/-- Whether a class is CORRECTABLE. -/
def eccCorrectable : EccClass → Bool
  | .correctable _ => true
  | .clean | .uncorrectable => false

/-- A sector is delivered (R117, R122): its slot is FULL with its class; one corrected, or delivered after a failed try, counts
as recovered. -/
def State.deliverSector (s : State) (b : BayId) (j : Job) (ecc : EccClass) (data : List Byte) : State :=
  let s1 : State := match s.jobSlot b j with
    | some k => s.modSlot k fun r => { r with state := .full, ecc := some ecc, data }
    | none => s
  let s2 := if eccCorrectable ecc || 0 < j.tries then s1.countRecovered b else s1
  s2.endSector b (.sector b (eccResult (s.jobCaps b j).reportThreshold ecc))

/-- A certification read fills FORMAT's slot: it is FULL with the decoder's class and the data until it is refilled (R129;
notes/assumptions/70.md). -/
def State.fillCertSlot (s : State) (b : BayId) (j : Job) (ecc : EccClass) (data : List Byte) : State :=
  match s.jobSlot b j with
  | some k => s.modSlot k fun r => { r with state := .full, ecc := if ecc = .uncorrectable then none else some ecc, data }
  | none => s

/-- A data field has been read and classed: the class and the correction span decide the try (R122, R123); a certification read has
one (R129). -/
def State.fieldClassed (s : State) (b : BayId) (j : Job) (ecc : EccClass) (data : List Byte) : State :=
  let s1 := s.modChan fun c => { c with decoder := some ecc }
  if j.kind = .certRead then (s1.fillCertSlot b j ecc data).endSector b (.certified b (some ecc))
  else
    let s2 := s1.modJob b fun j => { j with fieldRead := true }
    if eccDelivered (s.jobCaps b j).correctionSpan ecc then s2.deliverSector b j ecc data
    else (s2.countTry b).afterFailedTry b

/-- DATA_FIELD_READ (R7, R122, R123, R129). -/
def execDataFieldRead (data : List Byte) (check : BitVec 48) (s : State) : Host.Outcome State Fault Refusal :=
  s.visitEvent fun v j =>
    if v.phase = .reading then
      let read := decodeField { data, check }
      s.fieldClassed v.bay j read.1 read.2
    else s

/-- A data field has been written whole, its check with it (R7, R116, R125): the gate closes; a record part's slot is FULL again until
its flush or FORMAT ends. A record sector of a flush that took more than one try counts as recovered (R188); one of FORMAT does not
(notes/assumptions/105.md). -/
def State.fieldWritten (s : State) (b : BayId) (j : Job) : State :=
  let s1 := s.modChan fun c => { c with
    gate := false
    lastWritten := (s.jobSlot b j).map fun k => (j.sector.addr, dataField (s.slotRec k).data) }
  let s2 : State := match s.jobSlot b j with
    | some k => if (s.slotRec k).isRecordPart then s1.modSlot k fun r => { r with state := .full } else s1
    | none => s1
  let s3 := if j.kind == .recordWrite && 0 < j.tries then s2.countRecovered b else s2
  s3.endSector b (.sector b .good)

/-- DATA_FIELD_WRITTEN (R125). -/
def execDataFieldWritten (s : State) : Host.Outcome State Fault Refusal :=
  s.visitEvent fun v j => if v.phase = .writing then s.fieldWritten v.bay j else s

/-- The last data field of a format track, which is the last field on the write data pin. -/
def Format.lastField (f : Format) : PhysAddr × DataField :=
  ({ f.place with ps := f.sectorCount - 1 }, dataField (List.replicate 512 0))

/-- A format track has been written whole (R2, R129): the gate closes, and what stands on the track is FORMAT's image of it. -/
def State.trackPut (s : State) (b : BayId) : State :=
  s.modChan fun c => { c with
    gate := false
    lastWritten := ((s.bay b).format.map Format.lastField).or c.lastWritten
    lastTrack := ((s.bay b).format.map fun f => ({ cyl := f.cyl, head := f.head }, f.trackImage)).or c.lastTrack }

/-- FORMAT_TRACK_WRITTEN (R129). -/
def execFormatTrackWritten (s : State) : Host.Outcome State Fault Refusal :=
  s.visitEvent fun v _ =>
    if v.phase = .formatWriting then (s.trackPut v.bay).endSector v.bay (.sector v.bay .good) else s

/-- VISIT_FIELD_COUNT_END (R120, R121): the visit ends at the next sector boundary, which is now while no data field is under
way; an ID search attempt that began with the visit ends first, as a failed try. -/
def execVisitFieldCountEnd (s : State) : Host.Outcome State Fault Refusal :=
  s.visitEvent fun v _ =>
    let s1 := s.modVisit fun v => { v with ending := true }
    match v.phase with
    | .searching =>
      if v.search = v.fields then (s1.countTry v.bay).afterFailedTry v.bay
      else (s1.releaseChannel v.bay).tell (.boundary v.bay)
    | .between => s1.releaseChannel v.bay
    | .reading | .writing | .formatWriting => s1
    | .formatWait => s

end Sys2Proof.Machine
end

