-- ==== Sys2Proof/Machine/MediaCommands.lean ====
section
/-! DEFINITION. The media commands and ABORT (07_media_commands.md, R106, R150). Validation, waiting and acceptance are those of
`State.mediaCommand`; the work that follows is that of Blocks, Formatting and Handling. -/

namespace Sys2Proof.Machine

/-- READ (R132 to R138). -/
def execRead (b : BayId) (lba : BitVec 24) (count : Byte) (s : State) : Host.Outcome State Fault Refusal :=
  s.frame (.read b lba count) fun s => s.mediaCommand b .read lba.toNat (countOf count)

/-- WRITE (R132 to R137, R139). -/
def execWrite (b : BayId) (lba : BitVec 24) (count : Byte) (s : State) : Host.Outcome State Fault Refusal :=
  s.frame (.write b lba count) fun s => s.mediaCommand b .write lba.toNat (countOf count)

/-- VERIFY (R132 to R137, R140). -/
def execVerify (b : BayId) (lba : BitVec 24) (count : Byte) (s : State) : Host.Outcome State Fault Refusal :=
  s.frame (.verify b lba count) fun s => s.mediaCommand b .verify lba.toNat (countOf count)

/-- SEEK (R132 to R137, R141): its count is 1. -/
def execSeek (b : BayId) (lba : BitVec 24) (s : State) : Host.Outcome State Fault Refusal :=
  s.frame (.seek b lba) fun s => s.mediaCommand b .seek lba.toNat 1

/-- REASSIGN (R31 to R37, R132 to R137, R142): its count is 1. -/
def execReassign (b : BayId) (lba : BitVec 24) (s : State) : Host.Outcome State Fault Refusal :=
  s.frame (.reassign b lba) fun s => s.mediaCommand b .reassign lba.toNat 1

/-- FORMAT (R149 to R151). -/
def execFormat (b : BayId) (heads : Byte) (certify useList keepGrown : Bool) (s : State) : Host.Outcome State Fault Refusal :=
  s.frame (.format b heads certify useList keepGrown) fun s => s.mediaCommand b (.format heads certify useList keepGrown) 0 0

/-- FLUSH RECORD (R106, R134). -/
def execFlushRecord (b : BayId) (s : State) : Host.Outcome State Fault Refusal :=
  s.frame (.flushRecord b) fun s => s.mediaCommand b .flushRecord 0 0

/-- ABORT of a bay's slot: the detail of its STATUS (R145), which is queued before what the ABORT brings about, and what it
brings about (R104, R146). -/
def State.abortBay (s : State) (b : BayId) : State :=
  match (s.bay b).slot with
  | none => s.answer (.bay b) .good .none abortCode
  | some c =>
    match c.op with
    | .eject _ =>
      ((s.answer (.bay b) .good (if (s.abortEject b).1 then .stopped else .tooLate) abortCode).abortEject b).2
    | .read | .write | .verify | .seek | .reassign | .format _ _ _ _ | .flushRecord | .reportCartridge | .reportCapacity
    | .reportDefects | .standbyNow | .wake | .loadTable _ | .readTable _ | .identify =>
      (s.answer (.bay b) .good .stopped abortCode).requestStop b .abort

/-- ABORT of a slot (R145, R146). -/
def State.takeAbort (s : State) (target : BayField) : State :=
  match target with
  | .bay b => if s.bayPresent b then s.abortBay b else s.answer (.bay b) .illegalRequest .none abortCode
  | .device => ((s.answer .device .good (if s.abortDevice.1 then .stopped else .none) abortCode).abortDevice).2

/-- ABORT (R145, R146). -/
def execAbort (target : BayField) (s : State) : Host.Outcome State Fault Refusal :=
  s.frame (.abort target) fun s => s.takeAbort target

end Sys2Proof.Machine
end

