-- ==== Sys2Proof/Machine/TableCommands.lean ====
section
/-! DEFINITION. LOAD TABLE, READ TABLE and IDENTIFY (R175, R183, R187). -/

namespace Sys2Proof.Machine

/-- A command takes the device slot (R175, R176). -/
def State.takeDeviceSlot (s : State) (c : Cmd) : State :=
  ({ s with deviceSlot := some c } : State).modLink fun l => { l with reservations := l.reservations + 1 }

/-- The image length is one that the Link Interface passes (check 4 of R175). -/
def lengthPasses (length : BitVec 16) : Bool := decide (1 ≤ length.toNat) && decide (length.toNat ≤ 2048)

/-- LOAD TABLE aimed at DEVICE (R183). -/
def State.loadDeviceTable (s : State) (id : TableId) (length : BitVec 16) : State :=
  let op : CmdOp := .loadTable id
  if !lengthPasses length then s.answer .device .illegalRequest .none op.code
  else if s.deviceSlot.isSome || s.staging.isSome then s.answer .device .busy .none op.code
  else
    ({ s with staging := some { id, declared := length.toNat, target := .device, bytes := [] } } : State).takeDeviceSlot
      (Cmd.fresh op 0 0 s.dmt.caps)

/-- LOAD TABLE aimed at a bay (R183). -/
def State.loadBayTable (s : State) (b : BayId) (id : TableId) (length : BitVec 16) : State :=
  let op : CmdOp := .loadTable id
  if !lengthPasses length || !s.bayPresent b then s.refuse b op.code (CmdResult.plain .illegalRequest .none)
  else if (s.bay b).slot.isSome || s.staging.isSome then s.refuse b op.code (CmdResult.plain .busy .none)
  else if (s.bay b).cart.state = .empty then s.refuse b op.code (CmdResult.plain .noCartridge .none)
  else
    (({ s with staging := some { id, declared := length.toNat, target := .bay b, bytes := [] } } : State).takeSlot b
      (Cmd.fresh op 0 0 s.dmt.caps)).commandAccepted b op

/-- READ TABLE or IDENTIFY aimed at DEVICE (R187). -/
def State.reportDevice (s : State) (op : CmdOp) : State :=
  let c := Cmd.fresh op 0 0 s.dmt.caps
  if s.deviceSlot.isSome then s.answer .device .busy .none op.code else (s.takeDeviceSlot c).offerReports .device c

/-- READ TABLE aimed at a bay (R187); `missing` is the detail when the bay holds no staged table of that kind. -/
def State.readBayTable (s : State) (b : BayId) (id : TableId) (staged : Option (List Byte)) (missing : Detail) : State :=
  let op : CmdOp := .readTable id
  if !s.bayPresent b then s.refuse b op.code (CmdResult.plain .illegalRequest .none)
  else if (s.bay b).slot.isSome then s.refuse b op.code (CmdResult.plain .busy .none)
  else if staged.isNone then s.refuse b op.code (CmdResult.plain .notStaged missing)
  else (s.takeSlot b (Cmd.fresh op 0 0 s.dmt.caps)).commandAccepted b op

/-- LOAD TABLE of MODE (R183). -/
def execLoadTableMode (length : BitVec 16) (s : State) : Host.Outcome State Fault Refusal :=
  s.frame (.loadTableMode length) fun s => s.loadDeviceTable .mode length

/-- LOAD TABLE of PROFILE (R183). -/
def execLoadTableProfile (length : BitVec 16) (s : State) : Host.Outcome State Fault Refusal :=
  s.frame (.loadTableProfile length) fun s => s.loadDeviceTable .profile length

/-- LOAD TABLE of ZONE (R183). -/
def execLoadTableZone (b : BayId) (length : BitVec 16) (s : State) : Host.Outcome State Fault Refusal :=
  s.frame (.loadTableZone b length) fun s => s.loadBayTable b .zone length

/-- LOAD TABLE of DEFECT_LIST (R183). -/
def execLoadTableDefectList (b : BayId) (length : BitVec 16) (s : State) : Host.Outcome State Fault Refusal :=
  s.frame (.loadTableDefectList b length) fun s => s.loadBayTable b .defectList length

/-- READ TABLE of MODE (R187). -/
def execReadTableMode (s : State) : Host.Outcome State Fault Refusal :=
  s.frame .readTableMode fun s => s.reportDevice (.readTable .mode)

/-- READ TABLE of PROFILE (R187). -/
def execReadTableProfile (s : State) : Host.Outcome State Fault Refusal :=
  s.frame .readTableProfile fun s => s.reportDevice (.readTable .profile)

/-- READ TABLE of ZONE (R187). -/
def execReadTableZone (b : BayId) (s : State) : Host.Outcome State Fault Refusal :=
  s.frame (.readTableZone b) fun s => s.readBayTable b .zone (s.bay b).tu.stagedZone .zone

/-- READ TABLE of DEFECT_LIST (R187). -/
def execReadTableDefectList (b : BayId) (s : State) : Host.Outcome State Fault Refusal :=
  s.frame (.readTableDefectList b) fun s => s.readBayTable b .defectList (s.bay b).tu.stagedList .defectList

/-- IDENTIFY (R187). -/
def execIdentify (s : State) : Host.Outcome State Fault Refusal := s.frame .identify fun s => s.reportDevice .identify

end Sys2Proof.Machine
end

