-- ==== Sys2Proof/Machine/HostCommands.lean ====
section
/-! DEFINITION. The command that a COMMAND frame carries, taken in the event in which the frame arrives (R175). -/

namespace Sys2Proof.Machine

/-- The effect of the command that a COMMAND frame carries (R175, R181). No event of the part is carried by a frame. -/
def State.hostCommand (s : State) : Instr → State
  | .read b lba count => s.mediaCommand b .read lba.toNat (countOf count)
  | .write b lba count => s.mediaCommand b .write lba.toNat (countOf count)
  | .verify b lba count => s.mediaCommand b .verify lba.toNat (countOf count)
  | .seek b lba => s.mediaCommand b .seek lba.toNat 1
  | .reassign b lba => s.mediaCommand b .reassign lba.toNat 1
  | .format b heads certify useList keepGrown => s.mediaCommand b (.format heads certify useList keepGrown) 0 0
  | .flushRecord b => s.mediaCommand b .flushRecord 0 0
  | .eject b force => s.takeEjectCommand b force
  | .prevent b => s.takePrevent b
  | .allow b => s.takeAllow b
  | .reportCartridge b => s.takeReportCartridge b
  | .reportCapacity b => s.tableReport b .reportCapacity
  | .reportDefects b => s.tableReport b .reportDefects
  | .standbyNow b => s.takeStandbyNow b
  | .wake b => s.takeWake b
  | .abort target => s.takeAbort target
  | .requestSense b => s.takeRequestSense b
  | .peek b => s.takePeek b
  | .loadTableMode length => s.loadDeviceTable .mode length
  | .loadTableProfile length => s.loadDeviceTable .profile length
  | .loadTableZone b length => s.loadBayTable b .zone length
  | .loadTableDefectList b length => s.loadBayTable b .defectList length
  | .readTableMode => s.reportDevice (.readTable .mode)
  | .readTableProfile => s.reportDevice (.readTable .profile)
  | .readTableZone b => s.readBayTable b .zone (s.bay b).tu.stagedZone .zone
  | .readTableDefectList b => s.readBayTable b .defectList (s.bay b).tu.stagedList .defectList
  | .identify => s.reportDevice .identify
  | .resetAsserted | .endOfReset _ | .powerFailLatch | .linkReset | .linkResetRelease | .ldirChange _ _
  | .inboundFrameError _ | .dataOutFrame _ _ _ | .outboundFrameSent | .linkTimeout _ | .indexEdge _ _ | .powerOnWatchEnd _
  | .firstIndexTimerExpiry _ | .gapTimerExpiry _ | .spinUpTimerExpiry _ | .recoveryTimerExpiry _ | .brakeTimerExpiry _
  | .stopTimerExpiry _ | .servoSample _ _ | .loadTimerExpiry _ | .seekTimerExpiry _ | .recalibrateTimerExpiry _
  | .positionerUnloadTimerExpiry _ | .retractTimerExpiry _ | .parkSensorChange _ _ | .presentAccepted _ | .presentLost _
  | .writeProtectChange _ _ | .lockSenseEngaged _ | .lockSenseOpen _ | .ejectButtonPress _ | .settleTimerExpiry _
  | .pulseEnd _ | .lockConfirmExpiry _ | .releaseConfirmExpiry _ | .idFieldRead _ | .idSearchAttemptEnd | .dataFieldRead _ _
  | .dataFieldWritten | .formatTrackWritten | .visitFieldCountEnd | .idleUnloadTimerExpiry _ | .standbyTimerExpiry _
  | .ledFlashToggle _ => s

end Sys2Proof.Machine
end

