-- ==== Sys2Proof/Machine/LinkEvents.lean ====
section
/-! DEFINITION. Link events: LINK_RESET, its release, LDIR_CHANGE, frames in error, DATA-OUT frames, the end of an outbound frame
and the link timer (R171 to R179). -/

namespace Sys2Proof.Machine

/-- A bay at a link reset (R113, R162, R179, R188, R190): its attentions and its sense record are cleared, prevent-removal is
cleared and unit-changed set, the idle timers restart, and its command ends without STATUS. -/
def State.linkResetBay (s : State) (b : BayId) : State :=
  if !s.bayPresent b then s
  else
    let lower (a : Attn) : Attn := { a with raised := false }
    let s1 := s.modBay b fun x => { x with
      sense := Sense.reset
      attn := { inserted := lower x.attn.inserted, removed := lower x.attn.removed, ejectRequest := lower x.attn.ejectRequest,
                readiness := lower x.attn.readiness, recordDiscarded := lower x.attn.recordDiscarded,
                bayFault := lower x.attn.bayFault }
      cart := { x.cart with
        preventRemoval := false
        unitChanged := x.cart.unitChanged || x.cart.state == .mounted || x.cart.state == .unformatted } }
    let s2 := (s1.freeWhere b fun r =>
      r.purpose == some .mediaData && (r.state == .full || r.state == .draining) &&
        ((s.bay b).slot.map fun c => c.op) == some .read)
    (s2.restartIdleTimers b).endSilently b

/-- The link side of a link reset (R179): frames are dropped, the queue is emptied, the reservations return to 0, and the device
slot's command ends without STATUS. -/
def State.linkResetLink (s : State) : State :=
  let s := s.dropFrameSlot
  (({ s with
    deviceSlot := s.deviceSlot.map fun c => { c with silent := true }
    link := { s.link with
      lrst := true, inFrame := none, spent := s.link.spent || s.link.inFrame.isSome, withheld := none, outFrame := none, queue := []
      offered := [], reservations := 0, timer := none } } : State)).finishDevice .aborted .none

/-- LINK_RESET (R179). An LRST already asserted is no event; while RESET is held or after the power-fail latch it changes
nothing but the level. -/
def execLinkReset (s : State) : Host.Outcome State Fault Refusal :=
  if s.link.lrst then .next s
  else if s.resetHeld || s.powerLoss then .next (s.modLink fun l => { l with lrst := true })
  else (((s.linkResetLink).linkResetBay .bayA).linkResetBay .bayB).conclude

/-- LINK_RESET_RELEASE (R179, R192): the link is idle from this event. -/
def execLinkResetRelease (s : State) : Host.Outcome State Fault Refusal :=
  (s.modLink fun l => { l with lrst := false }).conclude

/-- An inbound frame comes to its end (R173, R175, R178): in error, to the command that expects its data, or with a command of its
own. `ended` says how a frame that ends early ends. -/
def State.takeFrame (s : State) (frame : Inbound) (ended : Detail) : State :=
  match frameVerdict frame.bytes ended with
  | .frameError d => s.answer .device .frameError d 0
  | .answered target c d code => s.answer target c d code
  | .dataOut target declared payload => s.takeDataOut target declared payload frame.late ended
  | .command i => s.hostCommand i

/-- The bytes of the frame in progress: those that its row brings, or, where the row brings none, those taken so far
(notes/assumptions/78.md). -/
def State.bytesSoFar (s : State) (inbound : Inbound) : Inbound :=
  match s.link.inFrame with
  | some f => if inbound.bytes.isEmpty then { inbound with bytes := f.bytes } else inbound
  | none => inbound

/-- The frame that a change of LDIR ends (R173, R178). An outbound frame whose last byte's exchange has ended is sent, not abandoned
(R177). A frame none of whose bytes was acknowledged is no frame (notes/assumptions/72.md). -/
def State.ldirCuts (s : State) (dir : LinkDir) (inbound : Inbound) : State :=
  match dir with
  | .hostSends =>
    match s.link.outFrame with
    | some f => if f.over then s.frameSent f else s.abandonFrame f
    | none => s
  | .partSends =>
    if s.link.inFrame.any fun f => f.due.isSome then s.cutHeld.frameSpent
    else if s.frameUnderWay then s.endInbound true fun s => s.takeFrame (s.bytesSoFar inbound) .short
    else if s.link.withheld.isSome then s.modLink fun l => { l with withheld := none }
    else if s.takesFrame && !inbound.bytes.isEmpty then s.frameSpent.takeFrame inbound .short
    else s

/-- LDIR_CHANGE (R171, R173, R177, R178): a frame in progress ends, and with LDIR at IN the part begins to send. -/
def execLdirChange (dir : LinkDir) (inbound : Inbound) (s : State) : Host.Outcome State Fault Refusal :=
  let turned : State → State := fun s => s.modLink fun l => { l with ldir := dir }
  if dir = s.link.ldir then .next s
  else if s.linkAlive then (turned (s.ldirCuts dir inbound)).conclude
  else .next (turned s)

/-- A frame is in error, against the length its header declares (R173), or is a COMMAND frame that is answered unaccepted (R175). -/
def frameInError (frame : Inbound) : Bool :=
  match frameVerdict frame.bytes .short with
  | .dataOut _ declared payload => (payloadError declared payload .short).isSome
  | .frameError _ => true
  | .answered _ _ _ _ => true
  | .command _ => false

/-- INBOUND_FRAME_ERROR (R173, R175). A frame without error is no such event (notes/assumptions/28.md). -/
def execInboundFrameError (frame : Inbound) (s : State) : Host.Outcome State Fault Refusal :=
  if frameInError frame then s.frame (.inboundFrameError frame) fun s => s.takeFrame frame .short else .next s

/-- DATA_OUT_FRAME (R174): to the WRITE or LOAD TABLE that expects it, or UNEXPECTED_DATA. -/
def execDataOutFrame (target : BayField) (declared : BitVec 16) (payload : Inbound) (s : State) :
    Host.Outcome State Fault Refusal :=
  s.frame (.dataOutFrame target declared payload) fun s =>
    s.takeDataOut target declared.toNat payload.bytes payload.late .short

/-- OUTBOUND_FRAME_SENT (R177): a DATA-IN slot is freed and the next frame may begin. The row is the end of the last byte's exchange: it
comes of itself with that byte (`State.sentRow`), and one that comes before it stands for the rest of the exchange
(notes/assumptions/59.md). -/
def execOutboundFrameSent (s : State) : Host.Outcome State Fault Refusal :=
  match s.link.outFrame with
  | some f => if s.linkAlive then (s.frameSent f).conclude else .next s
  | none => .next s

/-- LINK_TIMEOUT (R178): the frame in progress ends. A stopped timer does not expire: after the last byte's exchange, and while the
part itself withholds an acknowledge, this is no event. The row may bring an inbound frame whose bytes it alone tells
(notes/assumptions/78.md). -/
def execLinkTimeout (inbound : Inbound) (s : State) : Host.Outcome State Fault Refusal :=
  match s.link.outFrame with
  | some f => if s.linkAlive && s.link.timer.isSome then (s.abandonFrame f).conclude else .next s
  | none =>
    if s.frameUnderWay && s.link.timer.isSome then
      (s.endInbound true fun s => s.takeFrame (s.bytesSoFar inbound) .timeout).conclude
    else if s.takesFrame && !inbound.bytes.isEmpty then (s.frameSpent.takeFrame inbound .timeout).conclude
    else .next s

end Sys2Proof.Machine
end

