-- ==== Sys2Proof/Machine/PositionerEvents.lean ====
section
/-! DEFINITION. Positioner events (04_head_positioning.md). The expiry of a timer that is stopped does nothing
(notes/assumptions/1.md). -/

namespace Sys2Proof.Machine

/-- A servo sample is recorded and acted on, and its servo field passes under the heads of a visit (R69, R120). -/
def State.takeSample (s : State) (b : BayId) (w : ServoWord) : State :=
  let x := sampleOf w (s.bay b).pos.bias
  ((s.recordSample b x).actOnSample b x).channelSample b w.indexFlag

/-- SERVO_SAMPLE (R68 to R82): the hand-over of the sample is complete, and a read of it that was under way ends with it
(notes/assumptions/106.md). While RESET is held and after the power-fail latch the sample is recorded only (R170, R191). -/
def execServoSample (b : BayId) (w : ServoWord) (s : State) : Host.Outcome State Fault Refusal :=
  let t : State := { s with servo := s.servo.handedOver b }
  if !s.bayPresent b then .next s
  else if s.resetHeld || s.powerLoss then .next (t.recordSample b (sampleOf w (s.bay b).pos.bias))
  else (t.takeSample b w).conclude

/-- LOAD_TIMER_EXPIRY (R71). -/
def execLoadTimerExpiry (b : BayId) (s : State) : Host.Outcome State Fault Refusal :=
  s.bayAct b fun s =>
    if (s.bay b).pos.loadTimer.isSome && (s.bay b).pos.state == .loading then s.loadFails b .load else s

/-- SEEK_TIMER_EXPIRY (R76, R78). -/
def execSeekTimerExpiry (b : BayId) (s : State) : Host.Outcome State Fault Refusal :=
  s.bayAct b fun s =>
    if (s.bay b).pos.seekTimer.isSome && ((s.bay b).pos.state == .seeking || (s.bay b).pos.state == .settling) then
      s.seekFailure b .seekTimeout
    else s

/-- A recalibration without a valid sample (R79): a reload once in a seek, a pending fault the second time. -/
def State.recalibrationFails (s : State) (b : BayId) : State :=
  let p := (s.bay b).pos
  if p.reloadUsed then (s.enterUnloading b true).modPos b fun p => { p with pendingFault := some .recal }
  else
    (s.enterUnloading b true).modPos b fun q => { q with reloadUsed := true, again := .reload, reloadTarget := p.target }

/-- RECALIBRATE_TIMER_EXPIRY (R79). -/
def execRecalibrateTimerExpiry (b : BayId) (s : State) : Host.Outcome State Fault Refusal :=
  s.bayAct b fun s => if (s.bay b).pos.recalTimer.isSome then s.recalibrationFails b else s

/-- POSITIONER_UNLOAD_TIMER_EXPIRY (R83): the retract output finishes the unload. -/
def execPositionerUnloadTimerExpiry (b : BayId) (s : State) : Host.Outcome State Fault Refusal :=
  s.bayAct b fun s =>
    if (s.bay b).pos.unloadTimer.isSome then
      (s.modPos b fun p => { p with unloadTimedOut := true }).enterRetracting b
    else s

/-- RETRACT_TIMER_EXPIRY (R84, R85): the Positioner follows it after the power-fail latch too, with the detail of R84
(notes/assumptions/88.md). -/
def execRetractTimerExpiry (b : BayId) (s : State) : Host.Outcome State Fault Refusal :=
  s.bayEvent b fun s =>
    if (s.bay b).pos.retractTimer.isSome then
      s.enterActFault b (if (s.bay b).pos.unloadTimedOut then .unload else .retract)
    else s

/-- The Positioner acts on the filtered park sensor (R83, R84, R86). After the power-fail latch PARKED stays (R85, R170). -/
def State.parkSensor (s : State) (b : BayId) (parked : Bool) : State :=
  let s1 := s.modPos b fun p => { p with parked := parked }
  match (s.bay b).pos.state with
  | .unloading | .retracting => if parked then s1.onParked b else s1
  | .parked => if parked || s.powerLoss then s1 else s1.enterRetracting b
  | .actFault => s1.tell (.poke b)
  | .loading | .calibrating | .seeking | .settling | .following | .recalibrating => s1

/-- PARK_SENSOR_CHANGE (R83, R84, R86): the Positioner follows it after the power-fail latch too. -/
def execParkSensorChange (b : BayId) (parked : Bool) (s : State) : Host.Outcome State Fault Refusal :=
  s.bayEvent b fun s => s.parkSensor b parked

end Sys2Proof.Machine
end

