-- ==== Sys2Proof/Machine/PowerEvents.lean ====
section
/-! DEFINITION. The idle timers (R162). -/

namespace Sys2Proof.Machine

/-- The unload timer has expired: in IDLE the mode becomes PARKED_IDLE with an unload order, in PARKED_IDLE nothing happens
(R161, R162). -/
def State.unloadTimerExpires (s : State) (b : BayId) : State :=
  let s1 := s.modPower b fun p => { p with unloadTimer := none }
  if (s.bay b).power.mode = .idle then (s1.setMode b .parkedIdle).unloadOrder b else s1

/-- The standby timer has expired: a standby entry with source TIMER begins (R162, R163). -/
def State.standbyTimerExpires (s : State) (b : BayId) : State :=
  (s.modPower b fun p => { p with standbyTimer := none }).enterStandby b .timer

/-- IDLE_UNLOAD_TIMER_EXPIRY (R162): only a timer that runs and counts expires. With the standby timer due in the same event, the
standby entry is taken, and the unload is its second phase. -/
def execIdleUnloadTimerExpiry (b : BayId) (s : State) : Host.Outcome State Fault Refusal :=
  s.bayAct b fun s =>
    if (s.bay b).power.unloadTimer.isSome && (s.bay b).idleCounting then
      if (s.bay b).power.standbyTimer = some 0 then s.standbyTimerExpires b else s.unloadTimerExpires b
    else s

/-- STANDBY_TIMER_EXPIRY (R162, R163). -/
def execStandbyTimerExpiry (b : BayId) (s : State) : Host.Outcome State Fault Refusal :=
  s.bayAct b fun s =>
    if (s.bay b).power.standbyTimer.isSome && (s.bay b).idleCounting then s.standbyTimerExpires b else s

end Sys2Proof.Machine
end

