-- ==== Sys2Proof/Machine/SpindleEvents.lean ====
section
/-! DEFINITION. Spindle events (03_spindle_control.md). The expiry of a timer that is stopped, or of one
that the spindle's state does not run, does nothing (notes/assumptions/1.md). -/

namespace Sys2Proof.Machine

/-- INDEX_EDGE (R45, R60 to R62), `elapsed` µs after the period counter was last advanced. -/
def execIndexEdge (b : BayId) (elapsed : Nat) (s : State) : Host.Outcome State Fault Refusal :=
  s.bayEvent b fun s => s.takeEdge b elapsed

/-- POWER_ON_WATCH_END (R61): the watch closes into STOPPED; waiting stops are answered and a pending start is taken. -/
def execPowerOnWatchEnd (b : BayId) (s : State) : Host.Outcome State Fault Refusal :=
  s.bayAct b fun s => if (s.bay b).spindle.watchOpen && (s.bay b).spindle.state == .stopped then s.enterStopped b else s

/-- FIRST_INDEX_TIMER_EXPIRY (R57). -/
def execFirstIndexTimerExpiry (b : BayId) (s : State) : Host.Outcome State Fault Refusal :=
  s.bayAct b fun s =>
    if (s.bay b).spindle.firstIndexTimer.isSome && (s.bay b).spindle.state == .accelerating then s.enterSpinFailed b .noIndex else s

/-- GAP_TIMER_EXPIRY (R57): in a spinning state. -/
def execGapTimerExpiry (b : BayId) (s : State) : Host.Outcome State Fault Refusal :=
  s.bayAct b fun s =>
    if (s.bay b).spindle.gapTimer.isSome && (s.bay b).spindle.state.spinning then s.enterSpinFailed b .indexLost else s

/-- SPIN_UP_TIMER_EXPIRY (R57). -/
def execSpinUpTimerExpiry (b : BayId) (s : State) : Host.Outcome State Fault Refusal :=
  s.bayAct b fun s =>
    if (s.bay b).spindle.spinUpTimer.isSome && ((s.bay b).spindle.state == .accelerating || (s.bay b).spindle.state == .regulating) then s.enterSpinFailed b .spinTimeout
    else s

/-- RECOVERY_TIMER_EXPIRY (R56). -/
def execRecoveryTimerExpiry (b : BayId) (s : State) : Host.Outcome State Fault Refusal :=
  s.bayAct b fun s =>
    if (s.bay b).spindle.recoveryTimer.isSome && (s.bay b).spindle.state == .speedFault then s.enterSpinFailed b .speedLost else s

/-- BRAKE_TIMER_EXPIRY (R59). -/
def execBrakeTimerExpiry (b : BayId) (s : State) : Host.Outcome State Fault Refusal :=
  s.bayAct b fun s =>
    if (s.bay b).spindle.brakeTimer.isSome && (s.bay b).spindle.state == .braking then s.enterSpinFailed b .brake else s

/-- STOP_TIMER_EXPIRY (R58, R59): 250 ms without an index edge in BRAKING or SPIN_FAILED. -/
def execStopTimerExpiry (b : BayId) (s : State) : Host.Outcome State Fault Refusal :=
  s.bayAct b fun s =>
    if (s.bay b).spindle.stopTimer.isSome && ((s.bay b).spindle.state == .braking || (s.bay b).spindle.state == .spinFailed) then s.enterStopped b else s

end Sys2Proof.Machine
end

