-- ==== Sys2Proof/Machine/Dispatch.lean ====
section
/-! DEFINITION. One arm per command or event, each a direct call of its meaning. -/

namespace Sys2Proof.Machine

/-- The effect of a command or event on everything but the queue. -/
def exec (i : Instr) (s : State) : Host.Outcome State Fault Refusal :=
  match i with
  | .resetAsserted => Sys2Proof.Machine.execResetAsserted s
  | .endOfReset pins => Sys2Proof.Machine.execEndOfReset pins s
  | .powerFailLatch => Sys2Proof.Machine.execPowerFailLatch s
  | .linkReset => Sys2Proof.Machine.execLinkReset s
  | .linkResetRelease => Sys2Proof.Machine.execLinkResetRelease s
  | .ldirChange dir inbound => Sys2Proof.Machine.execLdirChange dir inbound s
  | .inboundFrameError frame => Sys2Proof.Machine.execInboundFrameError frame s
  | .dataOutFrame target declared payload => Sys2Proof.Machine.execDataOutFrame target declared payload s
  | .outboundFrameSent => Sys2Proof.Machine.execOutboundFrameSent s
  | .linkTimeout inbound => Sys2Proof.Machine.execLinkTimeout inbound s
  | .read b lba count => Sys2Proof.Machine.execRead b lba count s
  | .write b lba count => Sys2Proof.Machine.execWrite b lba count s
  | .verify b lba count => Sys2Proof.Machine.execVerify b lba count s
  | .seek b lba => Sys2Proof.Machine.execSeek b lba s
  | .reassign b lba => Sys2Proof.Machine.execReassign b lba s
  | .format b heads certify useList keepGrown => Sys2Proof.Machine.execFormat b heads certify useList keepGrown s
  | .flushRecord b => Sys2Proof.Machine.execFlushRecord b s
  | .eject b force => Sys2Proof.Machine.execEject b force s
  | .prevent b => Sys2Proof.Machine.execPrevent b s
  | .allow b => Sys2Proof.Machine.execAllow b s
  | .reportCartridge b => Sys2Proof.Machine.execReportCartridge b s
  | .reportCapacity b => Sys2Proof.Machine.execReportCapacity b s
  | .reportDefects b => Sys2Proof.Machine.execReportDefects b s
  | .standbyNow b => Sys2Proof.Machine.execStandbyNow b s
  | .wake b => Sys2Proof.Machine.execWake b s
  | .abort target => Sys2Proof.Machine.execAbort target s
  | .requestSense b => Sys2Proof.Machine.execRequestSense b s
  | .peek b => Sys2Proof.Machine.execPeek b s
  | .loadTableMode length => Sys2Proof.Machine.execLoadTableMode length s
  | .loadTableProfile length => Sys2Proof.Machine.execLoadTableProfile length s
  | .loadTableZone b length => Sys2Proof.Machine.execLoadTableZone b length s
  | .loadTableDefectList b length => Sys2Proof.Machine.execLoadTableDefectList b length s
  | .readTableMode => Sys2Proof.Machine.execReadTableMode s
  | .readTableProfile => Sys2Proof.Machine.execReadTableProfile s
  | .readTableZone b => Sys2Proof.Machine.execReadTableZone b s
  | .readTableDefectList b => Sys2Proof.Machine.execReadTableDefectList b s
  | .identify => Sys2Proof.Machine.execIdentify s
  | .indexEdge b elapsed => Sys2Proof.Machine.execIndexEdge b elapsed s
  | .powerOnWatchEnd b => Sys2Proof.Machine.execPowerOnWatchEnd b s
  | .firstIndexTimerExpiry b => Sys2Proof.Machine.execFirstIndexTimerExpiry b s
  | .gapTimerExpiry b => Sys2Proof.Machine.execGapTimerExpiry b s
  | .spinUpTimerExpiry b => Sys2Proof.Machine.execSpinUpTimerExpiry b s
  | .recoveryTimerExpiry b => Sys2Proof.Machine.execRecoveryTimerExpiry b s
  | .brakeTimerExpiry b => Sys2Proof.Machine.execBrakeTimerExpiry b s
  | .stopTimerExpiry b => Sys2Proof.Machine.execStopTimerExpiry b s
  | .servoSample b w => Sys2Proof.Machine.execServoSample b w s
  | .loadTimerExpiry b => Sys2Proof.Machine.execLoadTimerExpiry b s
  | .seekTimerExpiry b => Sys2Proof.Machine.execSeekTimerExpiry b s
  | .recalibrateTimerExpiry b => Sys2Proof.Machine.execRecalibrateTimerExpiry b s
  | .positionerUnloadTimerExpiry b => Sys2Proof.Machine.execPositionerUnloadTimerExpiry b s
  | .retractTimerExpiry b => Sys2Proof.Machine.execRetractTimerExpiry b s
  | .parkSensorChange b parked => Sys2Proof.Machine.execParkSensorChange b parked s
  | .presentAccepted b => Sys2Proof.Machine.execPresentAccepted b s
  | .presentLost b => Sys2Proof.Machine.execPresentLost b s
  | .writeProtectChange b wpProtected => Sys2Proof.Machine.execWriteProtectChange b wpProtected s
  | .lockSenseEngaged b => Sys2Proof.Machine.execLockSenseEngaged b s
  | .lockSenseOpen b => Sys2Proof.Machine.execLockSenseOpen b s
  | .ejectButtonPress level => Sys2Proof.Machine.execEjectButtonPress level s
  | .settleTimerExpiry b => Sys2Proof.Machine.execSettleTimerExpiry b s
  | .pulseEnd b => Sys2Proof.Machine.execPulseEnd b s
  | .lockConfirmExpiry b => Sys2Proof.Machine.execLockConfirmExpiry b s
  | .releaseConfirmExpiry b => Sys2Proof.Machine.execReleaseConfirmExpiry b s
  | .idFieldRead field => Sys2Proof.Machine.execIdFieldRead field s
  | .idSearchAttemptEnd => Sys2Proof.Machine.execIdSearchAttemptEnd s
  | .dataFieldRead data check => Sys2Proof.Machine.execDataFieldRead data check s
  | .dataFieldWritten => Sys2Proof.Machine.execDataFieldWritten s
  | .formatTrackWritten => Sys2Proof.Machine.execFormatTrackWritten s
  | .visitFieldCountEnd => Sys2Proof.Machine.execVisitFieldCountEnd s
  | .idleUnloadTimerExpiry b => Sys2Proof.Machine.execIdleUnloadTimerExpiry b s
  | .standbyTimerExpiry b => Sys2Proof.Machine.execStandbyTimerExpiry b s
  | .ledFlashToggle b => Sys2Proof.Machine.execLedFlashToggle b s

end Sys2Proof.Machine
end

