-- ==== Sys2Proof/Machine/Step.lean ====
section
/-! DEFINITION. One step: the command at the front of the queue runs, or, with none waiting, a microsecond passes or a withheld
frame arrives. -/

namespace Sys2Proof.Machine

/-- With no command waiting a microsecond passes (notes/assumptions/3.md), which may leave the rows that it makes due in the queue
(notes/assumptions/78.md, 106.md), unless the queue has room again for an inbound frame
that was withheld: its first header byte is acknowledged, and the frame arrives (R176; notes/assumptions/72.md). -/
def idle (s : State) : Host.Outcome State Fault Refusal :=
  let freed := s.modLink fun l => { l with withheld := none }
  match s.link.withheld with
  | some i => if freed.takesFrame then exec i freed else .next s.tick
  | none => .next s.tick

/-- One step (notes/assumptions/3.md, 26.md). -/
def step (s : State) : Host.Outcome State Fault Refusal :=
  match s.pending with
  | i :: rest => exec i { s with pending := rest }
  | [] => idle s

/-- The state with the command that a table word spells at the front of its queue; no word spells one
(notes/assumptions/27.md). -/
def State.withFetchWord (s : State) (nbits w : Nat) : State :=
  match decodeTableWord nbits w with
  | some i => { s with pending := i :: s.pending }
  | none => s

end Sys2Proof.Machine
end

