-- ==== Sys2Proof/Safety.lean ====
section
/-! DEFINITION. The terms in which claims about the part are stated: the part between events, a bay in which nothing waits to
go on, a frame that concerns a bay, and the invariants of a run. -/

namespace Sys2Proof.Machine

/-! ## The part between events -/

/-- RESET has ended and no power-fail edge is latched. -/
abbrev State.running (s : State) : Prop := s.resetHeld = false ∧ s.powerLoss = false

/-- No message and no DATA-IN descriptor is pending, and each bay's readiness class is that of its power mode (R168, R176). -/
abbrev State.settled (s : State) : Prop :=
  s.signals = [] ∧ s.link.offered = [] ∧ s.bayA.power.readiness = s.bayA.power.mode.readiness ∧
    s.bayB.power.readiness = s.bayB.power.mode.readiness

/-- The link gives the part no occasion to begin a frame: LDIR at OUT, a frame going out, or LRST asserted (R177). -/
abbrev State.linkBusy (s : State) : Prop :=
  s.link.ldir = .hostSends ∨ s.link.outFrame.isSome = true ∨ s.link.lrst = true

/-- Between two events of a running part, with nothing for the link to begin. -/
abbrev State.calm (s : State) : Prop := s.running ∧ s.settled ∧ s.linkBusy

/-- A frame of the host adapter finds a part that takes it, with no other frame in progress and nothing left of one before it. The
last of the three is no restriction on a row that brings a whole frame (the statement CommandFramesReadBack): it says only that the
row has nothing to clear. -/
abbrev State.hears (s : State) : Prop := s.takesFrame = true ∧ s.settled ∧ s.link.spent = false

/-- The heads stand outside the two states that the park sensor ends (R83, R84), or the sensor does not read parked. -/
def Positioner.rests (x : Positioner) : Bool := !(x.parked && (x.state == .unloading || x.state == .retracting))

/-- The bay's cartridge state has no step of its own to take (R102, R111, R112). -/
def Cartridge.rests (x : Cartridge) : Bool :=
  match x.state with
  | .empty => !x.startupRelease
  | .locking => !x.startupWait
  | .seated | .spinningUp | .mounting | .mounted | .unformatted | .formatting | .released => true
  | .bayFault => x.cartridgeIn && x.eject.isNone
  | .unmounting | .releasing => false

/-- No work of the bay's own waits to go on: its heads, its cartridge state and its power mode have no step pending, and it has
no command and no sector operation, or a sector operation that waits for its heads without slots to ask for. -/
def Bay.rests (x : Bay) : Bool :=
  x.pos.rests && x.cart.rests && x.power.entry.isNone &&
    match x.job with
    | none => x.slot.isNone
    | some j => j.stage != .atTrack && !j.asksSlots && j.slots.length != 4

/-- A bay whose own work rests, with no inbound frame in progress, no visit and no channel request. -/
def State.bayRests (s : State) (b : BayId) : Bool :=
  (s.bay b).rests && s.link.inFrame.isNone && !s.visiting b && s.chan.waiter != some b

/-! ## A mounted bay at rest, and what its heads do next -/

/-- A MOUNTED bay in IDLE with its slot free, its tables installed and its heads FOLLOWING on a track, no order, flush, wake or
standby entry under way, and no part in the Data Channel. -/
abbrev State.readyAt (s : State) (b : BayId) (t : Tables) (at_ : Track) : Prop :=
  s.bayPresent b = true ∧ (s.bay b).slot = none ∧ (s.bay b).job = none ∧ (s.bay b).reassign = none ∧ (s.bay b).flush = none ∧
    (s.bay b).cart.state = .mounted ∧ (s.bay b).cart.unitChanged = false ∧ (s.bay b).cart.eject = none ∧
    (s.bay b).power.mode = .idle ∧ (s.bay b).power.entry = none ∧ (s.bay b).power.wake = none ∧ (s.bay b).tu.tables = some t ∧
    (s.bay b).spindle.state = .atSpeed ∧ (s.bay b).pos.state = .following ∧ (s.bay b).pos.target = some at_ ∧
    (s.bay b).pos.parked = false ∧ (s.bay b).pos.loadOpen = false ∧ (s.bay b).pos.seekFor = .nobody ∧
    (s.bay b).pos.heldSeek = none ∧ s.visiting b = false ∧ s.chan.waiter ≠ some b

/-- How far a track's cylinder lies from the current one (R76). -/
def Positioner.distance (p : Positioner) (t : Track) : Nat := max p.current t.cyl - min p.current t.cyl

/-- The Positioner in the event in which a seek for the bay's running operation starts (R75, R76), with the profile row that the
distance chooses. -/
def Positioner.seekStarted (p : Positioner) (t : Track) (row : SeekRow) : Positioner :=
  { p with
    state := .seeking
    target := some t
    head := t.head
    row := some row
    seekTimer := some (row.timeout * 1000)
    settleCount := 0
    onTrack := false
    driveDir := if p.current ≤ t.cyl then .inward else .outward
    driveMag := row.velocity
    retryUsed := false
    reloadUsed := false
    seekFor := .operation
    givingUp := false }

/-- The Positioner at its entry to UNLOADING with no order open (R83). -/
def Positioner.unloadStarted (p : Positioner) : Positioner :=
  { p with
    state := .unloading
    target := none
    calibrated := false
    onTrack := false
    loadTimer := none
    seekTimer := none
    recalTimer := none
    unloadTimer := some 300000
    driveDir := .outward
    driveMag := 4
    loadOpen := false
    seekFor := .nobody
    heldSeek := none
    heldSeekOwned := false
    reloadTarget := none
    givingUp := false
    again := .nothing }

/-- A slot just taken (R115). -/
def SlotRec.taken (b : BayId) (purpose : Purpose) (lba : Option Nat) : SlotRec where
  owner := some b
  state := .filling
  purpose := some purpose
  lba := lba
  ecc := none
  data := []

/-- A visit has in hand the sector of the last block of a READ, VERIFY or WRITE in a MOUNTED bay in ACTIVE: the command works and
is not being stopped, no block of it was recovered, slot `k` is the only one that the bay holds, and no frame of the command is
queued or going out. -/
structure State.LastBlock (s : State) (v : Visit) (j : Job) (c : Cmd) (k : Nat) : Prop where
  command : (s.bay v.bay).slot = some c
  working : c.wait = .working ∧ c.stop = none ∧ c.result = none ∧ c.silent = false ∧ c.recovered = none
  last : c.done + 1 = c.count
  firstTry : j.tries = 0
  slot : j.slots = [k] ∧ (s.slotRec k).owner = some v.bay
  onlySlot : ∀ r ∈ s.slots.set k SlotRec.free, r.owner ≠ some v.bay
  holder : s.chan.holder = some v.bay ∧ s.chan.waiter = none
  noOther : (s.bay v.bay).reassign = none ∧ (s.bay v.bay).flush = none ∧ (s.bay v.bay).format = none
  bay : (s.bay v.bay).cart.state = .mounted ∧ (s.bay v.bay).cart.eject = none
  power : (s.bay v.bay).power.mode = .active ∧ (s.bay v.bay).power.entry = none ∧ (s.bay v.bay).power.wake = none
  heads : (s.bay v.bay).pos.state.loaded = true ∧ (s.bay v.bay).pos.rests = true
  frames : s.link.inFrame = none ∧ (∀ d ∈ s.link.queue, Desc.isReportOf (.bay v.bay) d = false) ∧
    ∀ f, s.link.outFrame = some f → ¬ (f.target = .bay v.bay ∧ f.slot = none)
  staging : (s.staging.map fun x => x.target) ≠ some (.bay v.bay)

/-! ## Invariants of a run -/

/-- Both bays. -/
def bothBays : List BayId := [.bayA, .bayB]

/-- An event that is over leaves no message; in a running part it leaves each readiness class in step with its power mode
(R168), no DATA-IN descriptor waiting while the queue has room (R176), and, with LDIR at IN, nothing that asks for the link
(R177). -/
def State.eventOver (s : State) : Prop :=
  s.signals = [] ∧
    (s.running → (∀ b, (s.bay b).power.readiness = (s.bay b).power.mode.readiness) ∧
      (s.link.offered = [] ∨ Config.dataInRoom < s.link.queue.length + s.link.reservations) ∧
      (s.link.ldir = .partSends → s.lsrq = false))

/-- The spin-up allowance arbiter and the spindles agree: the holder is the bay whose spindle is ACCELERATING, the waiter the one
in WAIT_ALLOWANCE, and there is a waiter only while there is a holder (R49). The spindle of an absent bay stands STOPPED (R43). -/
def State.allowanceKept (s : State) : Prop :=
  (∀ b, s.allowHolder = some b ↔ (s.bay b).spindle.state = .accelerating) ∧
    (∀ b, s.allowWaiter = some b ↔ (s.bay b).spindle.state = .waitAllowance) ∧
    (s.allowWaiter.isSome = true → s.allowHolder.isSome = true) ∧
    (s.twoBays = false → s.bayB.spindle.state = .stopped)

/-- What the power-fail latch leaves: no command, no traffic, no visit, the write gate closed, no pulse, and in each present bay
a spindle COASTING without drive and heads parked, retracting or in ACT_FAULT (R60, R85, R113, R169). -/
def State.poweredDown (s : State) : Prop :=
  s.powerLoss = true →
    s.deviceSlot = none ∧ s.link.inFrame = none ∧ s.link.outFrame = none ∧ s.link.queue = [] ∧ s.link.offered = [] ∧
    s.link.reservations = 0 ∧ s.allowHolder = none ∧ s.allowWaiter = none ∧ s.chan.holder = none ∧ s.chan.waiter = none ∧
    s.chan.visit = none ∧ s.chan.gate = false ∧
    ∀ b, s.bayPresent b = true →
      (s.bay b).slot = none ∧ (s.bay b).job = none ∧ (s.bay b).spindle.state = .coasting ∧ (s.bay b).spindle.drive = 0 ∧
      (s.bay b).cart.lockPulse = false ∧ (s.bay b).cart.releasePulse = false ∧
      ((s.bay b).pos.state = .parked ∨ (s.bay b).pos.state = .retracting ∨ (s.bay b).pos.state = .actFault)

/-- The Data Channel's holder is the bay of the visit, and the write gate is open only while a data field or a format track is
written in a visit (R119, R124). -/
def State.channelKept (s : State) : Prop :=
  s.chan.holder = s.chan.visit.map (fun v => v.bay) ∧
    (s.chan.gate = true → ∃ v, s.chan.visit = some v ∧ (v.phase = .writing ∨ v.phase = .formatWriting))

/-- The Sector Buffer has its twelve slots (R114). -/
def State.twelveSlots (s : State) : Prop := s.slots.length = Config.bufferSlots

/-- Neither bay holds more than its quota of slots (R115). -/
def State.quotaKept (s : State) : Prop := ∀ b, s.heldSlots b ≤ Config.slotQuota

/-- Heads in a loaded state are over a platter at speed with its purge done, in a bay whose lock sense reads engaged (R67). -/
def State.headsFly (s : State) : Prop :=
  ∀ b, (s.bay b).pos.state.loaded = true →
    (s.bay b).spindle.state = .atSpeed ∧ (s.bay b).spindle.purgeRemaining = 0 ∧ (s.bay b).cart.lockEngaged = true

/-- The entries that the command in a slot still has reserved (R176): one, unless a link reset has ended it (R179). -/
def slotShare : Option Cmd → Nat
  | some c => if c.silent then 0 else 1
  | none => 0

/-- The reservations that the part owes: one for each command in a slot, two for an inbound frame in progress (R176). -/
def State.owed (s : State) : Nat :=
  slotShare s.bayA.slot + slotShare s.bayB.slot + slotShare s.deviceSlot + if s.link.inFrame.isSome then 2 else 0

/-- Descriptors and reservations never total more than the queue's entries; outside RESET the reservations are those owed; and a
bay that is absent holds no command (R91, R176). -/
def State.queueKept (s : State) : Prop :=
  s.link.queue.length + s.link.reservations ≤ Config.queueEntries ∧ (s.resetHeld = false → s.link.reservations = s.owed) ∧
    (s.twoBays = false → s.bayB.slot = none)

end Sys2Proof.Machine
end

