-- ==== Sys2Proof/WellFormed.lean ====
section
/-! DEFINITION. Which terms of `Instr` are commands or events that the part can meet. -/

namespace Sys2Proof

/-- An instruction as the part can meet it: table lengths within 1 to 2,048 (check 4 of R175; the part refuses the others),
FORMAT heads parameters of one byte, data fields of 512 bytes, and a declared length of a DATA-OUT frame of at most 512
(a longer one is a header error, R173). -/
def Instr.wf : Instr → Bool
  | .dataOutFrame _ declared _ => decide (declared.toNat ≤ 512)
  | .inboundFrameError frame => !frame.bytes.isEmpty
  | .loadTableMode length => 1 ≤ length.toNat && length.toNat ≤ 2048
  | .loadTableProfile length => 1 ≤ length.toNat && length.toNat ≤ 2048
  | .loadTableZone _ length => 1 ≤ length.toNat && length.toNat ≤ 2048
  | .loadTableDefectList _ length => 1 ≤ length.toNat && length.toNat ≤ 2048
  | .servoSample _ w => decide (w.track.toNat < Config.maxCylinders)
  | .dataFieldRead data _ => data.length == 512
  | .resetAsserted | .endOfReset _ | .powerFailLatch | .linkReset | .linkResetRelease | .ldirChange _ _
  | .outboundFrameSent | .linkTimeout _ | .read _ _ _ | .write _ _ _ | .verify _ _ _ | .seek _ _ | .reassign _ _
  | .format _ _ _ _ _ | .flushRecord _ | .eject _ _ | .prevent _ | .allow _ | .reportCartridge _ | .reportCapacity _
  | .reportDefects _ | .standbyNow _ | .wake _ | .abort _ | .requestSense _ | .peek _ | .readTableMode | .readTableProfile
  | .readTableZone _ | .readTableDefectList _ | .identify | .indexEdge _ _ | .powerOnWatchEnd _ | .firstIndexTimerExpiry _
  | .gapTimerExpiry _ | .spinUpTimerExpiry _ | .recoveryTimerExpiry _ | .brakeTimerExpiry _ | .stopTimerExpiry _
  | .loadTimerExpiry _ | .seekTimerExpiry _ | .recalibrateTimerExpiry _ | .positionerUnloadTimerExpiry _
  | .retractTimerExpiry _ | .parkSensorChange _ _ | .presentAccepted _ | .presentLost _ | .writeProtectChange _ _
  | .lockSenseEngaged _ | .lockSenseOpen _ | .ejectButtonPress _ | .settleTimerExpiry _ | .pulseEnd _
  | .lockConfirmExpiry _ | .releaseConfirmExpiry _ | .idFieldRead _ | .idSearchAttemptEnd | .dataFieldWritten
  | .formatTrackWritten | .visitFieldCountEnd | .idleUnloadTimerExpiry _ | .standbyTimerExpiry _ | .ledFlashToggle _ => true

end Sys2Proof
end

