-- ==== Sys2Proof/Certificates/Slice0/Obligations.lean ====
section
/-! DEFINITION. The statements about the part, each a proposition. "The model's choice" in a docstring marks what rests on a log
entry and not on a rule of the reference. -/

open Sys2Proof Sys2Proof.Machine

/-! ## Steps, time and invariants -/

/-- A step runs the command at the front of the queue on the state with the rest of the queue. -/
def Obligations.StepRunsFrontCommand : Prop :=
  ∀ (c : Instr) (rest : List Instr) (s : State), s.pending = c :: rest → step s = exec c { s with pending := rest }

/-- The model's choice (notes/assumptions/3.md, 59.md, 72.md, 78.md, 106.md, 115.md): with no command waiting a step is one microsecond. But
under RESET, in each bay that is present, the period counter counts up and holds at 65,535 and every running timer
counts down to 0, the idle timers only while they count (R162); where an outbound frame is in progress, the phase of its byte
exchange that the free value gives is taken and stops the link timer, which runs anew for the next phase and counts down while
none comes; where the free values assert LFRM and raise LSTB with a byte, an inbound frame begins while the queue has room for its
two entries, or takes the byte with LACK, but for the first payload byte of a WRITE's frame, which takes the lowest FREE slot or
waits on the lines while the bay's WRITE cannot take one; after a frame that ended before LFRM dropped none begins until LFRM has
been low; where LSTB is low LACK drops; the link timer runs anew for each wait on the host adapter, and is stopped while the byte
waits. Where LFRM is low under a frame in progress nothing more of it is exchanged, and the row with which it arrives, with the bytes
taken so far, is put in the queue (R172); where the exchange of an outbound frame's last byte has ended, OUTBOUND_FRAME_SENT is (R177).
Under RESET too the servo bus goes on (R191): a present bay that raises sample ready on a
free bus, one that waited for the bus before another, has its sample select driven and as many of its five bytes strobed as the free
value gives; a read under way strobes the rest; with the fifth byte the select is released and the row SERVO_SAMPLE with the flags, A,
B and the track id, most significant byte first, is put in the queue, behind a frame's row. The number of the microsecond goes up by one, and nothing
else changes. A frame withheld for room is acknowledged in place of the microsecond once there is room. -/
def Obligations.IdleStepIsOneMicrosecond : Prop :=
  ∀ s : State, s.pending = [] →
    let less (t : Timer) : Timer := t.map (· - 1)
    let aged (x : Bay) : Bay := { x with
      spindle := { x.spindle with
        counter := min 65535 (x.spindle.counter + 1), spinUpTimer := less x.spindle.spinUpTimer
        firstIndexTimer := less x.spindle.firstIndexTimer, gapTimer := less x.spindle.gapTimer
        recoveryTimer := less x.spindle.recoveryTimer, brakeTimer := less x.spindle.brakeTimer
        stopTimer := less x.spindle.stopTimer }
      pos := { x.pos with
        loadTimer := less x.pos.loadTimer, seekTimer := less x.pos.seekTimer, recalTimer := less x.pos.recalTimer
        unloadTimer := less x.pos.unloadTimer, retractTimer := less x.pos.retractTimer }
      cart := { x.cart with
        settleTimer := less x.cart.settleTimer, lockConfirm := less x.cart.lockConfirm
        releaseConfirm := less x.cart.releaseConfirm, pulseTimer := less x.cart.pulseTimer }
      power :=
        if (x.power.mode = .idle ∨ x.power.mode = .parkedIdle) ∧ x.slot = none ∧ x.power.entry = none ∧ x.power.wake = none then
          { x.power with unloadTimer := less x.power.unloadTimer, standbyTimer := less x.power.standbyTimer }
        else x.power }
    let exchanged (l : Link) : Link :=
      match l.outFrame with
      | none => l
      | some f =>
        if 4 + f.payload.length ≤ f.sent then l
        else if Config.hostPhase s.hostTurns = false then { l with timer := less l.timer }
        else if f.strobe = true then { l with outFrame := some { f with strobe := false }, timer := some f.limit }
        else if f.sent + 1 < 4 + f.payload.length then
          { l with outFrame := some { f with sent := f.sent + 1, strobe := true }, timer := some f.limit }
        else { l with outFrame := some { f with sent := f.sent + 1, strobe := false }, timer := none }
    let received : State :=
      match s.link.inFrame, Config.hostFrame s.hostTurns, Config.hostStrobe s.hostTurns with
      | none, false, _ => { s with link := { s.link with spent := false } }
      | none, true, none => s
      | none, true, some x =>
        if s.takesFrame = true ∧ s.link.spent = false then { s with link := { s.link with
          inFrame := some {
            bytes := [x], ack := true, held := none, slot := none, late := [], limit := s.dmt.linkTimeout * 10000, due := none }
          timer := some (s.dmt.linkTimeout * 10000)
          reservations := s.link.reservations + 2 } }
        else s
      | some _, false, _ => s
      | some f, true, strobe =>
        let waits : State := { s with link := { s.link with timer := some ((s.link.timer.getD f.limit) - 1) } }
        let taken (x : LinkByte) (slot : Option Nat) (slots : List SlotRec) : State := { s with
          slots := slots
          link := { s.link with
            inFrame := some { f with bytes := f.bytes ++ [x], ack := true, held := none, slot := slot }, timer := some f.limit } }
        if s.frameUnderWay = false ∨ f.held ≠ none then s
        else
          match strobe, f.ack with
          | some _, true => waits
          | none, false => waits
          | none, true => { s with link := { s.link with inFrame := some { f with ack := false }, timer := some f.limit } }
          | some x, false =>
            match s.firstPayload f with
            | none => taken x f.slot s.slots
            | some (b, c) =>
              if c.wait = .mount ∨ c.wait = .flush ∨ s.mayAllocate b = false then
                { s with link := { s.link with inFrame := some { f with held := some x }, timer := none } }
              else
                taken x (some s.lowestFree)
                  (s.slots.set s.lowestFree (SlotRec.taken b .hostData (some (c.lba + c.received))))
    let arrived : List Instr :=
      match s.link.inFrame, Config.hostFrame s.hostTurns with
      | some f, false =>
        if s.frameUnderWay = true then
          [match frameVerdict f.bytes .short with
            | .command i => i
            | .dataOut target declared payload => .dataOutFrame target (BitVec.ofNat 16 declared) ⟨payload, false⟩
            | .frameError _ => .inboundFrameError ⟨f.bytes, false⟩
            | .answered _ _ _ _ => .inboundFrameError ⟨f.bytes, false⟩]
        else []
      | some _, true => []
      | none, _ => []
    let sent : List Instr :=
      match s.link.outFrame with
      | some f =>
        if s.resetHeld = false ∧ s.powerLoss = false ∧ s.link.lrst = false ∧ (4 + f.payload.length ≤ f.sent ∨
            (Config.hostPhase s.hostTurns = true ∧ f.strobe = false ∧ 4 + f.payload.length ≤ f.sent + 1)) then
          [.outboundFrameSent]
        else []
      | none => []
    let asks (b : BayId) : Bool := s.bayPresent b &&
      (match b with | .bayA => Config.sampleReadyA s.hostTurns | .bayB => Config.sampleReadyB s.hostTurns)
    let first : BayId := s.servo.waiter.getD (if Config.servoAFirst s.hostTurns = true then .bayA else .bayB)
    let strobed (r : ServoRead) (n : Nat) : ServoRead :=
      { r with bytes := r.bytes ++ (((List.range 5).drop r.bytes.length).take n).map (Config.servoData s.hostTurns) }
    let read : Option ServoRead :=
      match s.servo.reading with
      | some r => some (strobed r 5)
      | none =>
        if asks first = true then some (strobed { bay := first, bytes := [] } (Config.servoPace s.hostTurns))
        else if asks (otherBay first) = true then
          some (strobed { bay := otherBay first, bytes := [] } (Config.servoPace s.hostTurns))
        else none
    let bus : ServoBus :=
      match read with
      | some r => {
          reading := if 5 ≤ r.bytes.length then none else some r
          waiter := if asks (otherBay r.bay) = true then some (otherBay r.bay) else none }
      | none => { reading := none, waiter := none }
    let sampled : List Instr :=
      match read with
      | some r =>
        if 5 ≤ r.bytes.length then
          [.servoSample r.bay {
            sync := Config.servoSyncFlag (r.bytes.getD 0 0)
            indexFlag := Config.servoIndexFlag (r.bytes.getD 0 0)
            ampA := r.bytes.getD 1 0
            ampB := r.bytes.getD 2 0
            track := BitVec.ofNat 16 ((r.bytes.getD 3 0).toNat * 256 + (r.bytes.getD 4 0).toNat) }]
        else []
      | none => []
    let freed : State := { s with link := { s.link with withheld := none } }
    let counted : State :=
      if s.resetHeld = true then s
      else { received with
        bayA := aged s.bayA
        bayB := if s.twoBays = true then aged s.bayB else s.bayB
        link := exchanged received.link }
    let passed : State := { counted with servo := bus, hostTurns := s.hostTurns + 1, pending := arrived ++ sent ++ sampled }
    (s.link.withheld = none ∨ freed.takesFrame = false → step s = .next passed) ∧
    (∀ i, s.link.withheld = some i → freed.takesFrame = true → step s = exec i freed)

/-- Every step keeps an event that is over: no message is left, and in a running part the readiness class of each bay is that of
its power mode, no DATA-IN descriptor waits while 15 or fewer entries are taken, and LSRQ is deasserted while LDIR is at IN. That
the messages of an event are all delivered within it is the model's choice (notes/assumptions/22.md). -/
def Obligations.StepEndsItsEvent : Prop := ∀ s t : State, s.eventOver → step s = .next t → t.eventOver

/-- Every step keeps the spin-up allowance and the spindles in agreement: at most one spindle is in ACCELERATING, and that
spindle's bay is the holder. -/
def Obligations.StepKeepsAllowance : Prop := ∀ s t : State, s.allowanceKept → step s = .next t → t.allowanceKept

/-- Every step keeps what the power-fail latch leaves: until a RESET, a latched part has no command, no traffic and no visit,
its write gate is closed, and its spindles coast without drive. Of the commands and events END_OF_RESET alone clears the latch,
and a step with no command waiting leaves it. -/
def Obligations.StepKeepsPowerDown : Prop :=
  (∀ s t : State, s.poweredDown → step s = .next t → t.poweredDown) ∧
  (∀ (i : Instr) (s t : State), (∀ pins, i ≠ .endOfReset pins) → s.powerLoss = true → exec i s = .next t →
    t.powerLoss = true) ∧
  (∀ s t : State, s.pending = [] → s.powerLoss = true → s.link.withheld = none → step s = .next t → t.powerLoss = true)

/-- Every step keeps the write gate closed outside the data fields and format tracks of the holder's visit. -/
def Obligations.StepKeepsChannel : Prop := ∀ s t : State, s.channelKept → step s = .next t → t.channelKept

/-- Every step keeps the twelve slots of the Sector Buffer and the quota: neither bay comes to hold more than six. -/
def Obligations.StepKeepsTheSlotQuota : Prop :=
  (∀ s t : State, s.twelveSlots → step s = .next t → t.twelveSlots) ∧
  (∀ s t : State, s.twelveSlots → s.quotaKept → step s = .next t → t.quotaKept)

/-- Every step keeps the heads over turning platters: with no message left, the spin-up allowance in agreement with the spindles
and the latch total, each bay whose heads are in a loaded state has a spindle AT_SPEED with no purge remaining and a lock sense
that reads engaged. -/
def Obligations.StepKeepsHeadsFlying : Prop :=
  ∀ s t : State, s.signals = [] → s.allowanceKept → s.poweredDown → s.headsFly → step s = .next t → t.headsFly

/-- Every step keeps the reservation count and the room of the outbound queue: the reservations are one for each command in a
slot that still owes a STATUS and two for an inbound frame in progress, and with the descriptors they never total more than 16. -/
def Obligations.StepKeepsTheQueueRoom : Prop :=
  ∀ s t : State, s.signals = [] → s.poweredDown → s.queueKept → step s = .next t → t.queueKept

/-- The state after reset has every invariant of a run. -/
def Obligations.ResetHasTheInvariants : Prop :=
  State.reset.eventOver ∧ State.reset.allowanceKept ∧ State.reset.poweredDown ∧ State.reset.channelKept ∧
    State.reset.twelveSlots ∧ State.reset.quotaKept ∧ State.reset.headsFly ∧ State.reset.queueKept

/-- After reset each block holds the power-on values that the tables of the chapters state: the items of the Spindle Controller,
the Positioner with its drives released, the Cartridge Handler, the Translation Unit, Bay Power Control and the Status Block of
each bay; the buffer slots, the Data Channel with its select outputs, the drive mode table, the four built-in profile rows, the
staging area, the Link Interface and the command slots; the allowance and the power-fail latch. -/
def Obligations.ResetHoldsPowerOnValues : Prop :=
  (∀ b,
    let x := (State.reset.bay b).spindle
    x.state = .stopped ∧ x.counter = 65535 ∧ x.period = 65535 ∧ x.deviation = 2276 ∧ x.deviation = deviationOf x.period ∧
    x.drive = 0 ∧ x.inRun = 0 ∧ x.outRun = 0 ∧ x.revolutionOpen = false ∧ x.purgeRemaining = 0 ∧ x.purgeKind = .insertion ∧
    x.pendingStart = none ∧ x.stopWaiting = false ∧ x.spinUpTimer = none ∧ x.firstIndexTimer = none ∧
    x.gapTimer = some 250000 ∧ x.recoveryTimer = none ∧ x.brakeTimer = none ∧ x.stopTimer = none ∧ x.failure = .none ∧
    x.firstAtSpeed = false ∧ x.watchOpen = true) ∧
  (∀ b,
    let x := (State.reset.bay b).pos
    x.current = 0 ∧ x.target = none ∧ x.head = 0 ∧ x.returnCyl = 1 ∧ x.gain = 1 ∧ x.bias = 0 ∧ x.calibrated = false ∧
    x.last = none ∧ x.row = none ∧ x.settleCount = 0 ∧ x.wrongRun = 0 ∧ x.invalidRun = 0 ∧ x.onTrack = false ∧
    x.loadAttempts = 0 ∧ x.retryUsed = false ∧ x.reloadUsed = false ∧ x.heldSeek = none ∧ x.loadTimer = none ∧
    x.seekTimer = none ∧ x.recalTimer = none ∧ x.unloadTimer = none ∧ x.retractTimer = none ∧ x.fault = .none ∧
    x.lastCause = .none ∧ x.pendingFault = none ∧ x.unloadTimedOut = false ∧ x.writeThreshold = 40 ∧
    x.calibration = { biasPhase := false, gathered := 0, fields := 0, sum := 0 } ∧ x.driveMag = 0) ∧
  (∀ b,
    let x := (State.reset.bay b).cart
    x.preventRemoval = false ∧ x.unitChanged = false ∧ x.mountDetail = .none ∧ x.fault = .none ∧ x.eject = none ∧
    x.lockAttempts = 0 ∧ x.settleTimer = none ∧ x.lockConfirm = none ∧ x.releaseConfirm = none ∧ x.lockPulse = false ∧
    x.releasePulse = false) ∧
  (∀ b,
    let x := State.reset.bay b
    x.tu.tables = none ∧ x.tu.capacity = 0 ∧ x.tu.dirty = false ∧ x.tu.stagedZone = none ∧ x.tu.stagedList = none ∧
    x.power = { mode := .unmounted, unloadTimer := none, standbyTimer := none, readiness := .unavailable, entry := none,
                wake := none } ∧
    x.sense = { completion := none, detail := .none, command := 0, lba := none, addr := none, count := 0, recovered := 0 } ∧
    (∀ k, x.attn.get k = { raised := false, payload := 0 }) ∧
    x.slot = none ∧ x.format = none) ∧
  State.reset.slots = List.replicate 12 SlotRec.free ∧
  SlotRec.free = { owner := none, state := .free, purpose := none, lba := none, ecc := none, data := [] } ∧
  State.reset.chan.gate = false ∧ State.reset.chan.holder = none ∧ State.reset.chan.waiter = none ∧
  State.reset.chan.visit = none ∧ State.reset.chan.decoder = none ∧ State.reset.chan.baySelect = .bayA ∧
  State.reset.chan.headSelect = 0 ∧
  State.reset.dmt = {
    maskA := 0, maskB := 0, unloadTimer := 30, standbyTimer := 10, insertionPurge := 150, resumePurge := 25, readRetries := 8
    writeRetries := 4, correctionSpan := 11, reportThreshold := 4, autoReassign := 0, writeThreshold := 40, buttonFilter := 30
    linkTimeout := 50 } ∧
  State.reset.profile = [
    { bound := 4, velocity := 3, settleCount := 3, window := 24, timeout := 15 },
    { bound := 64, velocity := 7, settleCount := 4, window := 20, timeout := 30 },
    { bound := 512, velocity := 12, settleCount := 5, window := 16, timeout := 60 },
    { bound := 2047, velocity := 15, settleCount := 6, window := 16, timeout := 100 }] ∧
  State.reset.staging = none ∧ State.reset.link.inFrame = none ∧ State.reset.link.outFrame = none ∧
  State.reset.link.queue = [] ∧ State.reset.link.reservations = 0 ∧ State.reset.link.timer = none ∧ State.reset.lsrq = false ∧
  State.reset.deviceSlot = none ∧ State.reset.powerLoss = false ∧ State.reset.allowHolder = none ∧
  State.reset.allowWaiter = none

/-! ## RESET and the power-fail latch -/

/-- RESET_ASSERTED from every state: the outputs take the levels held under RESET, the frames in progress are gone, and every
register keeps its value. Two clauses are the model's choice: that the registers keep their values until RESET ends
(notes/assumptions/29.md), and that the retract output of each bay is driven also for a bay that the strap makes absent
(notes/assumptions/100.md). -/
def Obligations.ResetAssertedHoldsTheOutputs : Prop :=
  ∀ s : State, ∃ t, exec .resetAsserted s = .next t ∧ t.resetHeld = true ∧
    (∀ b, t.retractDriven b = true ∧ (t.bay b).pos.driveMag = 0 ∧ t.driveLevel b = 0 ∧ t.brakeOn b = false ∧
      (t.bay b).cart.lockPulse = false ∧ (t.bay b).cart.releasePulse = false ∧ t.activityLed b = false) ∧
    t.chan.gate = false ∧ t.chan.baySelect = .bayA ∧ t.chan.headSelect = 0 ∧ t.link.outFrame = none ∧ t.lsrq = false ∧
    (∀ b, (t.bay b).spindle = (s.bay b).spindle ∧ (t.bay b).tu = (s.bay b).tu ∧ (t.bay b).power = (s.bay b).power ∧
      (t.bay b).slot = (s.bay b).slot ∧ (t.bay b).job = (s.bay b).job ∧ (t.bay b).sense = (s.bay b).sense ∧
      (t.bay b).attn = (s.bay b).attn ∧ (t.bay b).cart.state = (s.bay b).cart.state ∧
      (t.bay b).pos = { (s.bay b).pos with driveMag := 0 }) ∧
    t.slots = s.slots ∧ t.dmt = s.dmt ∧ t.profile = s.profile ∧ t.staging = s.staging ∧ t.deviceSlot = s.deviceSlot ∧
    t.powerLoss = s.powerLoss ∧ t.allowHolder = s.allowHolder ∧ t.allowWaiter = s.allowWaiter ∧
    t.link.queue = s.link.queue ∧ t.pending = s.pending ∧
    (let quiet (x : Bay) : Bay := { x with
       pos := { x.pos with driveMag := 0 }
       cart := { x.cart with lockPulse := false, releasePulse := false, pulseTimer := none } }
     t = { s with
       resetHeld := true
       signals := []
       bayA := quiet s.bayA
       bayB := quiet s.bayB
       chan := { s.chan with gate := false, baySelect := .bayA, headSelect := 0 }
       link := { s.link with inFrame := none, withheld := none, outFrame := none } })

/-- END_OF_RESET with RESET held and LDIR sampled at OUT, POWER_FAIL not active: the straps are held, every block has its
power-on values, and each present bay starts from its levels: EMPTY, SEATED with the settle timer, or LOCKING in the start-up
wait, an INSERTED attention for a cartridge found present, and heads PARKED or RETRACTING. That no servo sample is being read is the
model's choice (notes/assumptions/106.md). -/
def Obligations.EndOfResetStartsEachBay : Prop :=
  ∀ (pins : Pins) (s : State), s.resetHeld = true → pins.powerFail = false → pins.ldir = .hostSends →
    ∃ t, exec (.endOfReset pins) s = .next t ∧ t.resetHeld = false ∧ t.powerLoss = false ∧ t.twoBays = pins.twoBays ∧
      t.autospinHigh = pins.autospinHigh ∧ t.link = { Link.reset with lrst := pins.lrst } ∧ t.dmt = Dmt.reset ∧
      t.profile = builtInProfile ∧ t.staging = none ∧ t.slots = List.replicate 12 SlotRec.free ∧ t.chan = Channel.reset ∧
      t.deviceSlot = none ∧ t.allowHolder = none ∧ t.allowWaiter = none ∧ t.signals = [] ∧ t.pending = s.pending ∧
      t.servo = { reading := none, waiter := none } ∧
      (∀ b, t.bayPresent b = true → ∀ p : BayPins, p = (match b with | .bayA => pins.bayA | .bayB => pins.bayB) →
        (t.bay b).spindle = Spindle.reset ∧ (t.bay b).tu = Translation.reset ∧ (t.bay b).power = Power.reset ∧
        (t.bay b).sense = Sense.reset ∧ (t.bay b).slot = none ∧ (t.bay b).job = none ∧ (t.bay b).format = none ∧
        (t.bay b).cart.state = (if p.cartridgeIn then (if p.lockEngaged then .locking else .seated) else .empty) ∧
        (t.bay b).cart.settleTimer = (if p.cartridgeIn && !p.lockEngaged then some 500000 else none) ∧
        (t.bay b).cart.startupWait = (p.cartridgeIn && p.lockEngaged) ∧
        (t.bay b).cart.startupRelease = (!p.cartridgeIn && p.lockEngaged) ∧
        (t.bay b).cart.wpProtected = p.wpProtected ∧ (t.bay b).cart.lockEngaged = p.lockEngaged ∧
        (t.bay b).cart.preventRemoval = false ∧ (t.bay b).cart.unitChanged = false ∧ (t.bay b).cart.eject = none ∧
        (t.bay b).attn.inserted.raised = p.cartridgeIn ∧
        (t.bay b).attn.inserted.payload = (if p.cartridgeIn && p.wpProtected then 1 else 0) ∧
        (t.bay b).pos.state = (if p.headsParked then .parked else .retracting) ∧
        (t.bay b).pos.retractTimer = (if p.headsParked then none else some 500000)) ∧
      (pins.twoBays = false → t.bayB = Bay.reset)

/-- POWER_FAIL_LATCH in a running part: the device is in POWER_LOSS; the queue, the frames, the reservations and the commands
are gone, the gate is closed, the arbiters are free; each present bay's spindle coasts without drive or timers, and its heads
stay PARKED or in ACT_FAULT, or retract. Buffer slots, tables, the servo bus, the readiness class and the power mode are kept. Two clauses are the
model's choice: heads whose park sensor reads parked are PARKED at once (notes/assumptions/43.md), and the staging area and the
contexts of a command keep what they hold (notes/assumptions/52.md). -/
def Obligations.PowerFailLatchStopsEveryBlock : Prop :=
  ∀ s : State, s.running →
    ∃ t, exec .powerFailLatch s = .next t ∧ t.powerLoss = true ∧ t.resetHeld = false ∧ t.deviceSlot = none ∧
      t.link = { s.link with
        inFrame := none, withheld := none, outFrame := none, queue := [], offered := [], reservations := 0, timer := none } ∧
      t.lsrq = false ∧ t.chan = { s.chan with holder := none, waiter := none, visit := none, gate := false } ∧
      t.allowHolder = none ∧ t.allowWaiter = none ∧ t.slots = s.slots ∧ t.dmt = s.dmt ∧ t.profile = s.profile ∧
      t.staging = s.staging ∧ t.pending = s.pending ∧ t.servo = s.servo ∧
      ∀ b, s.bayPresent b = true →
        (t.bay b).spindle = { (s.bay b).spindle with
          state := .coasting, drive := 0, spinUpTimer := none, firstIndexTimer := none, gapTimer := none,
          recoveryTimer := none, brakeTimer := none, stopTimer := none, watchOpen := false, pendingStart := none,
          stopWaiting := false } ∧
        (t.bay b).pos.state = (match (s.bay b).pos.state with
          | .parked => .parked
          | .actFault => .actFault
          | _ => if (s.bay b).pos.parked then .parked else .retracting) ∧
        ((s.bay b).pos.state = .retracting → (s.bay b).pos.parked = false →
          (t.bay b).pos.retractTimer = some ((s.bay b).pos.retractTimer.getD 500000)) ∧
        (t.bay b).slot = none ∧ (t.bay b).job = none ∧ (t.bay b).cart.lockPulse = false ∧
        (t.bay b).cart.releasePulse = false ∧ (t.bay b).cart.state = (s.bay b).cart.state ∧
        (t.bay b).cart.lockEngaged = (s.bay b).cart.lockEngaged ∧
        (t.bay b).power = { (s.bay b).power with unloadTimer := none, standbyTimer := none } ∧
        (t.bay b).tu = (s.bay b).tu ∧ (t.bay b).sense = (s.bay b).sense ∧ (t.bay b).attn = (s.bay b).attn ∧
        (t.bay b).format = (s.bay b).format

/-! ## The drive link -/

/-- LINK_RESET between events, with LRST not asserted before and the three command slots free: frames, queue, reservations and
link timer are dropped; each present bay's attentions and sense record are cleared, prevent-removal is cleared, unit-changed is
set for a MOUNTED or UNFORMATTED bay, and both idle timers restart from the DMT, those of a bay UNMOUNTED or in STANDBY too, as the
model deduces it (notes/assumptions/53.md). The rest of a frame in progress begins no frame (R172; notes/assumptions/78.md). The
DMT, tables, slots, spindles and heads stay as they were, but for a slot that a frame in progress was filling, which is FREE; the
bay of that slot rests here. LINK_RESET_RELEASE between events: LRST is no longer asserted and, with nothing to send or LDIR at OUT,
nothing else changes. -/
def Obligations.LinkResetClearsTheLink : Prop :=
  (∀ s : State, s.running → s.settled → s.link.ldir = .hostSends ∨ (s.link.queue = [] ∧ s.nextAttention = none) →
    exec .linkResetRelease s = .next { s with link := { s.link with lrst := false } }) ∧
  ∀ s : State, s.running → s.settled → s.link.lrst = false → s.deviceSlot = none → s.bayA.slot = none → s.bayB.slot = none →
    (∀ f k, s.link.inFrame = some f → f.slot = some k → (s.slotRec k).state = .filling ∧ (s.slotRec k).purpose = some .hostData ∧
      ∃ b, (s.slotRec k).owner = some b ∧
        ({ s with link := { s.link with inFrame := none, withheld := none } } : State).bayRests b = true) →
    ∃ t, exec .linkReset s = .next t ∧
      t.link = { s.link with
        lrst := true, inFrame := none, spent := s.link.spent || s.link.inFrame.isSome, withheld := none, outFrame := none, queue := []
        offered := [], reservations := 0, timer := none } ∧
      t.lsrq = false ∧ t.dmt = s.dmt ∧ t.profile = s.profile ∧ t.staging = s.staging ∧ t.chan = s.chan ∧
      t.slots = (match s.link.inFrame.bind fun f => f.slot with
        | some k => s.slots.set k SlotRec.free
        | none => s.slots) ∧
      t.deviceSlot = none ∧ t.allowHolder = s.allowHolder ∧ t.allowWaiter = s.allowWaiter ∧ t.pending = s.pending ∧
      ∀ b, s.bayPresent b = true →
        t.bay b = { (s.bay b) with
          sense := Sense.reset
          attn := {
            inserted := { (s.bay b).attn.inserted with raised := false }
            removed := { (s.bay b).attn.removed with raised := false }
            ejectRequest := { (s.bay b).attn.ejectRequest with raised := false }
            readiness := { (s.bay b).attn.readiness with raised := false }
            recordDiscarded := { (s.bay b).attn.recordDiscarded with raised := false }
            bayFault := { (s.bay b).attn.bayFault with raised := false } }
          cart := { (s.bay b).cart with
            preventRemoval := false
            unitChanged := (s.bay b).cart.unitChanged || (s.bay b).cart.state == .mounted ||
              (s.bay b).cart.state == .unformatted }
          power := { (s.bay b).power with
            unloadTimer := if s.dmt.unloadTimer = 0 then none else some (s.dmt.unloadTimer * 1000000)
            standbyTimer := if s.dmt.standbyTimer = 0 then none else some (s.dmt.standbyTimer * 60000000) } }

/-- LDIR_CHANGE to IN with no inbound frame in progress: the part begins the frame of the descriptor at the head of its queue, a
STATUS, a report's frame or a buffer slot's, whose slot is DRAINING from then on, or otherwise that of the lowest unmasked
attention, whose flag is cleared with it; with neither it sends nothing. Its first byte is placed with LSTB raised, and the link
timer is loaded from the DMT. LDIR_CHANGE to OUT with no frame going out changes the level alone. -/
def Obligations.LdirChangeBeginsTheNextFrame : Prop :=
  (∀ s : State, s.running → s.settled → s.link.lrst = false → s.link.ldir = .hostSends → s.link.inFrame = none →
    s.link.withheld = none → s.link.outFrame = none →
    let begun (kind : OutKind) (target : BayField) (payload : List Byte) (slot : Option Nat) (owned : Bool)
        (queue : List Desc) : State :=
      { s with link := { s.link with
        ldir := .partSends
        queue := queue
        outFrame := some { kind, target, payload, slot, owned, sent := 0, strobe := true, limit := s.dmt.linkTimeout * 10000 }
        timer := some (s.dmt.linkTimeout * 10000) } }
    let turned : Host.Outcome State Fault Refusal := exec (.ldirChange .partSends .absent) s
    (∀ target c d n code rest, s.link.queue = .status target c d n code :: rest →
      turned = .next (begun .status target (statusPayload c d n code) none false rest)) ∧
    (∀ target source owned rest, s.link.queue = .report target source owned :: rest →
      turned = .next (begun .dataIn target (s.reportPayload target source) none owned rest)) ∧
    (∀ b k rest, s.link.queue = .slotData b k :: rest →
      turned = .next { begun .dataIn (.bay b) (s.slotRec k).data (some k) true rest with
        slots := s.slots.set k { (s.slotRec k) with state := .draining } }) ∧
    (∀ b k, s.link.queue = [] → s.nextAttention = some (b, k) →
      turned = .next ((begun .attention (.bay b) [BitVec.ofNat 8 (k.rank + 1), ((s.bay b).attn.get k).payload] none false
        []).modBay b fun x => { x with attn := x.attn.set k { raised := false, payload := ((s.bay b).attn.get k).payload } })) ∧
    (s.link.queue = [] → s.nextAttention = none →
      turned = .next { s with link := { s.link with ldir := .partSends } })) ∧
  (∀ s : State, s.running → s.settled → s.link.ldir = .partSends → s.link.outFrame = none →
    ∀ inbound, exec (.ldirChange .hostSends inbound) s = .next { s with link := { s.link with ldir := .hostSends } })

/-- Every command of the host adapter has its COMMAND frame, and the frame's bytes, each with its odd parity, are read back as that
command: with every operand at every value that a frame can carry. The command is taken where a frame may begin, and as the end of
a frame in progress, whose two entries it gives back first (notes/assumptions/78.md). What is left of a frame that ended before LFRM
dropped makes no difference to a row that brings a whole frame, of a command, of data or in error, for which LFRM has risen anew
(R172; notes/assumptions/78.md). No event is carried by a frame. -/
def Obligations.CommandFramesReadBack : Prop :=
  (∀ (i : Instr) (target : BayField) (payload : List Byte), i.wf = true → commandFrame i = some (target, payload) →
    payload.length ≤ 5 ∧
      frameVerdict ((frameHeader 0x01 target payload.length ++ payload).map linkByte) .short = .command i ∧
      ∀ s : State, (s.takesFrame = true →
          exec i s = (({ s with link := { s.link with spent := false } } : State).hostCommand i).conclude) ∧
        (s.frameUnderWay = true →
          exec i s = ((({ s with link := { s.link with
            reservations := s.link.reservations - 2 } } : State).hostCommand i).inboundEnds false).conclude)) ∧
  (∀ (i : Instr) (s : State), s.takesFrame = true →
    (commandFrame i).isSome = true ∨ (∃ frame, i = .inboundFrameError frame ∧ frameInError frame = true) ∨
      (∃ target declared payload, i = .dataOutFrame target declared payload) →
    exec i s = exec i { s with link := { s.link with spent := false } }) ∧
  (∀ (bytes : List LinkByte) (ended : Detail) (i : Instr), frameVerdict bytes ended = .command i →
    (commandFrame i).isSome = true)

/-- INBOUND_FRAME_ERROR. With a parity error in the header, a kind that is not COMMAND or DATA-OUT, a bay field of no bay, a
declared length above 512, or LFRM dropped within the header: a STATUS for DEVICE, FRAME_ERROR, is queued with its detail. A COMMAND
frame with a good header whose payload has a parity error, ends before its declared length or runs beyond it is answered by a
STATUS for its bay field, LINK_ERROR with detail PARITY, SHORT or OVER; one that fails a check of R175 by ILLEGAL_REQUEST. In each
case no command is accepted, and nothing else changes. Three clauses are the model's choice: the order in which the errors are
tested (notes/assumptions/21.md), the code byte of the STATUS, as it was received (notes/assumptions/42.md), and that a frame
without a link error is answered ILLEGAL_REQUEST as this event (notes/assumptions/28.md). -/
def Obligations.FramesInErrorAreAnswered : Prop :=
  ∀ (bytes : List LinkByte) (late : Bool) (s : State), s.hears →
    let header := (bytes.take 4).map linkData
    let payload := bytes.drop 4
    let code := (payload.map linkData).getD 0 0
    let arrived : Host.Outcome State Fault Refusal := exec (.inboundFrameError { bytes, late }) s
    let answer (target : BayField) (c : Completion) (d : Detail) (code : Byte) : Host.Outcome State Fault Refusal :=
      .next { s with link := { s.link with queue := s.link.queue ++ [.status target c d 0 code] } }
    (bytes.length < 4 → arrived = answer .device .frameError .short 0) ∧
    (4 ≤ bytes.length → (∃ x ∈ bytes.take 4, linkParityOk x = false) → arrived = answer .device .frameError .parity 0) ∧
    (4 ≤ bytes.length → (∀ x ∈ bytes.take 4, linkParityOk x = true) →
      ((field header 0 1 ≠ 1 ∧ field header 0 1 ≠ 2) ∨ BayField.ofByte (header.getD 1 0) = none ∨ 512 < field header 2 2) →
      arrived = answer .device .frameError .header 0) ∧
    (∀ target, 4 ≤ bytes.length → (∀ x ∈ bytes.take 4, linkParityOk x = true) → field header 0 1 = 1 →
      BayField.ofByte (header.getD 1 0) = some target → field header 2 2 ≤ 512 →
      ((∃ x ∈ payload, linkParityOk x = false) → arrived = answer target .linkError .parity code) ∧
      ((∀ x ∈ payload, linkParityOk x = true) →
        (payload.length < field header 2 2 → arrived = answer target .linkError .short code) ∧
        (field header 2 2 < payload.length → arrived = answer target .linkError .over code) ∧
        (payload.length = field header 2 2 → commandAccepted target (payload.map linkData) = false →
          arrived = answer target .illegalRequest .none code)))

/-- DATA_OUT_FRAME that no command expects, whatever its payload: a STATUS for its bay field, UNEXPECTED_DATA, is queued, and
nothing else changes. Expected it is only by a WRITE that has not received its count of frames, or by a LOAD TABLE whose image
is not complete. A frame whose first byte was taken before its WRITE ended is discarded without report. -/
def Obligations.UnexpectedDataIsAnswered : Prop :=
  ∀ (target : BayField) (declared : BitVec 16) (payload : List LinkByte) (s : State), s.hears →
    ((∀ x, s.staging = some x → x.target = target → x.declared ≤ x.bytes.length) →
      (∀ b c, target = .bay b → (s.bay b).slot = some c → c.op = .write → c.count ≤ c.received ∨ c.result.isSome = true) →
      exec (.dataOutFrame target declared ⟨payload, false⟩) s =
        .next { s with link := { s.link with queue := s.link.queue ++ [.status target .unexpectedData .none 0 0] } }) ∧
    exec (.dataOutFrame target declared ⟨payload, true⟩) s = .next s

/-- DATA_OUT_FRAME of a LOAD TABLE aimed at DEVICE or at a bay, not being stopped, of the length the image asks for and without error, that does not
complete the image: its bytes join the staged image, and nothing else changes. DATA_OUT_FRAME of a WRITE that has not received
its count of frames, of 512 bytes and without error, while its bay may take a slot and the WRITE waits for no mount and no flush:
the lowest FREE slot is FULL of the frame's data with purpose host data and the tag of the next expected LBA, the WRITE counts
the frame, and nothing else changes, here with the WRITE's heads still on their way. While the bay is at its quota, or the WRITE
waits, the frame is held back at its first payload byte, with two entries reserved and the link timer stopped. -/
def Obligations.DataFramesGoToTheirCommand : Prop :=
  (∀ (x : Staging) (declared : BitVec 16) (payload : List LinkByte) (s : State), s.hears → s.staging = some x →
    (∀ b, x.target = .bay b → ∃ c, (s.bay b).slot = some c ∧ c.op = .loadTable x.id ∧ c.stop = none) →
    512 < x.declared - x.bytes.length → declared.toNat = 512 → payload.length = 512 →
    (∀ y ∈ payload, linkParityOk y = true) →
    exec (.dataOutFrame x.target declared ⟨payload, false⟩) s =
      .next { s with staging := some { x with bytes := x.bytes ++ payload.map linkData } }) ∧
  (∀ (b : BayId) (c : Cmd) (declared : BitVec 16) (payload : List LinkByte) (s : State), s.hears →
    (s.bay b).slot = some c → c.op = .write → c.received < c.count → c.result = none → declared.toNat = 512 →
    payload.length = 512 →
    (c.wait ≠ .mount → c.wait ≠ .flush → s.mayAllocate b = true → s.bayRests b = true → (∀ y ∈ payload, linkParityOk y = true) →
      exec (.dataOutFrame (.bay b) declared ⟨payload, false⟩) s =
        .next ({ s with slots := s.slots.set s.lowestFree { SlotRec.taken b .hostData (some (c.lba + c.received)) with
          state := .full, data := payload.map linkData } }.modBay b fun y =>
            { y with slot := some { c with received := c.received + 1 } })) ∧
    (c.wait = .mount ∨ c.wait = .flush ∨ 6 ≤ s.heldSlots b →
      exec (.dataOutFrame (.bay b) declared ⟨payload, false⟩) s =
        .next { s with link := { s.link with
          inFrame := some {
            bytes := [0x002, if b = .bayA then 0x10A else 0x00B, 0x002, 0x100]
            ack := false, held := none, slot := none, late := [], limit := s.dmt.linkTimeout * 10000
            due := some { bay := b, declared := 512, payload } }
          timer := none
          reservations := s.link.reservations + 2 } }))

/-- DATA_OUT_FRAME that completes an image. A MODE image of 16 bytes with a good CRC installs its values, each clamped into its
range, and completes GOOD, with detail CLAMPED where clamping changed a field. A PROFILE image of 75 bytes whose CRC and structure
are good installs its rows. A ZONE image of 99 bytes, and a DEFECT_LIST image of 1,028 bytes with its last frame, become the bay's
staged table, here in a bay that is not ACTIVE. An image of another length, with a CRC that does not agree, or with a structure
that fails is rejected, in this order, TABLE_REJECTED with detail LENGTH, CRC or STRUCTURE, and nothing is installed or staged.
A LOAD TABLE of a bay that is being stopped installs and stages nothing, and ends ABORTED with this frame (R146). So does one that a
press of the eject button stops in MOUNTED while a frame of its image, the last or not, is in progress, as a row ends that frame: here
in an ACTIVE bay with a clean record, which then unloads its heads for the eject (R99, R102); the frame is over and its two entries
are given back. That a frame whose header has not come whole is waited for too is the model's choice (notes/assumptions/90.md), and so
is what a row does to a frame in progress (notes/assumptions/78.md). In each case the command's slot and the staging area are free,
and in all but that one no command waits on a wake under way. Three more points are the
model's: the idle timers of the bay restart in a bay UNMOUNTED or in STANDBY too (notes/assumptions/53.md), the auto-reassign byte
is kept as it was loaded (notes/assumptions/16.md), and bits that R181 does not name are passed over without CLAMPED
(notes/assumptions/57.md). -/
def Obligations.CompleteImagesAreInstalledOrRejected : Prop :=
  (∀ (b : BayId) (x : Staging) (c : Cmd) (f : InFrame) (e : Eject) (at_ : Track) (declared : BitVec 16) (payload : List LinkByte)
    (s : State), s.settled → s.bayPresent b = true →
    s.frameUnderWay = true → s.link.inFrame = some f → f.slot = none → f.late.contains b = false →
    s.staging = some x → x.target = .bay b → x.bytes.length < x.declared →
    (s.bay b).slot = some c → c.op = .loadTable x.id → c.stop.isSome = true → c.silent = false → c.result = none →
    (s.bay (otherBay b)).stoppedLoad = false → s.link.outFrame = none → (∀ d ∈ s.link.queue, d.isReportOf (.bay b) = false) →
    (s.bay b).job = none → (s.bay b).flush = none → (s.bay b).reassign = none → (s.bay b).format = none →
    (s.bay b).cart.state = .mounted → (s.bay b).cart.eject = some e → e.phase = .waitStop → (s.bay b).tu.dirty = false →
    (s.bay b).power.mode = .active → (s.bay b).power.entry = none → (s.bay b).power.wake = none →
    (s.bay b).spindle.state = .atSpeed → (s.bay b).pos.state = .following → (s.bay b).pos.target = some at_ →
    (s.bay b).pos.parked = false → (s.bay b).pos.loadOpen = false → (s.bay b).pos.seekFor = .nobody →
    (s.bay b).pos.heldSeek = none → s.visiting b = false → s.chan.waiter ≠ some b →
    declared.toNat = payload.length → payload.length = min 512 (x.declared - x.bytes.length) →
    (∀ y ∈ payload, linkParityOk y = true) →
    exec (.dataOutFrame (.bay b) declared ⟨payload, false⟩) s =
      .next ({ s with
        staging := none
        link := { s.link with
          queue := s.link.queue ++ [Desc.status (.bay b) .aborted .none c.done 0x40]
          reservations := s.link.reservations - 3, inFrame := none, timer := none, spent := false } }.modBay b fun y => { y with
        slot := none
        sense := { y.sense with
          completion := some .aborted, detail := .none, command := 0x40, lba := none, addr := none, count := c.done }
        cart := { y.cart with state := .unmounting, startupWait := false, eject := some { e with phase := .unload } }
        power := { y.power with mode := .unmounted, unloadTimer := none, standbyTimer := none, readiness := .unavailable }
        attn := { y.attn with readiness := { raised := true, payload := 3 } }
        pos := y.pos.unloadStarted })) ∧
  ∀ (x : Staging) (c : Cmd) (declared : BitVec 16) (payload : List LinkByte) (s : State), s.hears → s.staging = some x →
    c.op = .loadTable x.id → c.silent = false → s.link.outFrame = none →
    (∀ d ∈ s.link.queue, d.isReportOf x.target = false) →
    payload ≠ [] → payload.length ≤ 512 → declared.toNat = payload.length →
    x.declared = x.bytes.length + payload.length → (∀ y ∈ payload, linkParityOk y = true) →
    let image := x.bytes ++ payload.map linkData
    let byte (n : Nat) : Nat := (image.getD n 0).toNat
    let sound : Prop := crc16 (image.take (x.declared - 2)) = field image (x.declared - 2) 2
    let arrived : Host.Outcome State Fault Refusal := exec (.dataOutFrame x.target declared ⟨payload, false⟩) s
    (x.target = .device → s.deviceSlot = some c →
      let ended (u : State) (r : Completion) (d : Detail) : Host.Outcome State Fault Refusal :=
        .next { u with
          staging := none
          deviceSlot := none
          link := { s.link with
            queue := s.link.queue ++ [Desc.status .device r d 0 0x40]
            reservations := s.link.reservations - 1 } }
      (x.id = .mode → x.declared = 16 → sound →
        let installed : Dmt := {
          maskA := (image.getD 1 0).truncate 6, maskB := (image.getD 0 0).truncate 6, unloadTimer := byte 2, standbyTimer := byte 3
          insertionPurge := max 50 (byte 4), resumePurge := byte 5, readRetries := min 15 (byte 6)
          writeRetries := min 15 (byte 7), correctionSpan := min 11 (byte 8), reportThreshold := min 11 (max 1 (byte 9))
          autoReassign := image.getD 10 0, writeThreshold := min 128 (max 8 (byte 11)), buttonFilter := min 80 (max 10 (byte 12))
          linkTimeout := max 1 (byte 13) }
        let changed : Prop := byte 4 < 50 ∨ 15 < byte 6 ∨ 15 < byte 7 ∨ 11 < byte 8 ∨ byte 9 = 0 ∨ 11 < byte 9 ∨ byte 11 < 8 ∨
          128 < byte 11 ∨ byte 12 < 10 ∨ 80 < byte 12 ∨ byte 13 = 0
        (changed → arrived = ended { s with dmt := installed } .good .clamped) ∧
        (¬ changed → arrived = ended { s with dmt := installed } .good .none)) ∧
      (x.id = .profile → x.declared = 75 → sound → structureOk .profile image = true →
        arrived = ended { s with profile := profileRows image } .good .none) ∧
      (x.declared ≠ x.id.imageLength → arrived = ended s .tableRejected .length) ∧
      (x.declared = x.id.imageLength → ¬ sound → arrived = ended s .tableRejected .crc) ∧
      (x.declared = x.id.imageLength → sound → structureOk x.id image = false → arrived = ended s .tableRejected .structure)) ∧
    (∀ b, x.target = .bay b → (s.bay b).slot = some c → c.result = none → (s.bay b).job = none → (s.bay b).flush = none →
      (s.bay b).reassign = none → (s.bay b).format = none → (s.bay b).cart.eject = none → (s.bay b).power.mode ≠ .active →
      { (s.bay b) with slot := none }.rests = true → s.visiting b = false → s.chan.waiter ≠ some b →
      x.id = .zone ∨ x.id = .defectList →
      let ended (r : Completion) (d : Detail) (tu : Translation) (sense : Sense) : Host.Outcome State Fault Refusal :=
        .next ({ s with
          staging := none
          link := { s.link with
            queue := s.link.queue ++ [Desc.status (.bay b) r d c.done 0x40]
            reservations := s.link.reservations - 1 } }.modBay b fun y => { y with
          slot := none
          tu := tu
          sense := sense
          power := { y.power with
            unloadTimer := if s.dmt.unloadTimer = 0 then none else some (s.dmt.unloadTimer * 1000000)
            standbyTimer := if s.dmt.standbyTimer = 0 then none else some (s.dmt.standbyTimer * 60000000)
            wake := y.power.wake.map fun (w : Wake) => { w with waiting := false } } })
      let rejected (d : Detail) : Host.Outcome State Fault Refusal :=
        ended .tableRejected d (s.bay b).tu { (s.bay b).sense with
          completion := some .tableRejected, detail := d, command := 0x40, lba := none, addr := none, count := c.done }
      (c.stop.isSome = true → arrived = ended .aborted .none (s.bay b).tu { (s.bay b).sense with
        completion := some .aborted, detail := .none, command := 0x40, lba := none, addr := none, count := c.done }) ∧
      (c.stop = none → x.declared = x.id.imageLength → sound → structureOk x.id image = true →
        arrived = ended .good .none (if x.id = .zone then { (s.bay b).tu with stagedZone := some (image.take 97) }
          else { (s.bay b).tu with stagedList := some (image.take 1026) }) (s.bay b).sense) ∧
      (c.stop = none → x.declared ≠ x.id.imageLength → arrived = rejected .length) ∧
      (c.stop = none → x.declared = x.id.imageLength → ¬ sound → arrived = rejected .crc) ∧
      (c.stop = none → x.declared = x.id.imageLength → sound → structureOk x.id image = false → arrived = rejected .structure))

/-- OUTBOUND_FRAME_SENT, and LINK_TIMEOUT while the link timer runs, of a STATUS or ATTENTION frame with nothing further to send: the
frame is over and the link timer stops; nothing else changes. With LDIR at IN and a STATUS at the head of the queue, that frame
begins in the same event. A link timer that is stopped does not expire. LINK_TIMEOUT of an inbound frame in progress that stands
within its header, with no LOAD TABLE being stopped (R146): a STATUS for DEVICE, FRAME_ERROR with detail TIMEOUT, is queued, the frame with its two
entries is gone, and its further bytes begin no frame (R178; notes/assumptions/78.md). -/
def Obligations.OutboundFrameEnds : Prop :=
  (∀ (f : InFrame) (s : State), s.settled → s.link.outFrame = none → s.frameUnderWay = true → s.link.inFrame = some f →
    f.bytes.length < 4 → f.slot = none → (∀ b, (s.bay b).stoppedLoad = false) →
    (s.link.timer = none → exec (.linkTimeout .absent) s = .next s) ∧
    (s.link.timer.isSome = true → exec (.linkTimeout .absent) s = .next { s with link := { s.link with
      queue := s.link.queue ++ [.status .device .frameError .timeout 0 0]
      inFrame := none, timer := none, spent := true, reservations := s.link.reservations - 2 } })) ∧
  ∀ (f : OutFrame) (inbound : Inbound) (s : State), s.running → s.settled → s.link.lrst = false →
    s.link.outFrame = some f → f.slot = none → f.owned = false →
    (s.link.timer = none → exec (.linkTimeout inbound) s = .next s) ∧
    (s.link.ldir = .hostSends ∨ (s.link.queue = [] ∧ s.nextAttention = none) →
      exec .outboundFrameSent s = .next { s with link := { s.link with outFrame := none, timer := none } } ∧
      (s.link.timer.isSome = true →
        exec (.linkTimeout inbound) s = .next { s with link := { s.link with outFrame := none, timer := none } })) ∧
    (∀ target c d n code rest, s.link.ldir = .partSends → s.link.queue = .status target c d n code :: rest →
      let t : State := { s with link := { s.link with
        queue := rest
        outFrame := some { kind := .status, target, payload := statusPayload c d n code, slot := none, owned := false, sent := 0
                           strobe := true, limit := s.dmt.linkTimeout * 10000 }
        timer := some (s.dmt.linkTimeout * 10000) } }
      exec .outboundFrameSent s = .next t ∧ (s.link.timer.isSome = true → exec (.linkTimeout inbound) s = .next t))

/-- OUTBOUND_FRAME_SENT of a DATA-IN frame from a buffer slot, nothing further to send and the bay resting apart from the READ in its
slot, which still has blocks to do: the slot is FREE, and the READ counts the frame. So it is where LDIR turns to OUT after the
exchange of the frame's last byte has ended: the frame has gone out (R177). -/
def Obligations.SentSlotIsFreed : Prop :=
  ∀ (b : BayId) (k : Nat) (f : OutFrame) (c : Cmd) (j : Job) (s : State), s.running → s.settled → s.link.lrst = false →
    s.link.outFrame = some f → f.slot = some k → f.target = .bay b → (s.slotRec k).owner = some b →
    (s.bay b).slot = some c → c.op = .read → c.result = none → (s.bay b).job = some j → s.bayRests b = true →
    s.link.queue = [] → s.nextAttention = none →
    let sent (dir : LinkDir) : State := { s with
      slots := s.slots.set k SlotRec.free
      link := { s.link with ldir := dir, outFrame := none, timer := none } }.modBay b fun x =>
        { x with slot := some { c with sent := c.sent + 1 } }
    exec .outboundFrameSent s = .next (sent s.link.ldir) ∧
    (∀ inbound, s.link.ldir = .partSends → 4 + f.payload.length ≤ f.sent →
      exec (.ldirChange .hostSends inbound) s = .next (sent .hostSends))

/-! ## Media commands -/

/-- Every media command is checked in the order of R134 before anything else, and the first check that fails answers it: a bay
that is absent ILLEGAL_REQUEST; an occupied slot BUSY; an EMPTY bay NO_CARTRIDGE; BAY_FAULT with the fault detail; a cartridge
that is not ready, or SPINNING_UP with AUTOSPIN high, NOT_READY with its state; an UNFORMATTED cartridge, but for FORMAT,
UNFORMATTED with the mount detail; a set unit-changed flag UNIT_CHANGED, which clears it; blocks beyond the capacity OUT_OF_RANGE,
but for FORMAT and FLUSH RECORD, with the block's LBA in the sense record; a protected cartridge WRITE_PROTECTED, for WRITE,
REASSIGN and FORMAT. FORMAT's own checks follow: no staged zone table NOT_STAGED with ZONE; USE_LIST without a staged defect list
NOT_STAGED with DEFECT_LIST; heads neither 1 nor 2 ILLEGAL_REQUEST; a staged zone table that fails checks 5 to 8 of R13, the pointer
test left out, ILLEGAL_REQUEST with the detail of the check; a defect set above 256 addresses DEFECT_LIST_FULL. Each is a STATUS with
count done 0 and the command's code; all but ILLEGAL_REQUEST and BUSY write the sense record; nothing else changes. -/
def Obligations.MediaCommandsAreRefusedInOrder : Prop :=
  ∀ (b : BayId) (lba : BitVec 24) (count heads : Byte) (certify useList keepGrown : Bool) (s : State), s.hears →
    ∀ ic ∈ [(Instr.read b lba count, (0x10 : Byte), some (countOf count), false, false),
        (.write b lba count, 0x11, some (countOf count), true, false), (.verify b lba count, 0x12, some (countOf count), false, false),
        (.seek b lba, 0x13, some 1, false, false), (.reassign b lba, 0x14, some 1, true, false),
        (.format b heads certify useList keepGrown, 0x15, none, true, true), (.flushRecord b, 0x16, none, false, false)],
      let command := ic.1
      let code := ic.2.1
      let blocks := ic.2.2.1
      let writes := ic.2.2.2.1
      let isFormat := ic.2.2.2.2
      let x := s.bay b
      let answered (c : Completion) (d : Detail) : State :=
        { s with link := { s.link with queue := s.link.queue ++ [.status (.bay b) c d 0 code] } }
      let sensed (c : Completion) (d : Detail) (at_ : Option Nat) (changed : Bool) : State :=
        (answered c d).modBay b fun y => { y with
          cart := { y.cart with unitChanged := changed }
          sense := { y.sense with completion := some c, detail := d, command := code, lba := at_, addr := none, count := 0 } }
      (s.bayPresent b = false → exec command s = .next (answered .illegalRequest .none)) ∧
      (s.bayPresent b = true → x.slot.isSome = true → exec command s = .next (answered .busy .none)) ∧
      (s.bayPresent b = true → x.slot = none →
        (x.cart.state = .empty → exec command s = .next (sensed .noCartridge .none none x.cart.unitChanged)) ∧
        (x.cart.state = .bayFault → exec command s = .next (sensed .bayFault (.fault x.cart.fault) none x.cart.unitChanged)) ∧
        (x.cart.state ∈ [.seated, .locking, .mounting, .formatting, .unmounting, .releasing, .released]
            ∨ x.cart.state = .spinningUp ∧ s.autospinHigh = true →
          exec command s = .next (sensed .notReady (.cartState x.cart.state) none x.cart.unitChanged)) ∧
        (x.cart.state = .unformatted → isFormat = false →
          exec command s = .next (sensed .unformatted (.mount x.cart.mountDetail) none x.cart.unitChanged)) ∧
        (x.cart.state = .mounted ∨ x.cart.state = .unformatted ∧ isFormat = true →
          (x.cart.unitChanged = true → exec command s = .next (sensed .unitChanged .none none false)) ∧
          (x.cart.unitChanged = false →
            (∀ n, blocks = some n → x.tu.capacity < lba.toNat + n →
              exec command s = .next (sensed .outOfRange .none (some lba.toNat) false)) ∧
            ((∀ n, blocks = some n → lba.toNat + n ≤ x.tu.capacity) → writes = true → x.cart.wpProtected = true →
              exec command s = .next (sensed .writeProtected .none none false)) ∧
            (isFormat = true → x.cart.wpProtected = false →
              (x.tu.stagedZone = none → exec command s = .next (sensed .notStaged .zone none false)) ∧
              (∀ image, x.tu.stagedZone = some image →
                let zones := stagedZones image
                let failed := layoutDetail heads.toNat (lastCylinder zones + 1) (field image 0 1) zones false
                (useList = true → x.tu.stagedList = none → exec command s = .next (sensed .notStaged .defectList none false)) ∧
                ((useList = true → x.tu.stagedList.isSome = true) →
                  (heads ≠ 1 → heads ≠ 2 → exec command s = .next (answered .illegalRequest .none)) ∧
                  (heads = 1 ∨ heads = 2 →
                    (failed ≠ .none → exec command s = .next (answered .illegalRequest (.mount failed))) ∧
                    (failed = .none → 256 < (x.formatDefects heads.toNat zones useList keepGrown).length →
                      exec command s = .next (sensed .defectListFull .none none false)))))))))

/-- READ and VERIFY accepted by a bay in IDLE whose heads stand on another cylinder: the command takes the slot with the DMT
values of the moment, the bay becomes ACTIVE, the first block takes the lowest FREE buffer slot, and the heads begin to seek its
holding sector. That the block takes its slot in the event of acceptance, while the heads still have to seek, is the model's
choice (notes/assumptions/20.md), and so is the inward direction of a seek whose sampled cylinder is the target's already
(notes/assumptions/62.md). -/
def Obligations.ReadAndVerifyTakeTheirFirstBlock : Prop :=
  ∀ (b : BayId) (lba : BitVec 24) (count : Byte) (t : Tables) (at_ : Track) (x : Sector) (row : SeekRow) (s : State),
    s.hears → s.readyAt b t at_ → lba.toNat + countOf count ≤ t.capacity → t.translate lba.toNat = some x →
    at_.cyl ≠ x.addr.cyl → s.mayAllocate b = true →
    s.profile.find? (fun r => decide ((s.bay b).pos.distance x.track ≤ r.bound)) = some row →
    let taken (op : CmdOp) (kind : JobKind) : State :=
      { s with
        slots := s.slots.set s.lowestFree (SlotRec.taken b .mediaData x.lba)
        link := { s.link with reservations := s.link.reservations + 1 } }.modBay b fun y => { y with
          slot := some (Cmd.fresh op lba.toNat (countOf count) s.dmt.caps)
          power := { y.power with mode := .active }
          job := some { kind, sector := x, stage := .seeking, tries := 0, matched := false, fieldRead := false,
                        slots := [s.lowestFree] }
          pos := y.pos.seekStarted x.track row }
    exec (.read b lba count) s = .next (taken .read .mediaRead) ∧
    exec (.verify b lba count) s = .next (taken .verify .mediaVerify)

/-- WRITE to a cartridge that is not protected, and SEEK, accepted by a bay in IDLE whose heads stand on another cylinder: the
command takes the slot, the bay becomes ACTIVE, and the heads begin to seek the first block's holding sector. No buffer slot is
taken. The inward direction of a seek whose sampled cylinder is the target's already is the model's choice
(notes/assumptions/62.md). -/
def Obligations.WriteAndSeekStartTheirSeek : Prop :=
  ∀ (b : BayId) (lba : BitVec 24) (count : Byte) (t : Tables) (at_ : Track) (x : Sector) (row : SeekRow) (s : State),
    s.hears → s.readyAt b t at_ → t.translate lba.toNat = some x → at_.cyl ≠ x.addr.cyl →
    s.profile.find? (fun r => decide ((s.bay b).pos.distance x.track ≤ r.bound)) = some row →
    let taken (op : CmdOp) (n : Nat) (kind : JobKind) : State :=
      { s with link := { s.link with reservations := s.link.reservations + 1 } }.modBay b fun y => { y with
          slot := some (Cmd.fresh op lba.toNat n s.dmt.caps)
          power := { y.power with mode := .active }
          job := some { kind, sector := x, stage := .seeking, tries := 0, matched := false, fieldRead := false, slots := [] }
          pos := y.pos.seekStarted x.track row }
    ((s.bay b).cart.wpProtected = false → lba.toNat + countOf count ≤ t.capacity →
      exec (.write b lba count) s = .next (taken .write (countOf count) .mediaWrite)) ∧
    (lba.toNat + 1 ≤ t.capacity → exec (.seek b lba) s = .next (taken .seek 1 .seekOnly))

/-- REASSIGN that passes its checks, accepted by a bay in IDLE whose heads stand on another cylinder: the sector being abandoned
is the block's home position, or its spare slot where the home position is REMAPPED; the reassign takes the lowest FREE buffer
slot for the old data, and the heads begin to seek that sector. Tables, pointers and the dirty flag are left as they are. The inward
direction of a seek whose sampled cylinder is the target's already is the model's choice (notes/assumptions/62.md). -/
def Obligations.ReassignReadsTheAbandonedSector : Prop :=
  ∀ (b : BayId) (lba : BitVec 24) (t : Tables) (at_ : Track) (zone : Nat) (home old : PhysAddr) (row : SeekRow) (s : State),
    s.hears → s.readyAt b t at_ → (s.bay b).cart.wpProtected = false → lba.toNat + 1 ≤ t.capacity →
    t.home lba.toNat = some (zone, home) →
    old = (match t.targetAt home with
      | some j => slotAddr t.heads (t.zone zone) j
      | none => home) →
    at_.cyl ≠ old.cyl → t.map.length < 256 → (candidate t.heads (t.zone zone) t.map).isSome = true → s.mayAllocate b = true →
    s.profile.find? (fun r => decide ((s.bay b).pos.distance { cyl := old.cyl, head := old.head } ≤ r.bound)) = some row →
    exec (.reassign b lba) s =
      .next ({ s with
        slots := s.slots.set s.lowestFree (SlotRec.taken b .mediaData (some lba.toNat))
        link := { s.link with reservations := s.link.reservations + 1 } }.modBay b fun y => { y with
          slot := some (Cmd.fresh .reassign lba.toNat 1 s.dmt.caps)
          power := { y.power with mode := .active }
          reassign := some { lba := lba.toNat, zone, home, target := t.targetAt home, auto := false, attempts := 0,
                             candidate := 0, zeros := false, slot := s.lowestFree }
          job := some {
            kind := .reassignRead
            sector := { addr := old, zone, spareArea := (t.targetAt home).isSome, rate := (t.zone zone).rate,
                        lba := some lba.toNat }
            stage := .seeking, tries := 0, matched := false, fieldRead := false, slots := [s.lowestFree] }
          pos := y.pos.seekStarted { cyl := old.cyl, head := old.head } row })

/-- FORMAT that passes its checks, accepted by a bay in IDLE: the cartridge is FORMATTING with mount detail SIGNATURE, its tables
are removed and the dirty flag is clear (R152, R153), the bay leaves its power modes and raises READINESS with class UNAVAILABLE
(R161, R168), and INVALIDATE begins with a seek to cylinder 0, head 0 (R75, R76). The inward direction of a seek whose sampled
cylinder is 0 already is the model's choice (notes/assumptions/62.md). -/
def Obligations.FormatBeginsWithInvalidate : Prop :=
  ∀ (b : BayId) (heads : Byte) (certify useList keepGrown : Bool) (t : Tables) (at_ : Track) (row : SeekRow) (s : State),
    s.hears → s.readyAt b t at_ → (s.bay b).cart.wpProtected = false → at_.cyl ≠ 0 →
    (s.bay b).formatRefusal heads.toNat useList keepGrown = none →
    s.profile.find? (fun r => decide ((s.bay b).pos.distance { cyl := 0, head := 0 } ≤ r.bound)) = some row →
    exec (.format b heads certify useList keepGrown) s =
      .next ({ s with link := { s.link with reservations := s.link.reservations + 1 } }.modBay b fun y => { y with
        slot := some (Cmd.fresh (.format heads certify useList keepGrown) 0 0 s.dmt.caps)
        tu := { y.tu with tables := none, dirty := false }
        cart := { y.cart with state := .formatting, mountDetail := .signature }
        power := { y.power with mode := .unmounted, unloadTimer := none, standbyTimer := none, readiness := .unavailable }
        attn := { y.attn with readiness := { raised := true, payload := 3 } }
        format := some { y.formatOf heads.toNat certify useList keepGrown with phase := .invalidate }
        job := some {
          kind := .formatTrack
          sector := { addr := { cyl := 0, head := 0, ps := 0 }, zone := 15, spareArea := false, rate := 6, lba := none }
          stage := .seeking, tries := 0, matched := false, fieldRead := false, slots := [] }
        pos := y.pos.seekStarted { cyl := 0, head := 0 } row })

/-- FLUSH RECORD of a dirty bay in IDLE: a flush for it begins with a seek to cylinder 0, head 0, where record sector 0 will be
written; no slot is taken yet and the dirty flag stays set. The inward direction of a seek whose sampled cylinder is 0 already is
the model's choice (notes/assumptions/62.md). -/
def Obligations.FlushRecordSeeksTheRecord : Prop :=
  ∀ (b : BayId) (t : Tables) (at_ : Track) (row : SeekRow) (s : State),
    s.hears → s.readyAt b t at_ → (s.bay b).tu.dirty = true → at_.cyl ≠ 0 →
    s.profile.find? (fun r => decide ((s.bay b).pos.distance { cyl := 0, head := 0 } ≤ r.bound)) = some row →
    exec (.flushRecord b) s =
      .next ({ s with link := { s.link with reservations := s.link.reservations + 1 } }.modBay b fun y => { y with
        slot := some (Cmd.fresh .flushRecord 0 0 s.dmt.caps)
        power := { y.power with mode := .active }
        flush := some { requester := .flushRecord, writing := false, generation := 0, caps := s.dmt.caps, stop := false }
        job := some {
          kind := .recordWrite
          sector := { addr := { cyl := 0, head := 0, ps := 0 }, zone := 15, spareArea := false, rate := 6, lba := none }
          stage := .seeking, tries := 0, matched := false, fieldRead := false, slots := [] }
        pos := y.pos.seekStarted { cyl := 0, head := 0 } row })

/-! ## The other commands of the host adapter -/

/-- EJECT of a bay in IDLE with a clean record and removal not prevented: the request is open with its EJECT, the bay is
UNMOUNTING in its unload phase, it leaves its power modes with READINESS UNAVAILABLE, and the heads unload. -/
def Obligations.EjectUnloadsACleanBay : Prop :=
  ∀ (b : BayId) (force : Bool) (t : Tables) (at_ : Track) (s : State), s.hears → s.readyAt b t at_ →
    (s.bay b).tu.dirty = false → (s.bay b).cart.preventRemoval = false →
    exec (.eject b force) s =
      .next ({ s with link := { s.link with reservations := s.link.reservations + 1 } }.modBay b fun y => { y with
        slot := some (Cmd.fresh (.eject force) 0 0 s.dmt.caps)
        cart := { y.cart with
          state := .unmounting
          startupWait := false
          eject := some { source := if force then .ejectForce else .eject, commandWaits := true, phase := .unload,
                          discarded := false } }
        power := { y.power with mode := .unmounted, unloadTimer := none, standbyTimer := none, readiness := .unavailable }
        attn := { y.attn with readiness := { raised := true, payload := 3 } }
        pos := y.pos.unloadStarted })

/-- EJECT is tested before it is taken: an absent bay answers ILLEGAL_REQUEST, an occupied slot BUSY, an EMPTY bay NO_CARTRIDGE,
and a bay whose prevent-removal flag is set PREVENTED; the last two write the sense record, and nothing else changes. -/
def Obligations.EjectIsTestedFirst : Prop :=
  ∀ (b : BayId) (force : Bool) (s : State), s.hears →
    let answered (c : Completion) : State :=
      { s with link := { s.link with queue := s.link.queue ++ [.status (.bay b) c .none 0 0x20] } }
    let sensed (c : Completion) : State :=
      (answered c).modBay b fun x => { x with sense := { x.sense with
        completion := some c, detail := .none, command := 0x20, lba := none, addr := none, count := 0 } }
    (s.bayPresent b = false → exec (.eject b force) s = .next (answered .illegalRequest)) ∧
    (s.bayPresent b = true → (s.bay b).slot.isSome = true → exec (.eject b force) s = .next (answered .busy)) ∧
    (s.bayPresent b = true → (s.bay b).slot = none →
      ((s.bay b).cart.state = .empty → exec (.eject b force) s = .next (sensed .noCartridge)) ∧
      ((s.bay b).cart.state ≠ .empty → (s.bay b).cart.preventRemoval = true →
        exec (.eject b force) s = .next (sensed .prevented)))

/-- The immediate commands, with the slot free or occupied. PREVENT sets and ALLOW clears the prevent-removal flag and completes
GOOD, PREVENT in EMPTY being refused NO_CARTRIDGE; REQUEST SENSE queues the sense record and then its STATUS, and clears the
record; PEEK queues the live state and then its STATUS, and clears nothing. Each is ILLEGAL_REQUEST for an absent bay. -/
def Obligations.ImmediateCommandsComplete : Prop :=
  ∀ (b : BayId) (s : State), s.hears →
    let answered (extra : List Desc) (c : Completion) (code : Byte) : State :=
      { s with link := { s.link with queue := s.link.queue ++ extra ++ [.status (.bay b) c .none 0 code] } }
    (s.bayPresent b = true →
      ((s.bay b).cart.state ≠ .empty → exec (.prevent b) s =
        .next ((answered [] .good 0x21).modBay b fun x => { x with cart := { x.cart with preventRemoval := true } })) ∧
      ((s.bay b).cart.state = .empty → exec (.prevent b) s =
        .next ((answered [] .noCartridge 0x21).modBay b fun x => { x with sense := { x.sense with
          completion := some .noCartridge, detail := .none, command := 0x21, lba := none, addr := none, count := 0 } })) ∧
      exec (.allow b) s =
        .next ((answered [] .good 0x22).modBay b fun x => { x with cart := { x.cart with preventRemoval := false } }) ∧
      exec (.requestSense b) s =
        .next ((answered [.report (.bay b) (.bytes (senseBytes (s.bay b).sense)) false] .good 0x31).modBay b fun x =>
          { x with sense := Sense.reset }) ∧
      exec (.peek b) s = .next (answered [.report (.bay b) (.bytes (s.peekPayload b)) false] .good 0x32)) ∧
    (s.bayPresent b = false →
      ∀ ic ∈ [(Instr.prevent b, (0x21 : Byte)), (.allow b, 0x22), (.requestSense b, 0x31), (.peek b, 0x32)],
        exec ic.1 s = .next (answered [] .illegalRequest ic.2))

/-- REPORT CARTRIDGE in every cartridge state, REPORT CAPACITY and REPORT DEFECTS of a MOUNTED bay, READ TABLE of an installed or
a staged table, and IDENTIFY, each with its slot free and, at a bay, with no standby entry under way: the command takes the slot
and its reservation, an IDLE bay becomes ACTIVE, and the frames of the report join the outbound queue in order, exactly as many
as keep descriptors and reservations at 16 or less, while the rest stay pending. REPORT CARTRIDGE clears the unit-changed flag
and reports its value at acceptance. READ TABLE of a table that is not staged is refused NOT_STAGED. That all frames of a report
are ready in the event of acceptance is the model's choice (notes/assumptions/13.md). -/
def Obligations.ReportsJoinTheQueue : Prop :=
  ∀ s : State, s.hears →
    let room := 16 - (s.link.queue.length + (s.link.reservations + 1))
    let queued (target : BayField) (frames : List ReportSource) : State :=
      { s with link := { s.link with
          queue := s.link.queue ++ (frames.map fun x => Desc.report target x true).take room
          offered := (frames.map fun x => Desc.report target x true).drop room
          reservations := s.link.reservations + 1 } }
    let parts (id : TableId) (image : List Byte) : List ReportSource :=
      (List.range ((image.length + 511) / 512)).map (ReportSource.table id)
    (s.deviceSlot = none →
      ∀ x ∈ [(Instr.readTableMode, CmdOp.readTable .mode, parts .mode (withCrc (dmtBody s.dmt))),
          (.readTableProfile, .readTable .profile, parts .profile (withCrc (profileBody s.profile))),
          (.identify, .identify, [.bytes s.identifyPayload])],
        exec x.1 s = .next { queued .device x.2.2 with
          deviceSlot := some { Cmd.fresh x.2.1 0 0 s.dmt.caps with framesLeft := x.2.2.length } }) ∧
    (∀ b, s.bayPresent b = true → (s.bay b).slot = none → (s.bay b).power.entry = none →
      let taken (op : CmdOp) (frames : List ReportSource) (unitWas unitChanged : Bool) : State :=
        (queued (.bay b) frames).modBay b fun y => { y with
          slot := some { Cmd.fresh op 0 0 s.dmt.caps with framesLeft := frames.length, unitWas := unitWas }
          cart := { y.cart with unitChanged := unitChanged }
          power := { y.power with mode := if y.power.mode = PowerMode.idle then .active else y.power.mode } }
      let changed := (s.bay b).cart.unitChanged
      exec (.reportCartridge b) s =
        .next (taken .reportCartridge [.bytes (cartridgePayload (s.bay b) changed)] changed false) ∧
      (∀ t, (s.bay b).cart.state = .mounted → (s.bay b).tu.tables = some t →
        exec (.reportCapacity b) s = .next (taken .reportCapacity [.bytes (capacityPayload t)] false changed) ∧
        exec (.reportDefects b) s =
          .next (taken .reportDefects ((List.range (defectFrames t.map.length)).map ReportSource.defects) false changed)) ∧
      ∀ x ∈ [(Instr.readTableZone b, TableId.zone, (s.bay b).tu.stagedZone, Detail.zone),
          (.readTableDefectList b, .defectList, (s.bay b).tu.stagedList, .defectList)],
        (∀ body, x.2.2.1 = some body →
          exec x.1 s = .next (taken (.readTable x.2.1) (parts x.2.1 (withCrc body)) false changed)) ∧
        (x.2.2.1 = none →
          exec x.1 s = .next ({ s with link := { s.link with
              queue := s.link.queue ++ [Desc.status (.bay b) .notStaged x.2.2.2 0 0x41] } }.modBay b fun y => { y with
            sense := { y.sense with completion := some .notStaged, detail := x.2.2.2, command := 0x41, lba := none,
                                    addr := none, count := 0 } })))

/-- LOAD TABLE with a length of 1 to 2,048: with its slot and the staging area free it takes both, and waits for its DATA-OUT
frames; with either occupied it is refused BUSY. Aimed at a bay it makes an IDLE bay ACTIVE, and is refused NO_CARTRIDGE in
EMPTY. -/
def Obligations.LoadTableTakesTheStagingArea : Prop :=
  ∀ (length : BitVec 16) (s : State), s.hears → 1 ≤ length.toNat → length.toNat ≤ 2048 →
    let answered (target : BayField) (c : Completion) : State :=
      { s with link := { s.link with queue := s.link.queue ++ [.status target c .none 0 0x40] } }
    (∀ x ∈ [(Instr.loadTableMode length, TableId.mode), (.loadTableProfile length, .profile)],
      (s.deviceSlot = none → s.staging = none →
        exec x.1 s = .next { s with
          staging := some { id := x.2, declared := length.toNat, target := .device, bytes := [] }
          deviceSlot := some (Cmd.fresh (.loadTable x.2) 0 0 s.dmt.caps)
          link := { s.link with reservations := s.link.reservations + 1 } }) ∧
      (s.deviceSlot.isSome = true ∨ s.staging.isSome = true → exec x.1 s = .next (answered .device .busy))) ∧
    (∀ b, s.bayPresent b = true →
      ∀ x ∈ [(Instr.loadTableZone b length, TableId.zone), (.loadTableDefectList b length, .defectList)],
        ((s.bay b).slot = none → s.staging = none → (s.bay b).cart.state ≠ .empty → (s.bay b).power.entry = none →
          exec x.1 s = .next ({ s with
            staging := some { id := x.2, declared := length.toNat, target := .bay b, bytes := [] }
            link := { s.link with reservations := s.link.reservations + 1 } }.modBay b fun y => { y with
              slot := some (Cmd.fresh (.loadTable x.2) 0 0 s.dmt.caps)
              power := { y.power with mode := if y.power.mode = PowerMode.idle then .active else y.power.mode } })) ∧
        ((s.bay b).slot.isSome = true ∨ s.staging.isSome = true → exec x.1 s = .next (answered (.bay b) .busy)) ∧
        ((s.bay b).slot = none → s.staging = none → (s.bay b).cart.state = .empty →
          exec x.1 s = .next ((answered (.bay b) .noCartridge).modBay b fun y => { y with sense := { y.sense with
            completion := some .noCartridge, detail := .none, command := 0x40, lba := none, addr := none, count := 0 } })))

/-- STANDBY NOW of a bay in IDLE with a clean record, and STANDBY_TIMER_EXPIRY of such a bay whose timer runs: a standby entry
begins with its unload, the mode is PARKED_IDLE with READINESS LOAD_DELAY, and the heads unload. STANDBY NOW holds the slot; the
timer's entry stops both idle timers. -/
def Obligations.StandbyEntryUnloads : Prop :=
  ∀ (b : BayId) (t : Tables) (at_ : Track) (s : State), s.takesFrame = true → s.settled → s.readyAt b t at_ →
    (s.bay b).tu.dirty = false →
    let entered (u : State) (slot : Option Cmd) (source : EntrySource) (unload standby : Timer) : State :=
      u.modBay b fun y => { y with
        slot := slot
        power := { mode := .parkedIdle, unloadTimer := unload, standbyTimer := standby, readiness := .loadDelay,
                   entry := some { source, startMode := .idle, phase := .unload }, wake := none }
        attn := { y.attn with readiness := { raised := true, payload := 1 } }
        pos := y.pos.unloadStarted }
    exec (.standbyNow b) s =
      .next (entered { s with link := { s.link with reservations := s.link.reservations + 1, spent := false } }
        (some (Cmd.fresh .standbyNow 0 0 s.dmt.caps)) .standbyNow (s.bay b).power.unloadTimer (s.bay b).power.standbyTimer) ∧
    ((s.bay b).power.standbyTimer.isSome = true →
      exec (.standbyTimerExpiry b) s = .next (entered s none .timer none none))

/-- WAKE of a bay in PARKED_IDLE whose spindle is ready and whose heads are parked under an engaged lock: the command waits on a
wake, and the heads begin their first load attempt. WAKE of an IDLE or an UNFORMATTED bay in which nothing waits to go on is no
wake: it completes GOOD at once, which restarts the idle timers, those of an UNFORMATTED bay too, whose mode is UNMOUNTED, as the
model deduces it (notes/assumptions/53.md), and nothing else changes. WAKE of a bay whose cartridge is not
ready is refused with the cartridge state. -/
def Obligations.WakeLoadsTheHeads : Prop :=
  ∀ (b : BayId) (s : State), s.hears → s.bayPresent b = true → (s.bay b).slot = none →
    ((s.bay b).cart.state = .mounted → (s.bay b).power.mode = .parkedIdle → (s.bay b).power.entry = none →
      (s.bay b).power.wake = none → (s.bay b).spindle.ready = true → (s.bay b).cart.lockEngaged = true →
      (s.bay b).pos.state = .parked →
      exec (.wake b) s =
        .next ({ s with link := { s.link with reservations := s.link.reservations + 1 } }.modBay b fun y => { y with
          slot := some { Cmd.fresh .wake 0 0 s.dmt.caps with wait := .wake }
          power := { y.power with wake := some { startMode := .parkedIdle, waiting := true } }
          pos := { y.pos with
            state := .loading, loadAttempts := 1, loadTimer := some 500000, gain := 1, driveDir := .inward, driveMag := 2
            fault := .none, again := .nothing, loadOpen := true, heldSeek := none, heldSeekOwned := false
            heldLoad := none } })) ∧
    ((s.bay b).cart.state = .mounted ∧ (s.bay b).power.mode = .idle
        ∨ (s.bay b).cart.state = .unformatted ∧ (s.bay b).power.mode = .unmounted →
      s.bayRests b = true → (s.bay b).job = none → (s.bay b).reassign = none → (s.bay b).format = none →
      (s.bay b).cart.eject = none → (s.bay b).power.wake = none → s.link.outFrame = none → (s.staging.map fun x => x.target) ≠ some (.bay b) →
      (∀ d ∈ s.link.queue, d.isReportOf (.bay b) = false) →
      exec (.wake b) s =
        .next ({ s with link := { s.link with
            queue := s.link.queue ++ [Desc.status (.bay b) .good .none 0 0x27] } }.modBay b fun y => { y with
          power := { y.power with
            unloadTimer := if s.dmt.unloadTimer = 0 then none else some (s.dmt.unloadTimer * 1000000)
            standbyTimer := if s.dmt.standbyTimer = 0 then none else some (s.dmt.standbyTimer * 60000000) } })) ∧
    ((s.bay b).cart.state ∈ [.seated, .locking, .mounting, .formatting, .unmounting, .releasing, .released] →
      exec (.wake b) s =
        .next ({ s with link := { s.link with
            queue := s.link.queue ++ [Desc.status (.bay b) .notReady (.cartState (s.bay b).cart.state) 0 0x27] } }.modBay b
          fun y => { y with sense := { y.sense with
            completion := some .notReady, detail := .cartState (s.bay b).cart.state, command := 0x27, lba := none,
            addr := none, count := 0 } }))

/-- ABORT of a free slot, the bay's or the device's, is answered GOOD and does nothing; aimed at an absent bay it is
ILLEGAL_REQUEST. ABORT of a SEEK that waits for a mount or a wake is answered GOOD with detail STOPPED, and the SEEK ends at once
with ABORTED after it, recorded in the bay's sense record (R144, R188): its slot is free, no command waits on a wake that runs on
without it (R165), and the idle timers restart (R162), in an UNMOUNTED bay and in STANDBY too, as the model deduces it
(notes/assumptions/53.md). -/
def Obligations.AbortEndsAWaitingCommand : Prop :=
  ∀ s : State, s.hears →
    let answered (target : BayField) (c : Completion) : State :=
      { s with link := { s.link with queue := s.link.queue ++ [.status target c .none 0 0x30] } }
    (s.deviceSlot = none → exec (.abort .device) s = .next (answered .device .good)) ∧
    (∀ b, (s.bayPresent b = false → exec (.abort (.bay b)) s = .next (answered (.bay b) .illegalRequest)) ∧
      (s.bayPresent b = true → (s.bay b).slot = none → exec (.abort (.bay b)) s = .next (answered (.bay b) .good)) ∧
      (∀ c, s.bayPresent b = true → (s.bay b).slot = some c → c.op = .seek → c.wait ≠ .working → c.stop = none →
        c.result = none → c.silent = false → c.done ≠ c.count → (s.bay b).job = none → (s.bay b).flush = none →
        (s.bay b).reassign = none → (s.bay b).format = none → (s.bay b).cart.eject = none → (s.bay b).power.mode ≠ .active →
        { (s.bay b) with slot := none }.rests = true → s.visiting b = false → s.chan.waiter ≠ some b →
        s.link.outFrame = none → s.staging = none → (∀ d ∈ s.link.queue, d.isReportOf (.bay b) = false) →
        exec (.abort (.bay b)) s =
          .next ({ s with link := { s.link with
              queue := s.link.queue ++ [Desc.status (.bay b) .good .stopped 0 0x30, Desc.status (.bay b) .aborted .none c.done 0x13]
              reservations := s.link.reservations - 1 } }.modBay b fun y => { y with
            slot := none
            sense := { y.sense with completion := some .aborted, detail := .none, command := 0x13, lba := none, addr := none,
                                    count := c.done }
            power := { y.power with
              unloadTimer := if s.dmt.unloadTimer = 0 then none else some (s.dmt.unloadTimer * 1000000)
              standbyTimer := if s.dmt.standbyTimer = 0 then none else some (s.dmt.standbyTimer * 60000000)
              wake := y.power.wake.map fun (w : Wake) => { w with waiting := false } } })))

/-! ## Spindle events -/

/-- INDEX_EDGE in a spinning state, `elapsed` µs after the counter was last advanced. The first edge opens a revolution; a later
one ends it: its period and deviation are measured and the gap timer restarts. In ACCELERATING a period that enters regulation
takes the spindle to REGULATING with drive 144 and releases the allowance, which a waiter gets in the same event; any other
leaves it ACCELERATING. In REGULATING, AT_SPEED and SPEED_FAULT the drive takes a regulation step: (P − 20,000) div 16 truncated,
within −8 to +8, the level within 0 to 255. In REGULATING and SPEED_FAULT the fourth revolution in the window in a row brings
AT_SPEED. In AT_SPEED, short of a third revolution out of the speed-fault window, one revolution of the purge is counted; the
third, in a bay in IDLE whose heads follow, brings SPEED_FAULT: the recovery timer starts at 5 s, the heads unload and the bay is
PARKED_IDLE with READINESS LOAD_DELAY. The revolution that enters SPEED_FAULT does not count for the purge, by the model's choice
(notes/assumptions/9.md). -/
def Obligations.IndexEdgeMeasuresARevolution : Prop :=
  ∀ (b : BayId) (elapsed : Nat) (s : State), s.calm → s.allowanceKept → s.bayPresent b = true →
    let x := (s.bay b).spindle
    let p := min 65535 (x.counter + elapsed)
    let timed : Spindle := { x with counter := 0, gapTimer := some 100000, firstIndexTimer := none }
    let ended : Spindle := { timed with period := p, deviation := deviationOf p }
    let step : Int := max (-8) (min 8 (Int.tdiv ((p : Int) - 20000) 16))
    let regulated : Spindle := { ended with drive := (max 0 (min 255 ((x.drive : Int) + step))).toNat }
    let with_ (u : State) (y : Spindle) : State := u.modBay b fun z => { z with spindle := y }
    let run := if inWindow p then x.inRun + 1 else 0
    let out := if outOfSpeed p then x.outRun + 1 else 0
    (x.state.spinning = true → x.revolutionOpen = false →
      exec (.indexEdge b elapsed) s = .next (with_ s { timed with revolutionOpen := true })) ∧
    (x.state = .accelerating → x.revolutionOpen = true →
      (entersRegulation p = false → exec (.indexEdge b elapsed) s = .next (with_ s ended)) ∧
      (entersRegulation p = true →
        let y : Spindle := { ended with state := .regulating, drive := 144, inRun := 0 }
        (s.allowWaiter = none → exec (.indexEdge b elapsed) s = .next (with_ { s with allowHolder := none } y)) ∧
        (∀ w, s.allowWaiter = some w →
          exec (.indexEdge b elapsed) s =
            .next ((with_ { s with allowHolder := some w, allowWaiter := none } y).modBay w fun z => { z with
              spindle := { z.spindle with
                state := .accelerating, drive := 255, revolutionOpen := false, inRun := 0, outRun := 0
                firstAtSpeed := false, failure := .none, firstIndexTimer := some 3000000, spinUpTimer := some 15000000
                gapTimer := none
                purgeRemaining := s.dmt.purge z.spindle.purgeKind } })))) ∧
    (x.state = .regulating ∨ x.state = .speedFault → x.revolutionOpen = true → run < 4 →
      exec (.indexEdge b elapsed) s = .next (with_ s { regulated with inRun := run })) ∧
    (x.state = .regulating → x.revolutionOpen = true → 4 ≤ run → x.purgeRemaining ≠ 0 → x.firstAtSpeed = false →
      exec (.indexEdge b elapsed) s = .next (with_ s { regulated with
        state := .atSpeed, inRun := 0, outRun := 0, spinUpTimer := none, firstAtSpeed := true })) ∧
    (x.state = .speedFault → x.revolutionOpen = true → 4 ≤ run → x.firstAtSpeed = true →
      x.purgeRemaining ≠ 0 ∨ ((s.bay b).cart.state = .mounted ∧ (s.bay b).job = none ∧ (s.bay b).slot = none
        ∧ (s.bay b).power.wake = none) →
      exec (.indexEdge b elapsed) s = .next (with_ s { regulated with
        state := .atSpeed, inRun := 0, outRun := 0, recoveryTimer := none })) ∧
    (x.state = .atSpeed → x.revolutionOpen = true → out < 3 → x.purgeRemaining ≠ 1 →
      exec (.indexEdge b elapsed) s =
        .next (with_ s { regulated with outRun := out, purgeRemaining := x.purgeRemaining - 1 })) ∧
    (∀ t at_, s.readyAt b t at_ → s.link.inFrame = none → x.revolutionOpen = true → 3 ≤ out →
      exec (.indexEdge b elapsed) s = .next (s.modBay b fun z => { z with
        spindle := { regulated with state := .speedFault, inRun := 0, outRun := 0, recoveryTimer := some 5000000 }
        pos := z.pos.unloadStarted
        power := { z.power with mode := .parkedIdle, readiness := .loadDelay }
        attn := { z.attn with readiness := { raised := true, payload := 1 } } }))

/-- INDEX_EDGE in STOPPED, whether the power-on watch is open (R61) or has closed (R62): the platter is turning, and the spindle
enters BRAKING as R59 gives, with the watch closed; a start request then waits as the pending start (R47). In WAIT_ALLOWANCE an
edge updates the measurement and causes nothing else. -/
def Obligations.IndexEdgeAtRestBrakes : Prop :=
  ∀ (b : BayId) (elapsed : Nat) (s : State), s.calm → s.bayPresent b = true →
    let x := (s.bay b).spindle
    let p := min 65535 (x.counter + elapsed)
    let measured : Spindle :=
      if x.revolutionOpen then { x with counter := 0, period := p, deviation := deviationOf p }
      else { x with counter := 0, revolutionOpen := true }
    (x.state = .stopped →
      exec (.indexEdge b elapsed) s = .next (s.modBay b fun z => { z with spindle := { measured with
        state := .braking, drive := 0, firstIndexTimer := none, spinUpTimer := none, gapTimer := none, recoveryTimer := none
        brakeTimer := some 10000000, stopTimer := some 250000, watchOpen := false } })) ∧
    (x.state = .waitAllowance →
      exec (.indexEdge b elapsed) s = .next (s.modBay b fun z => { z with spindle := measured })) ∧
    (∀ k, x.state = .braking →
      s.startRequest b k = s.modBay b fun z => { z with spindle := { z.spindle with pendingStart := some k } })

/-- POWER_ON_WATCH_END of an open watch in STOPPED, and STOP_TIMER_EXPIRY in BRAKING or SPIN_FAILED, of a bay whose own work
rests, one in BAY_FAULT with its cartridge in and no eject request among them: the spindle is STOPPED with drive 0 and no timer of its stop. A pending start is taken in the same event; with the
allowance free it is granted. -/
def Obligations.SpindleComesToRest : Prop :=
  ∀ (b : BayId) (s : State), s.calm → s.bayPresent b = true → s.bayRests b = true →
    let x := (s.bay b).spindle
    let rest : Spindle := { x with
      state := .stopped, drive := 0, revolutionOpen := false, gapTimer := none, brakeTimer := none, stopTimer := none
      stopWaiting := false, watchOpen := false }
    let due (i : Instr) : Prop :=
      (i = .powerOnWatchEnd b ∧ x.watchOpen = true ∧ x.state = .stopped) ∨
      (i = .stopTimerExpiry b ∧ x.stopTimer.isSome = true ∧ (x.state = .braking ∨ x.state = .spinFailed))
    ∀ i, due i →
      (x.pendingStart = none → exec i s = .next (s.modBay b fun z => { z with spindle := rest })) ∧
      (∀ k, x.pendingStart = some k → s.allowHolder = none →
        exec i s = .next ({ s with allowHolder := some b }.modBay b fun z => { z with spindle := { rest with
          state := .accelerating, drive := 255, inRun := 0, outRun := 0, firstAtSpeed := false, failure := .none
          firstIndexTimer := some 3000000, spinUpTimer := some 15000000, purgeKind := k, pendingStart := none
          purgeRemaining := s.dmt.purge k } }))

/-- The expiry of the first-index, gap, spin-up, recovery or brake timer in the state that it supervises, in a bay without a
command whose heads are parked and whose record is clean: the spindle is SPIN_FAILED with the failure detail of that timer, the
allowance is given back, the bay is in BAY_FAULT with the same detail, and BAY_FAULT is raised with its code. The LED flashes in
BAY_FAULT (R193); that it starts lit is the model's choice (notes/assumptions/23.md). -/
def Obligations.SpindleFailureFaultsTheBay : Prop :=
  ∀ (b : BayId) (s : State), s.calm → s.allowanceKept → s.bayPresent b = true → s.allowWaiter = none →
    (s.bay b).slot = none → (s.bay b).job = none → (s.bay b).format = none → (s.bay b).flush = none →
    (s.bay b).reassign = none → (s.bay b).cart.state ≠ .bayFault → (s.bay b).cart.eject = none →
    (s.bay b).pos.state = .parked → (s.bay b).pos.seekFor = .nobody → (s.bay b).pos.heldSeekOwned = false →
    (s.bay b).power.mode = .unmounted → (s.bay b).power.entry = none → (s.bay b).tu.dirty = false →
    (∀ r ∈ s.slots, r.owner ≠ some b) → s.visiting b = false → s.chan.waiter ≠ some b → s.link.inFrame = none →
    let x := (s.bay b).spindle
    ∀ i d code, ((i, d, code) : Instr × SpinDetail × Byte) ∈
        [(Instr.firstIndexTimerExpiry b, SpinDetail.noIndex, 0x28), (.gapTimerExpiry b, .indexLost, 0x29),
          (.spinUpTimerExpiry b, .spinTimeout, 0x2A), (.recoveryTimerExpiry b, .speedLost, 0x2B),
          (.brakeTimerExpiry b, .brake, 0x2C)] →
      (i = .firstIndexTimerExpiry b → x.firstIndexTimer.isSome = true ∧ x.state = .accelerating) →
      (i = .gapTimerExpiry b → x.gapTimer.isSome = true ∧ x.state.spinning = true) →
      (i = .spinUpTimerExpiry b → x.spinUpTimer.isSome = true ∧ (x.state = .accelerating ∨ x.state = .regulating)) →
      (i = .recoveryTimerExpiry b → x.recoveryTimer.isSome = true ∧ x.state = .speedFault) →
      (i = .brakeTimerExpiry b → x.brakeTimer.isSome = true ∧ x.state = .braking) →
      exec i s =
        .next ({ s with allowHolder := if s.allowHolder = some b then none else s.allowHolder }.modBay b fun z => { z with
          spindle := { z.spindle with
            state := .spinFailed, drive := 0, failure := d, firstIndexTimer := none, spinUpTimer := none, gapTimer := none
            recoveryTimer := none, brakeTimer := none, stopTimer := some 250000, pendingStart := none }
          cart := { z.cart with
            state := .bayFault, fault := .spin d, settleTimer := none, lockConfirm := none, releaseConfirm := none
            startupWait := false }
          power := { z.power with unloadTimer := none, standbyTimer := none, wake := none }
          attn := { z.attn with bayFault := { raised := true, payload := code } }
          ledLit := true })

/-! ## Positioner events -/

/-- SERVO_SAMPLE of a bay without a visit, in every state of its Positioner; what ends a load attempt, a seek or FOLLOWING is in
PositionerRetriesOnce. Every sample is recorded, and a valid one gives the current cylinder; in PARKED, UNLOADING, RETRACTING and
ACT_FAULT, while RESET is held and after the power-fail latch it does nothing further. In LOADING an invalid one steps the sampler
gain through 1, 2 and 4, and a valid one begins calibration. In CALIBRATING the gain phase counts fields and gathers the burst sums of
samples with sync and no saturated amplitude; the eighth gives the gain of their mean and begins the bias phase, which gathers the
raw PES of valid samples; the eighth gives the bias, 32 at most, and the closing seek starts to the return cylinder. In SEEKING a
valid sample of another cylinder turns the drive toward the target, an invalid one changes nothing, and a valid one of the target
begins settling. In SETTLING a sample on the target and within the window raises the settle count, any other on it clears the count,
and the row's settle count brings FOLLOWING. In RECALIBRATING an invalid sample changes nothing. In FOLLOWING a valid sample of the
target ends both runs, gives the PES correction as drive, and makes the on-track signal what its PES against the write threshold says;
one of another track and an invalid one, short of OFF_CYLINDER and LOST_SERVO, add to their run and make the signal false. The model's
choices: the gain goes from 4 back to 1 (notes/assumptions/10.md); the arrival sample gives the PES correction already (12.md); the
drive direction is kept at a corrected PES of 0 and in CALIBRATING (33.md); the runs in SETTLING (35.md); the on-track signal at the
entry to FOLLOWING (39.md); a closing seek at distance 0 drives inward (62.md); the end of the bias phase leaves the progress (64.md);
a read of the sample under way, or its wait for the bus, ends (106.md). -/
def Obligations.ServoSampleActsByState : Prop :=
  ∀ (b : BayId) (w : ServoWord) (s : State), s.bayPresent b = true →
    let p := (s.bay b).pos
    let x := sampleOf w p.bias
    let recorded : Positioner := { p with last := some x, current := if x.valid then x.track else p.current }
    let with_ (q : Positioner) : State :=
      { s with servo := {
          reading := s.servo.reading.filter fun r => r.bay != b
          waiter := s.servo.waiter.filter fun y => y != b } }.modBay b fun z => { z with pos := q }
    let corrected (q : Positioner) : Positioner := { q with
      driveDir := if 0 < x.pes then .outward else if x.pes < 0 then .inward else p.driveDir
      driveMag := min 15 (x.pes.natAbs / 16) }
    (s.resetHeld = true ∨ s.powerLoss = true → exec (.servoSample b w) s = .next (with_ recorded)) ∧
    (s.calm → s.visiting b = false →
      (p.state ∈ [PosState.parked, .unloading, .retracting, .actFault] →
        exec (.servoSample b w) s = .next (with_ recorded)) ∧
      (p.state = .loading → x.valid = false →
        exec (.servoSample b w) s =
          .next (with_ { recorded with gain := if p.gain = 1 then 2 else if p.gain = 2 then 4 else 1 })) ∧
      (p.state = .loading → x.valid = true →
        exec (.servoSample b w) s = .next (with_ { recorded with
          state := .calibrating, loadTimer := none, gain := 1, driveMag := 0
          calibration := { biasPhase := false, gathered := 0, fields := 0, sum := 0 } })) ∧
      (p.state = .calibrating → p.calibration.biasPhase = false →
        let counts := x.sync = true ∧ x.ampA ≠ 255 ∧ x.ampB ≠ 255
        let gathered := if counts then p.calibration.gathered + 1 else p.calibration.gathered
        let sum : Int := if counts then p.calibration.sum + (x.ampA + x.ampB : Nat) else p.calibration.sum
        (gathered ≠ 8 → p.calibration.fields + 1 < 64 →
          exec (.servoSample b w) s = .next (with_ { recorded with calibration := {
            biasPhase := false, gathered := gathered, fields := p.calibration.fields + 1, sum := sum } })) ∧
        (gathered = 8 → 6 ≤ sum.toNat / 8 →
          exec (.servoSample b w) s = .next (with_ { recorded with
            gain := if sum.toNat / 8 < 64 then 4 else if sum.toNat / 8 < 128 then 2 else 1
            calibration := { biasPhase := true, gathered := 0, fields := 0, sum := 0 } }))) ∧
      (p.state = .calibrating → p.calibration.biasPhase = true →
        let gathered := if x.valid = true then p.calibration.gathered + 1 else p.calibration.gathered
        let sum : Int := if x.valid = true then p.calibration.sum + x.rawPes else p.calibration.sum
        (gathered ≠ 8 → p.calibration.fields + 1 < 64 →
          exec (.servoSample b w) s = .next (with_ { recorded with calibration := {
            biasPhase := true, gathered := gathered, fields := p.calibration.fields + 1, sum := sum } })) ∧
        (∀ row, gathered = 8 → (Int.tdiv sum 8).natAbs ≤ 32 → p.reloadTarget = none → p.heldSeek = none →
          s.chan.waiter ≠ some b →
          s.profile.find? (fun r => decide (recorded.distance { cyl := p.returnCyl, head := p.head } ≤ r.bound)) = some row →
          exec (.servoSample b w) s = .next (with_ { recorded with
            bias := Int.tdiv sum 8, calibrated := true, retryUsed := false, reloadUsed := false, seekFor := .nobody
            givingUp := false, state := .seeking, target := some { cyl := p.returnCyl, head := p.head }, row := some row
            seekTimer := some (row.timeout * 1000), settleCount := 0, onTrack := false
            driveDir := if recorded.current ≤ p.returnCyl then .inward else .outward, driveMag := row.velocity }))) ∧
      (∀ t, p.state = .seeking → p.target = some t → x.valid = true → x.track = t.cyl →
        exec (.servoSample b w) s = .next (with_ (corrected { recorded with state := .settling, settleCount := 0 }))) ∧
      (∀ t, p.state = .seeking → p.target = some t → x.valid = true → x.track ≠ t.cyl →
        exec (.servoSample b w) s =
          .next (with_ { recorded with driveDir := if x.track < t.cyl then .inward else .outward })) ∧
      (p.state = .seeking ∨ p.state = .recalibrating → x.valid = false →
        exec (.servoSample b w) s = .next (with_ recorded)) ∧
      (∀ t row, p.state = .settling → p.target = some t → p.row = some row → (x.valid = true → x.track = t.cyl) →
        let count := if x.valid = true ∧ x.pes.natAbs ≤ row.window then p.settleCount + 1 else 0
        let counted : Positioner := { recorded with
          settleCount := count, wrongRun := 0, invalidRun := if x.valid = true then 0 else min 4 (p.invalidRun + 1) }
        (count < row.settleCount →
          exec (.servoSample b w) s = .next (with_ (if x.valid = true then corrected counted else counted))) ∧
        (x.valid = true → row.settleCount ≤ count → (s.bay b).job = none → (s.bay b).slot = none →
          (s.bay b).power.wake = none → p.heldSeek = none →
          exec (.servoSample b w) s = .next (with_ (corrected { counted with
            state := .following, returnCyl := t.cyl, seekTimer := none, writeThreshold := s.dmt.writeThreshold
            onTrack := decide (x.pes.natAbs ≤ s.dmt.writeThreshold), loadOpen := false, seekFor := .nobody
            givingUp := false, reloadTarget := none })))) ∧
      (∀ t, p.state = .following → p.target = some t → x.valid = true → x.track = t.cyl →
        exec (.servoSample b w) s = .next (with_ (corrected { recorded with
          wrongRun := 0, invalidRun := 0, onTrack := decide (x.pes.natAbs ≤ p.writeThreshold) }))) ∧
      (∀ t, p.state = .following → p.target = some t → x.valid = true → x.track ≠ t.cyl → p.wrongRun + 1 < 2 →
        exec (.servoSample b w) s = .next (with_ (corrected { recorded with
          wrongRun := p.wrongRun + 1, invalidRun := 0, onTrack := false }))) ∧
      (∀ t, p.state = .following → p.target = some t → x.valid = false → p.invalidRun + 1 < 4 →
        exec (.servoSample b w) s = .next (with_ { recorded with
          wrongRun := 0, invalidRun := p.invalidRun + 1, onTrack := false })))

/-- The first failure of a load attempt, of a seek and of a recalibration, and what follows it, with no park sensor reading and the
bay's own work at rest. LOAD_TIMER_EXPIRY in the first attempt of LOADING, and there in CALIBRATING a sample that ends the gain phase
with a mean sum below 6, the bias phase with a bias above 32, or either with its sixty-fourth field, unload the heads for a second
load with the orders left open. SEEK_TIMER_EXPIRY in SEEKING or SETTLING, and a valid sample of another track in SETTLING, begin a
recalibration outward at magnitude 1, to seek again where the retry is unused and to give up where it is used; the seek timer is
stopped then by the model's choice (notes/assumptions/12.md). The first valid sample of RECALIBRATING ends it: the heads seek their
target again from the cylinder found (at distance 0 inward, 62.md), or give up and enter FOLLOWING there, driven by its PES, with the
direction at a corrected PES of 0 kept (33.md) and the on-track signal as the sample gives it (39.md). RECALIBRATE_TIMER_EXPIRY with
the reload unused unloads the heads for the reload. In FOLLOWING the second valid sample of another track is OFF_CYLINDER: the heads
seek their target again; the fourth invalid sample is LOST_SERVO: a recalibration begins. Both use the retry, and an operation at the
track waits to regain it. The runs in SETTLING count as in FOLLOWING by the model's choice (35.md). -/
def Obligations.PositionerRetriesOnce : Prop :=
  ∀ (b : BayId) (s : State), s.calm → s.bayPresent b = true → s.visiting b = false → s.chan.waiter ≠ some b →
    (s.bay b).pos.parked = false →
    let p := (s.bay b).pos
    let leaving (again : Again) (q : Positioner) : Positioner := { q with
      state := .unloading, target := none, calibrated := false, onTrack := false, loadTimer := none, seekTimer := none
      recalTimer := none, unloadTimer := some 300000, driveDir := .outward, driveMag := 4, again := again }
    let recalibrating (q : Positioner) : Positioner := { q with
      retryUsed := true, state := .recalibrating, recalTimer := some 100000, seekTimer := none, onTrack := false
      driveDir := .outward, driveMag := 1 }
    (s.bayRests b = true →
      (p.loadTimer.isSome = true → p.state = .loading → p.loadAttempts < 2 →
        exec (.loadTimerExpiry b) s = .next (s.modBay b fun z => { z with pos := leaving .secondLoad p })) ∧
      (p.recalTimer.isSome = true → p.reloadUsed = false →
        exec (.recalibrateTimerExpiry b) s = .next (s.modBay b fun z => { z with pos := { leaving .reload p with
          reloadUsed := true, reloadTarget := p.target } }))) ∧
    (p.seekTimer.isSome = true → p.state = .seeking ∨ p.state = .settling →
      exec (.seekTimerExpiry b) s = .next (s.modBay b fun z => { z with pos := { recalibrating p with
        lastCause := .seekTimeout, givingUp := p.retryUsed } })) ∧
    (∀ w : ServoWord,
      let x := sampleOf w p.bias
      let recorded : Positioner := { p with last := some x, current := if x.valid then x.track else p.current }
      let from_ : State := { s with servo := {
          reading := s.servo.reading.filter fun r => r.bay != b
          waiter := s.servo.waiter.filter fun y => y != b } }
      let with_ (q : Positioner) : State := from_.modBay b fun z => { z with pos := q }
      let corrected (q : Positioner) : Positioner := { q with
        driveDir := if 0 < x.pes then .outward else if x.pes < 0 then .inward else p.driveDir
        driveMag := min 15 (x.pes.natAbs / 16) }
      let astray (q : Positioner) : State := from_.modBay b fun z => { z with
        pos := q
        job := z.job.map fun j => if j.stage = .atTrack then { j with stage := .regain } else j }
      let reseek (t : Track) (row : SeekRow) (q : Positioner) : Positioner := { q with
        state := .seeking, target := some t, head := t.head, row := some row, seekTimer := some (row.timeout * 1000)
        settleCount := 0, onTrack := false, driveDir := if x.track ≤ t.cyl then .inward else .outward
        driveMag := row.velocity }
      (s.bayRests b = true → p.state = .calibrating → p.loadAttempts < 2 →
        let c := p.calibration
        let forGain := x.sync = true ∧ x.ampA ≠ 255 ∧ x.ampB ≠ 255
        let counts := if c.biasPhase = true then x.valid = true else forGain
        let gathered := if counts then c.gathered + 1 else c.gathered
        let sum : Int := if c.biasPhase = true then (if x.valid = true then c.sum + x.rawPes else c.sum)
          else if forGain then c.sum + (x.ampA + x.ampB : Nat) else c.sum
        (gathered = 8 → (if c.biasPhase = true then 32 < (Int.tdiv sum 8).natAbs else sum.toNat / 8 < 6) →
          exec (.servoSample b w) s = .next (with_ (leaving .secondLoad recorded))) ∧
        (gathered ≠ 8 → 64 ≤ c.fields + 1 →
          exec (.servoSample b w) s = .next (with_ (leaving .secondLoad recorded)))) ∧
      (∀ t row, p.state = .settling → p.target = some t → p.row = some row → x.valid = true → x.track ≠ t.cyl →
        exec (.servoSample b w) s = .next (with_ { recalibrating recorded with
          lastCause := .trackMismatch, givingUp := p.retryUsed, wrongRun := min 2 (p.wrongRun + 1), invalidRun := 0 })) ∧
      (∀ t row, p.state = .recalibrating → x.valid = true → p.givingUp = false → p.target = some t →
        s.profile.find? (fun r => decide (recorded.distance t ≤ r.bound)) = some row →
        exec (.servoSample b w) s = .next (with_ (reseek t row { recorded with recalTimer := none }))) ∧
      (p.state = .recalibrating → x.valid = true → p.givingUp = true → (s.bay b).job = none → (s.bay b).slot = none →
        (s.bay b).power.wake = none → p.heldSeek = none →
        exec (.servoSample b w) s = .next (with_ (corrected { recorded with
          recalTimer := none, state := .following, target := some { cyl := x.track, head := p.head }, returnCyl := x.track
          seekTimer := none, wrongRun := 0, invalidRun := 0, writeThreshold := s.dmt.writeThreshold
          onTrack := decide (x.pes.natAbs ≤ s.dmt.writeThreshold), loadOpen := false, seekFor := .nobody
          givingUp := false, reloadTarget := none }))) ∧
      (∀ t row, p.state = .following → p.target = some t → x.valid = true → x.track ≠ t.cyl → 2 ≤ p.wrongRun + 1 →
        s.profile.find? (fun r => decide (recorded.distance t ≤ r.bound)) = some row →
        exec (.servoSample b w) s = .next (astray (reseek t row { recorded with
          wrongRun := p.wrongRun + 1, invalidRun := 0, retryUsed := true, reloadUsed := false, seekFor := .regain
          givingUp := false }))) ∧
      (∀ t, p.state = .following → p.target = some t → x.valid = false → 4 ≤ p.invalidRun + 1 →
        exec (.servoSample b w) s = .next (astray { recalibrating recorded with
          wrongRun := 0, invalidRun := p.invalidRun + 1, reloadUsed := false, seekFor := .regain, givingUp := false })))

/-- POSITIONER_UNLOAD_TIMER_EXPIRY in UNLOADING with no order in work: the retract output finishes the unload, and the retract timer
runs; a load order held in UNLOADING stays held, by the model's choice (notes/assumptions/63.md). RETRACT_TIMER_EXPIRY in a bay
that is in BAY_FAULT already, before and after the power-fail latch: the Positioner is in ACT_FAULT, with detail UNLOAD when an
unload timed out before and RETRACT otherwise; after the latch the first of these is the model's choice (notes/assumptions/88.md).
RETRACT_TIMER_EXPIRY in a bay not yet in BAY_FAULT, without a command and with a clean record: the bay is in BAY_FAULT with detail
ACTUATOR and the Positioner's detail (R110), BAY_FAULT is raised, the bay leaves its power modes, with READINESS raised where its
class changes, and the stop request brakes a spindle that turns. That its LED starts lit is the model's choice
(notes/assumptions/23.md). -/
def Obligations.RetractFollowsUnload : Prop :=
  ∀ (b : BayId) (s : State), s.bayPresent b = true →
    let p := (s.bay b).pos
    (s.calm → s.bayRests b = true → p.parked = false → (s.bay b).job = none → p.unloadTimer.isSome = true →
      p.state = .unloading → p.loadOpen = false → p.seekFor = .nobody → p.heldSeek = none →
      exec (.positionerUnloadTimerExpiry b) s = .next (s.modBay b fun z => { z with pos := { p with
        unloadTimedOut := true, state := .retracting, target := none, calibrated := false, onTrack := false
        loadTimer := none, seekTimer := none, recalTimer := none, unloadTimer := none
        retractTimer := some (p.retractTimer.getD 500000), driveMag := 0, heldSeekOwned := false, reloadTarget := none
        givingUp := false, again := .nothing } })) ∧
    (let d : ActDetail := if p.unloadTimedOut then .unload else .retract
     let failed : Positioner := { p with
        state := .actFault, fault := d, target := none, onTrack := false
        loadTimer := none, seekTimer := none, recalTimer := none, unloadTimer := none, retractTimer := none
        driveMag := 0, pendingFault := none, unloadTimedOut := false, loadOpen := false, heldLoad := none
        heldSeek := none, heldSeekOwned := false, seekFor := .nobody, givingUp := false, again := .nothing
        reloadTarget := none }
     (s.resetHeld = false → s.powerLoss = true ∨ (s.calm ∧ (s.bay b).cart.state = .bayFault) → s.signals = [] →
      p.retractTimer.isSome = true →
      exec (.retractTimerExpiry b) s = .next (s.modBay b fun z => { z with pos := failed })) ∧
     (s.calm → p.retractTimer.isSome = true → p.parked = false → (s.bay b).cart.state ≠ .bayFault → (s.bay b).cart.eject = none →
      (s.bay b).slot = none → (s.bay b).job = none → (s.bay b).reassign = none → (s.bay b).flush = none →
      (s.bay b).format = none → (s.bay b).power.entry = none → (s.bay b).tu.dirty = false →
      (∀ r ∈ s.slots, r.owner ≠ some b) → s.visiting b = false → s.chan.waiter ≠ some b → s.link.inFrame = none →
      let x := (s.bay b).spindle
      (x.state = .stopped ∧ x.watchOpen = false) ∨ x.state ∈ [.regulating, .atSpeed, .speedFault] →
      exec (.retractTimerExpiry b) s = .next (s.modBay b fun z => { z with
        pos := failed
        spindle :=
          if x.state = .stopped then x
          else { x with
            state := .braking, drive := 0, firstIndexTimer := none, spinUpTimer := none, gapTimer := none
            recoveryTimer := none, brakeTimer := some 10000000, stopTimer := some 250000, watchOpen := false
            stopWaiting := true }
        cart := { z.cart with
          state := .bayFault, fault := .actuator d, settleTimer := none, lockConfirm := none, releaseConfirm := none
          startupWait := false }
        power := { z.power with
          mode := .unmounted, unloadTimer := none, standbyTimer := none, readiness := .unavailable, wake := none }
        attn := { z.attn with
          bayFault := { raised := true, payload := if p.unloadTimedOut then 0x34 else 0x35 }
          readiness :=
            if z.power.mode = .unmounted then z.attn.readiness else { raised := true, payload := 3 } }
        ledLit := true })))

/-- PARK_SENSOR_CHANGE. In UNLOADING and RETRACTING a sensor that reads parked ends the movement in PARKED, here with no load
waiting, no pending fault and the bay's own work at rest; in PARKED a sensor that no longer reads parked begins a retract, but
after the power-fail latch PARKED stays; in the loaded states only the level is recorded. -/
def Obligations.ParkSensorEndsTheUnload : Prop :=
  ∀ (b : BayId) (s : State), s.bayPresent b = true →
    let p := (s.bay b).pos
    (s.calm → s.bayRests b = true →
      (p.state = .unloading ∨ p.state = .retracting → p.pendingFault = none → p.again = .nothing → p.heldLoad = none →
        exec (.parkSensorChange b true) s = .next (s.modBay b fun z => { z with pos := { p with
          parked := true, state := .parked, driveMag := 0, unloadTimer := none, retractTimer := none
          unloadTimedOut := false, calibrated := false, again := .nothing } })) ∧
      (p.state = .parked → (s.bay b).job = none → p.loadOpen = false → p.seekFor = .nobody → p.heldSeek = none →
        exec (.parkSensorChange b false) s = .next (s.modBay b fun z => { z with pos := { p with
          parked := false, state := .retracting, target := none, calibrated := false, onTrack := false, loadTimer := none
          seekTimer := none, recalTimer := none, unloadTimer := none, retractTimer := some (p.retractTimer.getD 500000)
          driveMag := 0, heldSeekOwned := false, reloadTarget := none, givingUp := false, again := .nothing } })) ∧
      (∀ parked, p.state.loaded = true →
        exec (.parkSensorChange b parked) s = .next (s.modBay b fun z => { z with pos := { p with parked := parked } }))) ∧
    (∀ parked, s.resetHeld = false → s.powerLoss = true → s.signals = [] → p.state = .parked →
      exec (.parkSensorChange b parked) s = .next (s.modBay b fun z => { z with pos := { p with parked := parked } }))

/-! ## Cartridge events -/

/-- PRESENT_ACCEPTED in EMPTY: the bay is SEATED with the settle timer running, and INSERTED is raised with the write-protect
level. PRESENT_LOST in SEATED: the bay is EMPTY and REMOVED is raised; that it clears nothing of R103 is the model's choice
(notes/assumptions/17.md). A start-up release that the bay still owes, here one that rests, is issued in the same event when the heads
are confirmed parked and the spindle is at rest (R90, R112), and stays owed otherwise; that a cartridge seated before it leaves it owed
is the model's choice (notes/assumptions/51.md). In the other states in which no cartridge state follows from it only the level is recorded. -/
def Obligations.CartridgeComesAndGoes : Prop :=
  ∀ (b : BayId) (s : State), s.calm → s.bayPresent b = true →
    let c := (s.bay b).cart
    (c.state = .empty →
      exec (.presentAccepted b) s = .next (s.modBay b fun x => { x with
        cart := { c with cartridgeIn := true, state := .seated, settleTimer := some 500000 }
        attn := { x.attn with inserted := { raised := true, payload := if c.wpProtected then 1 else 0 } } }) ∧
      exec (.presentLost b) s = .next (s.modBay b fun x => { x with cart := { c with cartridgeIn := false } })) ∧
    (c.state ≠ .empty →
      exec (.presentAccepted b) s = .next (s.modBay b fun x => { x with cart := { c with cartridgeIn := true } })) ∧
    (c.state = .seated →
      let left : Cartridge := { c with cartridgeIn := false, state := .empty, settleTimer := none }
      let gone (y : Cartridge) : State := s.modBay b fun x => { x with
        cart := y
        attn := { x.attn with removed := { raised := true, payload := 0 } } }
      let still : Prop := (s.bay b).pos.confirmedParked = true ∧ (s.bay b).spindle.atRest = true
      (c.startupRelease = false → exec (.presentLost b) s = .next (gone left)) ∧
      (c.startupRelease = true → s.bayRests b = true →
        (still → exec (.presentLost b) s = .next (gone { left with
          lockPulse := false, releasePulse := true, pulseTimer := some 50000, releaseConfirm := some 200000
          startupRelease := false })) ∧
        (¬ still → exec (.presentLost b) s = .next (gone left))))

/-- PRESENT_LOST in RELEASED or RELEASING, with no EJECT waiting on the request and no start-up release waiting: the cartridge is
removed. The bay is EMPTY with
REMOVED raised, the Translation Unit holds its power-on values, the flags, details, request, attempts and timers of the Cartridge
Handler are cleared, and a Positioner left in ACT_FAULT whose park sensor reads parked is PARKED. -/
def Obligations.RemovalClearsTheBay : Prop :=
  ∀ (b : BayId) (s : State), s.calm → s.bayPresent b = true →
    (s.bay b).cart.state = .released ∨ (s.bay b).cart.state = .releasing → (s.bay b).power.mode = .unmounted →
    (∀ e, (s.bay b).cart.eject = some e → e.commandWaits = false) → (s.bay b).cart.startupRelease = false →
    exec (.presentLost b) s = .next (s.modBay b fun x => { x with
      tu := Translation.reset
      cart := { x.cart with
        cartridgeIn := false, state := .empty, mountDetail := .none, fault := .none, preventRemoval := false
        unitChanged := false, eject := none, lockAttempts := 0, settleTimer := none, lockConfirm := none
        releaseConfirm := none }
      pos := if x.pos.state = .actFault ∧ x.pos.parked = true then { x.pos with state := .parked } else x.pos
      power := { x.power with unloadTimer := none, standbyTimer := none, entry := none, wake := none }
      attn := { x.attn with removed := { raised := true, payload := 0 } } })

/-- WRITE_PROTECT_CHANGE of a bay without a visit: a change to protected discards a dirty record, with RECORD_DISCARDED of cause
0x03; otherwise only the level is recorded. -/
def Obligations.WriteProtectDiscardsADirtyRecord : Prop :=
  ∀ (b : BayId) (s : State), s.calm → s.bayPresent b = true → s.visiting b = false →
    let level (p : Bool) (x : Bay) : Bay := { x with cart := { x.cart with wpProtected := p } }
    ((s.bay b).tu.dirty = true →
      exec (.writeProtectChange b true) s = .next (s.modBay b fun x => { level true x with
        tu := { x.tu with dirty := false }
        attn := { x.attn with recordDiscarded := { raised := true, payload := 3 } } })) ∧
    ((s.bay b).tu.dirty = false → exec (.writeProtectChange b true) s = .next (s.modBay b (level true))) ∧
    exec (.writeProtectChange b false) s = .next (s.modBay b (level false))

/-- LOCK_SENSE_ENGAGED within the window of a lock pulse in LOCKING, with AUTOSPIN high, the spindle at rest and the allowance
free: the lock is confirmed, the bay is SPINNING_UP, and its spindle is granted the allowance with the insertion purge. Outside a
window only the level is recorded. LOCK_SENSE_OPEN within the window of a release pulse in RELEASING, with the heads not loaded
and no EJECT waiting: the release is confirmed, and the bay is RELEASED without a request. LOCK_SENSE_OPEN and PRESENT_LOST of a
bay in IDLE with a clean record are a lock fault: the heads retract, the spindle brakes, and the bay is in BAY_FAULT with detail
LOCK_LOST, with BAY_FAULT and READINESS UNAVAILABLE raised; that its LED starts lit is the model's choice
(notes/assumptions/23.md). -/
def Obligations.LockSenseConfirmsItsPulse : Prop :=
  ∀ (b : BayId) (s : State), s.calm → s.bayPresent b = true →
    let c := (s.bay b).cart
    (c.state = .locking → c.lockConfirm.isSome = true → c.eject = none → s.autospinHigh = true →
      (s.bay b).spindle.state = .stopped → (s.bay b).spindle.watchOpen = false → s.allowHolder = none →
      exec (.lockSenseEngaged b) s = .next ({ s with allowHolder := some b }.modBay b fun x => { x with
        cart := { c with
          lockEngaged := true, state := .spinningUp, lockConfirm := none, lockAttempts := 0, startupWait := false }
        spindle := { x.spindle with
          state := .accelerating, drive := 255, revolutionOpen := false, inRun := 0, outRun := 0, firstAtSpeed := false
          failure := .none, firstIndexTimer := some 3000000, spinUpTimer := some 15000000, gapTimer := none
          purgeKind := .insertion, pendingStart := none, purgeRemaining := s.dmt.insertionPurge } })) ∧
    (c.state ≠ .locking ∨ c.lockConfirm = none →
      exec (.lockSenseEngaged b) s = .next (s.modBay b fun x => { x with cart := { c with lockEngaged := true } })) ∧
    (c.state = .releasing → c.releaseConfirm.isSome = true → (∀ e, c.eject = some e → e.commandWaits = false) →
      (s.bay b).pos.state.loaded = false →
      exec (.lockSenseOpen b) s = .next (s.modBay b fun x => { x with
        cart := { c with lockEngaged := false, state := .released, releaseConfirm := none, eject := none } })) ∧
    (c.state ∈ [.empty, .seated, .locking, .released, .bayFault] → (s.bay b).pos.state.loaded = false →
      exec (.lockSenseOpen b) s = .next (s.modBay b fun x => { x with cart := { c with lockEngaged := false } })) ∧
    (∀ t at_, s.readyAt b t at_ → (s.bay b).tu.dirty = false → (s.bay b).format = none → s.link.inFrame = none →
      (∀ r ∈ s.slots, r.owner ≠ some b) →
      ∀ il ∈ [(Instr.lockSenseOpen b, { c with lockEngaged := false }), (.presentLost b, { c with cartridgeIn := false })],
        exec il.1 s = .next (s.modBay b fun x => { x with
          spindle := { x.spindle with
            state := .braking, drive := 0, firstIndexTimer := none, spinUpTimer := none, gapTimer := none
            recoveryTimer := none, brakeTimer := some 10000000, stopTimer := some 250000, watchOpen := false
            stopWaiting := true }
          pos := { x.pos with
            state := .retracting, target := none, calibrated := false, onTrack := false, loadTimer := none
            seekTimer := none, recalTimer := none, unloadTimer := none
            retractTimer := some (x.pos.retractTimer.getD 500000), driveMag := 0, heldSeekOwned := false
            reloadTarget := none, givingUp := false, again := .nothing }
          cart := { il.2 with
            state := .bayFault, fault := .lockLost, settleTimer := none, lockConfirm := none, releaseConfirm := none
            startupWait := false }
          power := { x.power with mode := .unmounted, unloadTimer := none, standbyTimer := none, readiness := .unavailable }
          attn := { x.attn with
            bayFault := { raised := true, payload := 0x21 }, readiness := { raised := true, payload := 3 } }
          ledLit := true }))

/-- EJECT_BUTTON_PRESS from released to pressed, with removal prevented, raises EJECT_REQUEST and does nothing else; with a request
already there it does nothing. In SEATED it stops the settle timer and the bay is RELEASED; in RELEASED it drives the first lock
pulse, and the bay is LOCKING (R90); a release pulse still driven then ends at once, by the model's choice
(notes/assumptions/67.md). In EMPTY, FORMATTING, UNMOUNTING and RELEASING it is ignored. In the other states it opens a request. In
LOCKING, and in MOUNTING while the record is read, the request waits there for what is under way. With a clean record, nothing in
the slot and the heads in a loaded state, a bay in MOUNTED, UNFORMATTED, or MOUNTING with its heads under way is UNMOUNTING, past its
flush, and the heads unload; a bay in SPINNING_UP, its heads parked and its spindle in REGULATING or AT_SPEED, is UNMOUNTING past its
unload, and the spindle brakes. A bay that leaves MOUNTED leaves its power modes, with READINESS UNAVAILABLE. A working READ of a
MOUNTED bay is stopped first, at its block's end, and the request waits for that. In BAY_FAULT the first release pulse is driven where
the heads are confirmed parked and the spindle is at rest, and the request waits for both where they are not. A button held down and
a button let go change only the level, by the model's choice (notes/assumptions/7.md). -/
def Obligations.EjectButtonActsByState : Prop :=
  ∀ (b : BayId) (s : State), s.calm → s.bayPresent b = true →
    let c := (s.bay b).cart
    let level (x : Cartridge) (down : Bool) : State := s.modBay b fun y => { y with cart := { x with buttonDown := down } }
    exec (.ejectButtonPress ⟨b, false⟩) s = .next (level c false) ∧
    (c.buttonDown = true → exec (.ejectButtonPress ⟨b, true⟩) s = .next s) ∧
    (c.buttonDown = false →
      (c.preventRemoval = true →
        exec (.ejectButtonPress ⟨b, true⟩) s = .next ((level c true).modBay b fun y => { y with
          attn := { y.attn with ejectRequest := { raised := true, payload := 0 } } })) ∧
      (c.preventRemoval = false →
        (c.eject.isSome = true → exec (.ejectButtonPress ⟨b, true⟩) s = .next (level c true)) ∧
        (c.eject = none →
          let request (phase : EjectPhase) : Option Eject :=
            some { source := .button, commandWaits := false, phase := phase, discarded := false }
          let free : Prop := (s.bay b).slot = none ∧ (s.bay b).job = none ∧ (s.bay b).power.entry = none ∧
            (s.bay b).power.wake = none ∧ (s.bay b).flush = none ∧ (s.bay b).tu.dirty = false ∧ s.link.inFrame = none ∧
            s.visiting b = false ∧ s.chan.waiter ≠ some b
          let unmounting (phase : EjectPhase) : Cartridge :=
            { c with state := .unmounting, startupWait := false, eject := request phase }
          (c.state ∈ [.empty, .formatting, .unmounting, .releasing] → exec (.ejectButtonPress ⟨b, true⟩) s = .next (level c true)) ∧
          (c.state = .locking →
            exec (.ejectButtonPress ⟨b, true⟩) s = .next (level { c with eject := request .cancel } true)) ∧
          (∀ j, c.state = .mounting → (s.bay b).job = some j → j.stage = .atTrack ∨ j.stage = .regain →
            exec (.ejectButtonPress ⟨b, true⟩) s = .next (level { c with eject := request .cancel } true)) ∧
          ((∃ t at_, s.readyAt b t at_) → (s.bay b).tu.dirty = false → s.link.inFrame = none →
            exec (.ejectButtonPress ⟨b, true⟩) s = .next ((level (unmounting .unload) true).modBay b fun y => { y with
              power := { y.power with
                mode := .unmounted, unloadTimer := none, standbyTimer := none, readiness := .unavailable }
              attn := { y.attn with readiness := { raised := true, payload := 3 } }
              pos := y.pos.unloadStarted })) ∧
          (c.state = .unformatted → free → (s.bay b).power.mode = .unmounted → (s.bay b).pos.state.loaded = true →
            (s.bay b).pos.parked = false →
            exec (.ejectButtonPress ⟨b, true⟩) s = .next ((level (unmounting .unload) true).modBay b fun y => { y with
              power := { y.power with unloadTimer := none, standbyTimer := none }
              pos := y.pos.unloadStarted })) ∧
          (∀ j, c.state = .mounting → (s.bay b).job = some j → j.stage ∈ [.loading, .loadingToSeek, .seeking] →
            (s.bay b).slot = none → (s.bay b).power.mode = .unmounted → (s.bay b).power.entry = none →
            (s.bay b).power.wake = none → (s.bay b).flush = none → (s.bay b).tu.dirty = false →
            s.link.inFrame = none → s.visiting b = false → s.chan.waiter ≠ some b → (∀ r ∈ s.slots, r.owner ≠ some b) →
            (s.bay b).pos.state.loaded = true → (s.bay b).pos.parked = false →
            exec (.ejectButtonPress ⟨b, true⟩) s = .next ((level (unmounting .unload) true).modBay b fun y => { y with
              job := none
              power := { y.power with unloadTimer := none, standbyTimer := none }
              pos := y.pos.unloadStarted })) ∧
          (c.state = .spinningUp → free → (s.bay b).power.mode = .unmounted → (s.bay b).pos.state = .parked →
            (s.bay b).spindle.state = .regulating ∨ (s.bay b).spindle.state = .atSpeed →
            exec (.ejectButtonPress ⟨b, true⟩) s = .next ((level (unmounting .brake) true).modBay b fun y => { y with
              power := { y.power with unloadTimer := none, standbyTimer := none }
              spindle := { y.spindle with
                state := .braking, drive := 0, firstIndexTimer := none, spinUpTimer := none, gapTimer := none
                recoveryTimer := none, brakeTimer := some 10000000, stopTimer := some 250000, watchOpen := false
                pendingStart := none, stopWaiting := true } })) ∧
          (∀ x v, c.state = .mounted → (s.bay b).slot = some x → x.op = .read → x.wait = .working → x.stop = none →
            x.result = none → s.chan.visit = some v → v.bay = b → v.phase = .reading → (s.bay b).job.map (fun j => j.stage) = some .atTrack →
            (∀ d ∈ s.link.queue, Desc.isReportOf (.bay b) d = false) →
            exec (.ejectButtonPress ⟨b, true⟩) s = .next ((level { c with eject := request .waitStop } true).modBay b fun y =>
              { y with slot := some { x with stop := some .eject } })) ∧
          (c.state = .bayFault → free → (s.bay b).pos.rests = true →
            ((s.bay b).pos.confirmedParked = true → (s.bay b).spindle.atRest = true → c.cartridgeIn = true →
              c.lockEngaged = true →
              exec (.ejectButtonPress ⟨b, true⟩) s = .next (level { c with
                state := .releasing, lockAttempts := 1, lockPulse := false, releasePulse := true, pulseTimer := some 50000
                releaseConfirm := some 200000, eject := request .release } true)) ∧
            ((s.bay b).pos.confirmedParked = false ∨ (s.bay b).spindle.atRest = false →
              exec (.ejectButtonPress ⟨b, true⟩) s = .next (level { c with eject := request .faultWait } true))) ∧
          (c.state = .seated →
            exec (.ejectButtonPress ⟨b, true⟩) s = .next (level { c with settleTimer := none, state := .released } true)) ∧
          (c.state = .released → c.lockEngaged = false →
            exec (.ejectButtonPress ⟨b, true⟩) s = .next (level { c with
              state := .locking, lockAttempts := 1, lockPulse := true, releasePulse := false, pulseTimer := some 50000
              lockConfirm := some 200000, startupWait := false } true)))))

/-- The Cartridge Handler's timers. SETTLE_TIMER_EXPIRY in SEATED drives the first lock pulse; LOCK_CONFIRM_EXPIRY of the first
attempt in LOCKING drives the second; RELEASE_CONFIRM_EXPIRY of the first attempt in RELEASING drives the second release pulse
when the heads are parked and the spindle is STOPPED; PULSE_END releases a pulse. The lock sense does not confirm a pulse by
itself in any of these. The second expiry of either window, in LOCKING and in RELEASING, in a bay with no command, parked heads and
a clean record: the bay is in BAY_FAULT with detail LOCK, BAY_FAULT is raised with its code, and the request of a RELEASING bay is
cleared, that of a button by the model's choice (notes/assumptions/47.md), as is that the LED of the faulted bay starts lit
(notes/assumptions/23.md). -/
def Obligations.CartridgeTimersDriveThePulses : Prop :=
  ∀ (b : BayId) (s : State), s.calm → s.bayPresent b = true →
    let c := (s.bay b).cart
    let with_ (x : Cartridge) : State := s.modBay b fun y => { y with cart := x }
    let locking (attempts : Nat) : Cartridge := { c with
      state := .locking, lockAttempts := attempts, lockPulse := true, releasePulse := false, pulseTimer := some 50000
      lockConfirm := some 200000, startupWait := false }
    (c.settleTimer.isSome = true → c.state = .seated → c.lockEngaged = false →
      exec (.settleTimerExpiry b) s = .next (with_ { locking 1 with settleTimer := none })) ∧
    exec (.pulseEnd b) s = .next (with_ { c with lockPulse := false, releasePulse := false, pulseTimer := none }) ∧
    (c.lockConfirm.isSome = true → c.state = .locking → c.eject = none → c.lockAttempts < 2 → c.lockEngaged = false →
      exec (.lockConfirmExpiry b) s = .next (with_ (locking 2))) ∧
    (c.releaseConfirm.isSome = true → c.state = .releasing → c.lockAttempts < 2 → c.lockEngaged = true →
      (s.bay b).pos.state = .parked → (s.bay b).spindle.state = .stopped → (s.bay b).spindle.watchOpen = false →
      (s.bay b).slot = none → (s.bay b).job = none → (s.bay b).power.entry = none → s.link.inFrame = none →
      s.visiting b = false → s.chan.waiter ≠ some b →
      exec (.releaseConfirmExpiry b) s = .next (with_ { c with
        lockPulse := false, releasePulse := true, pulseTimer := some 50000, releaseConfirm := some 200000
        lockAttempts := 2, eject := c.eject.map fun e => { e with phase := .release } })) ∧
    (∀ i, (i = .lockConfirmExpiry b ∧ c.lockConfirm.isSome = true ∧ c.state = .locking ∧ c.eject = none) ∨
        (i = .releaseConfirmExpiry b ∧ c.releaseConfirm.isSome = true ∧ c.state = .releasing) →
      2 ≤ c.lockAttempts → c.cartridgeIn = true →
      (s.bay b).slot = none → (s.bay b).job = none → (s.bay b).format = none → (s.bay b).flush = none →
      (s.bay b).reassign = none → (s.bay b).pos.state = .parked → (s.bay b).pos.seekFor = .nobody →
      (s.bay b).pos.heldSeekOwned = false → (s.bay b).power.mode = .unmounted → (s.bay b).power.entry = none →
      (s.bay b).tu.dirty = false → (∀ r ∈ s.slots, r.owner ≠ some b) → s.visiting b = false → s.chan.waiter ≠ some b →
      s.link.inFrame = none →
      exec i s = .next (s.modBay b fun y => { y with
        cart := { c with
          state := .bayFault, fault := .lock, settleTimer := none, lockConfirm := none, releaseConfirm := none
          startupWait := false, eject := none }
        power := { y.power with unloadTimer := none, standbyTimer := none, wake := none }
        attn := { y.attn with bayFault := { raised := true, payload := 0x20 } }
        ledLit := true }))

/-! ## Idle timers and the activity LED -/

/-- IDLE_UNLOAD_TIMER_EXPIRY of a running timer: in IDLE the mode is PARKED_IDLE with READINESS LOAD_DELAY, and the heads unload;
with the standby timer due in the same event it does what STANDBY_TIMER_EXPIRY does; in PARKED_IDLE the timer stops and nothing
else happens. LED_FLASH_TOGGLE changes the LED of a bay in BAY_FAULT between lit and
dark, and changes nothing in any other state. -/
def Obligations.IdleBaysUnloadAndFaultsFlash : Prop :=
  ∀ (b : BayId) (s : State), s.calm → s.bayPresent b = true →
    (∀ t at_, s.readyAt b t at_ → s.link.inFrame = none → (s.bay b).power.unloadTimer.isSome = true →
      (s.bay b).power.standbyTimer ≠ some 0 →
      exec (.idleUnloadTimerExpiry b) s = .next (s.modBay b fun x => { x with
        power := { x.power with mode := .parkedIdle, unloadTimer := none, readiness := .loadDelay }
        attn := { x.attn with readiness := { raised := true, payload := 1 } }
        pos := x.pos.unloadStarted })) ∧
    ((s.bay b).power.unloadTimer.isSome = true → (s.bay b).power.standbyTimer = some 0 →
      exec (.idleUnloadTimerExpiry b) s = exec (.standbyTimerExpiry b) s) ∧
    ((s.bay b).power.mode = .parkedIdle → (s.bay b).slot = none → (s.bay b).power.entry = none →
      (s.bay b).power.wake = none → (s.bay b).power.unloadTimer.isSome = true → (s.bay b).power.standbyTimer ≠ some 0 →
      exec (.idleUnloadTimerExpiry b) s = .next (s.modBay b fun x => { x with
        power := { x.power with unloadTimer := none } })) ∧
    exec (.ledFlashToggle b) s = .next (s.modBay b fun x =>
      { x with ledLit := if x.cart.state = .bayFault then !x.ledLit else x.ledLit })

/-! ## Data Channel events -/

/-- ID_FIELD_READ in a visit that searches. A good ID field with the wanted contents goes on to the data field: a read reads it,
and a write opens the gate with its slot DRAINING, that of an auto-reassign FULL as before (R116, R127), the cartridge not protected
and the gate's conditions met. A good ID field of the wanted cylinder with other contents, and an ID field whose CRC does not
agree, are passed over. ID_SEARCH_ATTEMPT_END with a try left counts a try and starts the next search. -/
def Obligations.IdSearchFindsItsSector : Prop :=
  ∀ (v : Visit) (j : Job) (s : State), s.calm → s.chan.visit = some v → (s.bay v.bay).job = some j → v.phase = .searching →
    (∀ raw x, goodId raw = some x →
      (x = j.sector.wanted → j.kind.writes = false →
        exec (.idFieldRead raw) s = .next ({ s with chan := { s.chan with
          visit := some { v with phase := .reading } } }.modBay v.bay fun y =>
            { y with job := some { j with matched := true } })) ∧
      (∀ k, x = j.sector.wanted → j.kind.writes = true → (s.bay v.bay).cart.wpProtected = false →
        s.gateAllowed v.bay j.sector.track = true → s.jobSlot v.bay j = some k →
        exec (.idFieldRead raw) s = .next ({ s with
          slots := if j.kind = JobKind.spareWrite ∧ ((s.bay v.bay).reassign.any fun (r : Reassign) => r.auto) = true then s.slots
            else s.slots.set k { (s.slotRec k) with state := .draining }
          chan := { s.chan with gate := true, visit := some { v with phase := .writing } } }.modBay v.bay fun y =>
            { y with job := some { j with
                matched := true, slots := if j.kind = JobKind.mediaWrite then [k] else j.slots } })) ∧
      (x ≠ j.sector.wanted → x.cyl = j.sector.addr.cyl → exec (.idFieldRead raw) s = .next s)) ∧
    (∀ raw, goodId raw = none → exec (.idFieldRead raw) s = .next s) ∧
    (j.kind ≠ .formatTrack → v.ending = false → j.tries + 1 < s.jobTries v.bay j →
      (∀ c, (s.bay v.bay).slot = some c → c.stop = none) → (∀ f, (s.bay v.bay).flush = some f → f.stop = false) →
      exec .idSearchAttemptEnd s = .next ({ s with chan := { s.chan with
        visit := some { v with search := 0 } } }.modBay v.bay fun y =>
          { y with job := some { j with tries := j.tries + 1 } }))

/-- DATA_FIELD_READ and DATA_FIELD_WRITTEN of a visit. A field that the correction span does not deliver is a failed try, and
with a try left the channel searches again. A delivered record sector of a mount, short of the last, fills its slot, and the channel
goes on to the next in the same visit; so it does when a record sector of a flush, short of the last, has been written: the gate
closes and the slot is FULL again (notes/assumptions/55.md). One corrected, or read or written after a failed try, raises
the recovered count (R188). The last of a mount ends the read: the four slots are freed and the visit ends; an image that passes the
checks of R13 is installed, its flag byte set unless it is 0 (notes/assumptions/57.md), the bay is MOUNTED in IDLE with its idle
timers restarted and READINESS READY, and the heads begin to seek cylinder 1 (R75, R76), inward where the sampled cylinder is 1
already (notes/assumptions/62.md); one that fails leaves the bay UNFORMATTED without tables, with the mount detail of the
check, and writes the sense record; so does any record sector whose last try is not delivered, with RECORD_CHECK; the unit-changed
flag is set. The last of a flush installs the new generation and clears the dirty flag, and the slots are freed; a FLUSH RECORD then
completes GOOD, a standby entry goes on to its unload in PARKED_IDLE, and an UNMOUNTING bay unloads its heads. The last block of a
command ends it and its visit: the CLEAN sector of a READ fills its slot, the slot's DATA-IN frame is queued and the STATUS waits for
it; that of a VERIFY, and the sector of a WRITE when written, free the slot, the STATUS GOOD is queued into its reservation, and the
bay is IDLE with its idle timers restarted. A field is CLEAN where its check, a free value (notes/assumptions/6.md), agrees with the
one computed. What stands last on the write data pin is the model's own field (notes/assumptions/32.md). By the model's choice are
the points of 55, 57 and 62. -/
def Obligations.DataFieldsMoveTheRecord : Prop :=
  ∀ (v : Visit) (j : Job) (s : State), s.calm → s.chan.visit = some v → (s.bay v.bay).job = some j →
    let counted (again : Bool) (y : Bay) : Bay :=
      if again = true then { y with sense := { y.sense with recovered := min 65535 (y.sense.recovered + 1) } } else y
    let again : Bool := decide (0 < j.tries)
    let freed (slots : List SlotRec) : List SlotRec :=
      slots.map fun r => if r.owner = some v.bay ∧ r.isRecordPart = true then SlotRec.free else r
    let quiet (y : Bay) : Bay := { y with job := none, pos := { y.pos with seekFor := .nobody, heldSeekOwned := false } }
    let unformatted (d : MountDetail) (y : Bay) : Bay := { y with
      tu := { y.tu with tables := none, dirty := false }
      cart := { y.cart with state := .unformatted, mountDetail := d, unitChanged := true }
      sense := { y.sense with
        completion := some .unformatted, detail := .mount d, command := 0, lba := none, addr := none, count := 0 } }
    (∀ data check, v.phase = .reading → j.kind ≠ .certRead → j.kind ≠ .formatTrack → v.ending = false →
      let ecc := (decodeField { data, check }).1
      eccDelivered (s.jobCaps v.bay j).correctionSpan ecc = false → j.tries + 1 < s.jobTries v.bay j →
      (∀ c, (s.bay v.bay).slot = some c → c.stop = none) → (∀ f, (s.bay v.bay).flush = some f → f.stop = false) →
      exec (.dataFieldRead data check) s = .next ({ s with chan := { s.chan with
        decoder := some ecc, visit := some { v with phase := .searching, search := 0 } } }.modBay v.bay fun y =>
          { y with job := some { j with fieldRead := true, tries := j.tries + 1 } })) ∧
    (∀ k n, j.sector = recordSector n → n < 3 → j.slots.length = 4 → j.slots[n]? = some k →
      v.kind = j.kind → v.track = systemTrack → v.ending = false → (s.bay v.bay).pos.on systemTrack = true →
      s.link.inFrame = none → (s.bay v.bay).power.entry = none →
      let next : Job := { kind := j.kind, sector := recordSector (n + 1), stage := .atTrack, tries := 0, matched := false,
                          fieldRead := false, slots := j.slots }
      (∀ data check, v.phase = .reading → j.kind = .recordRead → (s.bay v.bay).cart.state = .mounting →
        let field := decodeField { data, check }
        eccDelivered (s.jobCaps v.bay j).correctionSpan field.1 = true →
        exec (.dataFieldRead data check) s = .next ({ s with
          slots := s.slots.set k { (s.slotRec k) with state := .full, ecc := some field.1, data := field.2 }
          chan := { s.chan with
            decoder := some field.1, visit := some { v with phase := .searching, search := 0 } } }.modBay v.bay fun y =>
            { counted (again || eccCorrectable field.1) y with job := some next })) ∧
      (∀ f, v.phase = .writing → j.kind = .recordWrite → (s.bay v.bay).flush = some f → f.writing = true →
        (s.bay v.bay).flushStopped f = false → (s.bay v.bay).cart.state = .mounted → (s.slotRec k).isRecordPart = true →
        exec .dataFieldWritten s = .next ({ s with
          slots := s.slots.set k { (s.slotRec k) with state := .full }
          chan := { s.chan with
            gate := false
            lastWritten := some (j.sector.addr, { data := (s.slotRec k).data, check := Config.dataCheck (s.slotRec k).data })
            visit := some { v with phase := .searching, search := 0 } } }.modBay v.bay fun y =>
            { counted again y with job := some next }))) ∧
    (∀ k, j.sector = recordSector 3 → j.slots.length = 4 → j.slots[3]? = some k →
      (s.bay v.bay).pos.on systemTrack = true → (s.bay v.bay).power.wake = none → s.chan.holder = some v.bay →
      s.chan.waiter = none → s.link.inFrame = none →
      (∀ data check row, v.phase = .reading → j.kind = .recordRead → (s.bay v.bay).cart.state = .mounting →
        (s.bay v.bay).cart.eject = none → (s.bay v.bay).slot = none → (s.bay v.bay).power.mode = .unmounted →
        (s.bay v.bay).power.entry = none → (s.bay v.bay).pos.heldSeek = none →
        s.profile.find? (fun r => decide ((s.bay v.bay).pos.distance { cyl := 1, head := 0 } ≤ r.bound)) = some row →
        let field := decodeField { data, check }
        eccDelivered (s.jobCaps v.bay j).correctionSpan field.1 = true →
        let slots := s.slots.set k { (s.slotRec k) with state := .full, ecc := some field.1, data := field.2 }
        let image := j.slots.flatMap fun i => (slots.getD i SlotRec.free).data
        let read (f : Bay → Bay) : State := { s with
          slots := freed slots
          chan := { s.chan with decoder := some field.1, holder := none, visit := none, gate := false } }.modBay v.bay fun y =>
            f (counted (again || eccCorrectable field.1) (quiet y))
        (recordDetail image = .none →
          exec (.dataFieldRead data check) s = .next (read fun y => { y with
            tu := { y.tu with tables := some (recordTables image), dirty := false }
            cart := { y.cart with state := .mounted, mountDetail := .none, unitChanged := true }
            power := { y.power with mode := .idle, unloadTimer := dmtTimer s.dmt.unloadTimer 1000000
                                    standbyTimer := dmtTimer s.dmt.standbyTimer 60000000, readiness := .ready }
            attn := { y.attn with readiness := { raised := true, payload := 0 } }
            pos := { y.pos.seekStarted { cyl := 1, head := 0 } row with seekFor := .nobody } })) ∧
        (∀ d, recordDetail image = d → d ≠ .none → exec (.dataFieldRead data check) s = .next (read (unformatted d)))) ∧
      (∀ f t, v.phase = .writing → j.kind = .recordWrite → (s.bay v.bay).flush = some f → f.writing = true →
        (s.bay v.bay).tu.tables = some t → (s.slotRec k).isRecordPart = true → (s.bay v.bay).format = none →
        (s.bay v.bay).reassign = none → (s.bay v.bay).pos.parked = false →
        let written (g : Bay → Bay) : State := { s with
          slots := freed (s.slots.set k { (s.slotRec k) with state := .full })
          chan := { s.chan with
            gate := false, holder := none, visit := none
            lastWritten := some (j.sector.addr,
              { data := (s.slotRec k).data, check := Config.dataCheck (s.slotRec k).data }) } }.modBay v.bay fun y =>
            g { counted again (quiet y) with
              flush := none, tu := { y.tu with tables := some { t with generation := f.generation }, dirty := false } }
        (∀ c, f.requester = .flushRecord → (s.bay v.bay).slot = some c → c.op = .flushRecord → c.wait = .working →
          c.stop = none → c.result = none → c.silent = false → (s.bay v.bay).cart.state = .mounted →
          (s.bay v.bay).cart.eject = none → (s.bay v.bay).power.mode = .active → (s.bay v.bay).power.entry = none →
          (∀ d ∈ s.link.queue, Desc.isReportOf (.bay v.bay) d = false) →
          (∀ o, s.link.outFrame = some o → ¬ (o.target = .bay v.bay ∧ o.slot = none)) →
          (s.staging.map fun x => x.target) ≠ some (.bay v.bay) →
          let t := written fun y => { y with
            slot := none
            power := { y.power with mode := .idle, unloadTimer := dmtTimer s.dmt.unloadTimer 1000000
                                    standbyTimer := dmtTimer s.dmt.standbyTimer 60000000 } }
          exec .dataFieldWritten s = .next { t with link := { t.link with
            queue := t.link.queue ++ [.status (.bay v.bay) .good .none c.done 0x16]
            reservations := t.link.reservations - 1 } }) ∧
        (∀ e, f.requester = .standby → (s.bay v.bay).power.entry = some e → (s.bay v.bay).slot = none →
          (s.bay v.bay).cart.state = .mounted → (s.bay v.bay).power.mode = .idle →
          exec .dataFieldWritten s = .next (written fun y => { y with
            power := { y.power with
              mode := .parkedIdle, entry := some { e with phase := .unload }, readiness := .loadDelay }
            attn := { y.attn with readiness := { raised := true, payload := 1 } }
            pos := y.pos.unloadStarted })) ∧
        (∀ e, f.requester = .unmount → f.stop = false → (s.bay v.bay).cart.state = .unmounting →
          (s.bay v.bay).cart.eject = some e → e.phase = .flush → (s.bay v.bay).power.mode = .unmounted →
          (s.bay v.bay).power.entry = none → (∀ c, (s.bay v.bay).slot = some c → ∃ force, c.op = .eject force) →
          exec .dataFieldWritten s = .next (written fun y => { y with
            cart := { y.cart with eject := some { e with phase := .unload } }
            pos := y.pos.unloadStarted })))) ∧
    (∀ data check, v.phase = .reading → j.kind = .recordRead → (s.bay v.bay).cart.state = .mounting →
      (s.bay v.bay).cart.eject = none → (s.bay v.bay).slot = none → (s.bay v.bay).power.mode = .unmounted →
      (s.bay v.bay).power.entry = none → (s.bay v.bay).power.wake = none → (s.bay v.bay).pos.on systemTrack = true →
      (s.bay v.bay).pos.heldSeek = none → s.chan.holder = some v.bay → s.chan.waiter = none → s.link.inFrame = none →
      let ecc := (decodeField { data, check }).1
      eccDelivered (s.jobCaps v.bay j).correctionSpan ecc = false → s.jobTries v.bay j ≤ j.tries + 1 →
      exec (.dataFieldRead data check) s = .next ({ s with
        slots := freed s.slots
        chan := { s.chan with decoder := some ecc, holder := none, visit := none, gate := false } }.modBay v.bay fun y =>
          unformatted .recordCheck (quiet y))) ∧
    (∀ c k, s.LastBlock v j c k →
      let idle (x : Bay) : Bay := { x with
        slot := none, job := none
        power := { x.power with mode := .idle, unloadTimer := dmtTimer s.dmt.unloadTimer 1000000
                                standbyTimer := dmtTimer s.dmt.standbyTimer 60000000 } }
      let answered : Link := { s.link with
        queue := s.link.queue ++ [.status (.bay v.bay) .good .none c.count c.op.code]
        reservations := s.link.reservations - 1 }
      (∀ data, v.phase = .reading → j.kind = .mediaRead → c.op = .read → (s.slotRec k).purpose = some .mediaData →
        s.link.queue.length + s.link.reservations ≤ Config.dataInRoom →
        exec (.dataFieldRead data (Config.dataCheck data)) s = .next ({ s with
          slots := s.slots.set k { (s.slotRec k) with state := .full, ecc := some .clean, data := data }
          chan := { s.chan with decoder := some .clean, holder := none, visit := none, gate := false }
          link := { s.link with queue := s.link.queue ++ [Desc.slotData v.bay k] } }.modBay v.bay fun y => { y with
            job := none
            slot := some { c with done := c.count, result := some (CmdResult.plain .good .none) } })) ∧
      (∀ data, v.phase = .reading → j.kind = .mediaVerify → c.op = .verify →
        exec (.dataFieldRead data (Config.dataCheck data)) s = .next ({ s with
          slots := s.slots.set k SlotRec.free
          chan := { s.chan with decoder := some .clean, holder := none, visit := none, gate := false }
          link := answered }.modBay v.bay idle)) ∧
      (v.phase = .writing → j.kind = .mediaWrite → c.op = .write → (s.slotRec k).purpose = some .hostData →
        exec .dataFieldWritten s = .next ({ s with
          slots := s.slots.set k SlotRec.free
          chan := { s.chan with
            gate := false, holder := none, visit := none
            lastWritten := some (j.sector.addr,
              { data := (s.slotRec k).data, check := Config.dataCheck (s.slotRec k).data }) }
          link := answered }.modBay v.bay idle)))

/-- FORMAT_TRACK_WRITTEN of a FORMAT that is not stopped, with a track on another cylinder to come and no bay waiting for the
channel: the track stands as FORMAT's image of it, every sector's ID field with a data field of zeros and its check (R2, R7, R129,
R154; that State keeps the last track written is the model's, notes/assumptions/32.md, and the check a free value,
notes/assumptions/6.md), the gate closes, the visit ends, and the heads begin to seek the next track, inward where the sampled
cylinder is the next track's already, by the model's choice (notes/assumptions/62.md). VISIT_FIELD_COUNT_END while a field is read
or written lets the field end and the visit with it; while the visit waits for servo field 0 it does nothing. -/
def Obligations.FormatGoesFromTrackToTrack : Prop :=
  ∀ (v : Visit) (j : Job) (s : State), s.calm → s.chan.visit = some v → (s.bay v.bay).job = some j →
    (∀ f f' at_ row, v.phase = .formatWriting → j.kind = .formatTrack → (s.bay v.bay).format = some f →
      f.nextTrack = some f' → (s.bay v.bay).stopped = false → (s.bay v.bay).cart.state = .formatting →
      (s.bay v.bay).power.entry = none → s.link.inFrame = none → s.chan.holder = some v.bay → s.chan.waiter = none →
      (s.bay v.bay).pos.state = .following → (s.bay v.bay).pos.target = some at_ →
      let x := f'.sectorAt f'.place
      at_.cyl ≠ x.addr.cyl →
      s.profile.find? (fun r => decide ((s.bay v.bay).pos.distance x.track ≤ r.bound)) = some row →
      exec .formatTrackWritten s = .next ({ s with chan := { s.chan with
        gate := false, holder := none, visit := none
        lastWritten := some ({ f.place with ps := f.sectorCount - 1 }, dataField (List.replicate 512 0))
        lastTrack := some ({ cyl := f.cyl, head := f.head }, f.trackImage) } }.modBay v.bay fun y => { y with
          format := some f'
          job := some { kind := .formatTrack, sector := x, stage := .seeking, tries := 0, matched := false
                        fieldRead := false, slots := [] }
          pos := y.pos.seekStarted x.track row })) ∧
    (v.phase ∈ [.reading, .writing, .formatWriting] →
      exec .visitFieldCountEnd s = .next { s with chan := { s.chan with visit := some { v with ending := true } } }) ∧
    (v.phase = .formatWait → exec .visitFieldCountEnd s = .next s)

/-! ## Arithmetic of the reference -/

/-- R46. The deviation is (P − 20,000) div 20, truncated toward zero; a positive one is a revolution longer than nominal. The
regulation-entry, in-window and speed-fault conditions are those of its table, in-window is 19,881 to 20,119 µs, speed-fault is
20,420 µs and longer and 19,580 µs and shorter, and a saturated revolution meets only the last. -/
def Obligations.SpeedWindowsTestTheDeviation : Prop :=
  ∀ p : Nat,
    let dev := deviationOf p
    dev = Int.tdiv ((p : Int) - 20000) 20 ∧ (0 < dev → 20000 < p) ∧ (dev < 0 → p < 20000) ∧
    (entersRegulation p = true ↔ p < 65535 ∧ dev ≤ 5) ∧
    (inWindow p = true ↔ p < 65535 ∧ -5 ≤ dev ∧ dev ≤ 5) ∧
    (outOfSpeed p = true ↔ 65535 ≤ p ∨ dev > 20 ∨ dev < -20) ∧
    (inWindow p = true ↔ 19881 ≤ p ∧ p ≤ 20119) ∧
    (outOfSpeed p = true ↔ 20420 ≤ p ∨ p ≤ 19580) ∧
    (65535 ≤ p → entersRegulation p = false ∧ inWindow p = false ∧ outOfSpeed p = true)

/-- R23. The slot number of a spare-area address is (c − (last − R + 1)) × per + h × (SPT + 1) + p, with per the sectors of a
cylinder, and that is the inverse of the slot addresses of R22: every slot of a zone's pool lies on a spare cylinder, on a head
and at a physical sector of it, and every such place is one slot. -/
def Obligations.SlotNumbersInvertSlotAddresses : Prop :=
  ∀ (heads : Nat) (z : ZoneEntry), 0 < heads → z.spare ≤ z.last →
    (∀ k, k < z.pool heads →
      let x := slotAddr heads z k
      x = { cyl := z.last - z.spare + 1 + k / (heads * (z.spt + 1)), head := k % (heads * (z.spt + 1)) / (z.spt + 1),
            ps := k % (heads * (z.spt + 1)) % (z.spt + 1) } ∧
      slotNumber heads z x = k ∧ z.isSpare x.cyl = true ∧ x.head < heads ∧ x.ps ≤ z.spt) ∧
    (∀ x : PhysAddr, z.isSpare x.cyl = true → x.head < heads → x.ps ≤ z.spt →
      slotNumber heads z x = (x.cyl - (z.last - z.spare + 1)) * (heads * (z.spt + 1)) + x.head * (z.spt + 1) + x.ps ∧
      slotNumber heads z x < z.pool heads ∧ slotAddr heads z (slotNumber heads z x) = x)

/-- An entry at a new address is inserted at its place: the map stays strictly ascending, and holds what it held and the entry. -/
def Obligations.InsertionKeepsTheMapAscending : Prop :=
  ∀ (e : DefectEntry) (map : List DefectEntry),
    map.Pairwise (fun x y => x.addr.before y.addr = true) → (∀ x ∈ map, x.addr ≠ e.addr) →
    (insertEntry e map).Pairwise (fun x y => x.addr.before y.addr = true) ∧
      (∀ x, x ∈ insertEntry e map ↔ x = e ∨ x ∈ map) ∧ (insertEntry e map).length = map.length + 1

/-- The candidate is the lowest-numbered slot at or above the zone's pointer that holds no RETIRED entry, and there is none exactly
when the pool is exhausted. When the candidate is retired or receives a block, the pointer is its number + 1, and the
other zones stay as they are. -/
def Obligations.AllocationTakesTheLowestUsableSlot : Prop :=
  ∀ (heads : Nat) (z : ZoneEntry) (map : List DefectEntry),
    let retired (k : Nat) : Bool := isRetired map (slotAddr heads z k)
    (∀ k, candidate heads z map = some k ↔
      z.ptr ≤ k ∧ k < z.pool heads ∧ retired k = false ∧ ∀ m, z.ptr ≤ m → m < k → retired m = true) ∧
    (candidate heads z map = none ↔ ∀ k, z.ptr ≤ k → k < z.pool heads → retired k = true) ∧
    (∀ (t : Tables) (n k : Nat), n < t.zones.length → ∀ u : Tables, (u = t.retire n k ∨ ∃ x old, u = t.place n x old k) →
      u.zone n = { t.zone n with ptr := k + 1 } ∧ ∀ m, m ≠ n → u.zone m = t.zone m)

/-- A CRC-16 behind a block leaves the register at zero, and no other two bytes do. An ID field recorded with its CRC in the six
bytes of the reference reads back as a good ID field with the contents recorded. A data field whose check agrees with the one computed
over its data is CLEAN, with its bytes. One whose check does not agree is CORRECTABLE where the inversion of a burst of 1 to 11 of its
4,144 recorded bits makes it agree, with the span of such a burst and the bytes as it restores them, and UNCORRECTABLE otherwise. The
code of the check is a free value, and the order of the bits of a byte is the model's choice (notes/assumptions/6.md). -/
def Obligations.RecordedIdFieldsReadBack : Prop :=
  (∀ bytes : List Byte, crc16 (withCrc bytes) = 0) ∧
  (∀ (bytes : List Byte) (hi lo : Byte), crc16 (bytes ++ [hi, lo]) = 0 → [hi, lo] = beBytes 2 (crc16 bytes)) ∧
  (∀ x : IdField, x.cyl < 65536 → x.head < 2 → x.ps < 64 → x.zone < 16 →
    let bytes : List Byte := beBytes 2 x.cyl ++
      [BitVec.ofNat 8 (x.head * 128 + (if x.spareArea then 64 else 0) + x.ps), BitVec.ofNat 8 x.zone]
    goodId (BitVec.ofNat 48 (beNat (withCrc bytes))) = some x) ∧
  (∀ f : DataField,
    let flipped (n : Nat) : Nat := (beNat f.data * 2 ^ 48 + f.check.toNat) ^^^ n
    let inverted (x : Burst) : DataField :=
      { data := beBytes 512 (flipped (x.errors * 2 ^ x.place) / 2 ^ 48), check := BitVec.ofNat 48 (flipped (x.errors * 2 ^ x.place)) }
    let restores (x : Burst) : Prop :=
      x.errors % 2 = 1 ∧ x.errors < 2 ^ 11 ∧ x.place + x.span ≤ 4144 ∧ Config.dataCheck (inverted x).data = (inverted x).check
    (Config.dataCheck f.data = f.check → decodeField f = (.clean, f.data)) ∧
    (Config.dataCheck f.data ≠ f.check →
      ((∃ x, restores x) → ∃ x, restores x ∧ decodeField f = (.correctable x.span, (inverted x).data)) ∧
      ((¬ ∃ x, restores x) → decodeField f = (.uncorrectable, f.data))))
end

