-- ==== Sys2Proof/Laws/State.lean ====
section
/-! SUPPORT. What each update of the state leaves in each field: one lemma per field per update, so that no later proof unfolds
an update. -/

namespace Sys2Proof.Machine

/-! ## Access to a bay -/

@[simp] theorem State.bay_setBay (s : State) (b : BayId) (x : Bay) : (s.setBay b x).bay b = x := by cases b <;> rfl
@[simp] theorem State.bay_setBay_other (s : State) (b : BayId) (x : Bay) :
    (s.setBay b x).bay (otherBay b) = s.bay (otherBay b) := by cases b <;> rfl
theorem State.bay_setBay_ne (s : State) {b b' : BayId} (h : b' ≠ b) (x : Bay) : (s.setBay b x).bay b' = s.bay b' := by
  cases b <;> cases b' <;> first | rfl | exact absurd rfl h
@[simp] theorem State.bay_modBay (s : State) (b : BayId) (f : Bay → Bay) : (s.modBay b f).bay b = f (s.bay b) := by
  cases b <;> rfl
theorem State.bay_modBay_ne (s : State) {b b' : BayId} (h : b' ≠ b) (f : Bay → Bay) : (s.modBay b f).bay b' = s.bay b' :=
  s.bay_setBay_ne h _

/-- A component that an update of a bay keeps is kept in both bays. -/
theorem State.bay_modBay_keeps {α : Type} (s : State) (b b' : BayId) (f : Bay → Bay) (g : Bay → α)
    (h : g (f (s.bay b)) = g (s.bay b)) : g ((s.modBay b f).bay b') = g (s.bay b') := by
  cases b <;> cases b' <;> first | exact h | rfl

@[simp] theorem State.setBay_resetHeld (s : State) (b : BayId) (x : Bay) : (s.setBay b x).resetHeld = s.resetHeld := by cases b <;> rfl
@[simp] theorem State.setBay_twoBays (s : State) (b : BayId) (x : Bay) : (s.setBay b x).twoBays = s.twoBays := by cases b <;> rfl
@[simp] theorem State.setBay_autospinHigh (s : State) (b : BayId) (x : Bay) : (s.setBay b x).autospinHigh = s.autospinHigh := by cases b <;> rfl
@[simp] theorem State.setBay_powerLoss (s : State) (b : BayId) (x : Bay) : (s.setBay b x).powerLoss = s.powerLoss := by cases b <;> rfl
@[simp] theorem State.setBay_allowHolder (s : State) (b : BayId) (x : Bay) : (s.setBay b x).allowHolder = s.allowHolder := by cases b <;> rfl
@[simp] theorem State.setBay_allowWaiter (s : State) (b : BayId) (x : Bay) : (s.setBay b x).allowWaiter = s.allowWaiter := by cases b <;> rfl
@[simp] theorem State.setBay_chan (s : State) (b : BayId) (x : Bay) : (s.setBay b x).chan = s.chan := by cases b <;> rfl
@[simp] theorem State.setBay_slots (s : State) (b : BayId) (x : Bay) : (s.setBay b x).slots = s.slots := by cases b <;> rfl
@[simp] theorem State.setBay_dmt (s : State) (b : BayId) (x : Bay) : (s.setBay b x).dmt = s.dmt := by cases b <;> rfl
@[simp] theorem State.setBay_profile (s : State) (b : BayId) (x : Bay) : (s.setBay b x).profile = s.profile := by cases b <;> rfl
@[simp] theorem State.setBay_staging (s : State) (b : BayId) (x : Bay) : (s.setBay b x).staging = s.staging := by cases b <;> rfl
@[simp] theorem State.setBay_link (s : State) (b : BayId) (x : Bay) : (s.setBay b x).link = s.link := by cases b <;> rfl
@[simp] theorem State.setBay_deviceSlot (s : State) (b : BayId) (x : Bay) : (s.setBay b x).deviceSlot = s.deviceSlot := by cases b <;> rfl
@[simp] theorem State.setBay_signals (s : State) (b : BayId) (x : Bay) : (s.setBay b x).signals = s.signals := by cases b <;> rfl
@[simp] theorem State.setBay_pending (s : State) (b : BayId) (x : Bay) : (s.setBay b x).pending = s.pending := by cases b <;> rfl
@[simp] theorem State.setBay_hostTurns (s : State) (b : BayId) (x : Bay) : (s.setBay b x).hostTurns = s.hostTurns := by cases b <;> rfl
@[simp] theorem State.setBay_servo (s : State) (b : BayId) (x : Bay) : (s.setBay b x).servo = s.servo := by cases b <;> rfl
@[simp] theorem State.modBay_resetHeld (s : State) (b : BayId) (f : Bay → Bay) : (s.modBay b f).resetHeld = s.resetHeld := by cases b <;> rfl
@[simp] theorem State.modBay_twoBays (s : State) (b : BayId) (f : Bay → Bay) : (s.modBay b f).twoBays = s.twoBays := by cases b <;> rfl
@[simp] theorem State.modBay_autospinHigh (s : State) (b : BayId) (f : Bay → Bay) : (s.modBay b f).autospinHigh = s.autospinHigh := by cases b <;> rfl
@[simp] theorem State.modBay_powerLoss (s : State) (b : BayId) (f : Bay → Bay) : (s.modBay b f).powerLoss = s.powerLoss := by cases b <;> rfl
@[simp] theorem State.modBay_allowHolder (s : State) (b : BayId) (f : Bay → Bay) : (s.modBay b f).allowHolder = s.allowHolder := by cases b <;> rfl
@[simp] theorem State.modBay_allowWaiter (s : State) (b : BayId) (f : Bay → Bay) : (s.modBay b f).allowWaiter = s.allowWaiter := by cases b <;> rfl
@[simp] theorem State.modBay_chan (s : State) (b : BayId) (f : Bay → Bay) : (s.modBay b f).chan = s.chan := by cases b <;> rfl
@[simp] theorem State.modBay_slots (s : State) (b : BayId) (f : Bay → Bay) : (s.modBay b f).slots = s.slots := by cases b <;> rfl
@[simp] theorem State.modBay_dmt (s : State) (b : BayId) (f : Bay → Bay) : (s.modBay b f).dmt = s.dmt := by cases b <;> rfl
@[simp] theorem State.modBay_profile (s : State) (b : BayId) (f : Bay → Bay) : (s.modBay b f).profile = s.profile := by cases b <;> rfl
@[simp] theorem State.modBay_staging (s : State) (b : BayId) (f : Bay → Bay) : (s.modBay b f).staging = s.staging := by cases b <;> rfl
@[simp] theorem State.modBay_link (s : State) (b : BayId) (f : Bay → Bay) : (s.modBay b f).link = s.link := by cases b <;> rfl
@[simp] theorem State.modBay_deviceSlot (s : State) (b : BayId) (f : Bay → Bay) : (s.modBay b f).deviceSlot = s.deviceSlot := by cases b <;> rfl
@[simp] theorem State.modBay_signals (s : State) (b : BayId) (f : Bay → Bay) : (s.modBay b f).signals = s.signals := by cases b <;> rfl
@[simp] theorem State.modBay_pending (s : State) (b : BayId) (f : Bay → Bay) : (s.modBay b f).pending = s.pending := by cases b <;> rfl
@[simp] theorem State.modBay_hostTurns (s : State) (b : BayId) (f : Bay → Bay) : (s.modBay b f).hostTurns = s.hostTurns := by cases b <;> rfl
@[simp] theorem State.modBay_servo (s : State) (b : BayId) (f : Bay → Bay) : (s.modBay b f).servo = s.servo := by cases b <;> rfl
@[simp] theorem State.modBay_bayPresent (s : State) (b b' : BayId) (f : Bay → Bay) : (s.modBay b f).bayPresent b' = s.bayPresent b' := by cases b <;> cases b' <;> rfl

/-! ## modSpindle -/

@[simp] theorem State.modSpindle_spindle (s : State) (b : BayId) (f : Spindle → Spindle) :
    ((s.modSpindle b f).bay b).spindle = f (s.bay b).spindle := by cases b <;> rfl
theorem State.modSpindle_spindle_ne (s : State) {b b' : BayId} (h : b' ≠ b) (f : Spindle → Spindle) :
    ((s.modSpindle b f).bay b') = s.bay b' := s.bay_modBay_ne h _
@[simp] theorem State.modSpindle_pos (s : State) (b b' : BayId) (f : Spindle → Spindle) :
    ((s.modSpindle b f).bay b').pos = (s.bay b').pos := by cases b <;> cases b' <;> rfl
@[simp] theorem State.modSpindle_cart (s : State) (b b' : BayId) (f : Spindle → Spindle) :
    ((s.modSpindle b f).bay b').cart = (s.bay b').cart := by cases b <;> cases b' <;> rfl
@[simp] theorem State.modSpindle_tu (s : State) (b b' : BayId) (f : Spindle → Spindle) :
    ((s.modSpindle b f).bay b').tu = (s.bay b').tu := by cases b <;> cases b' <;> rfl
@[simp] theorem State.modSpindle_power (s : State) (b b' : BayId) (f : Spindle → Spindle) :
    ((s.modSpindle b f).bay b').power = (s.bay b').power := by cases b <;> cases b' <;> rfl
@[simp] theorem State.modSpindle_slot (s : State) (b b' : BayId) (f : Spindle → Spindle) :
    ((s.modSpindle b f).bay b').slot = (s.bay b').slot := by cases b <;> cases b' <;> rfl
@[simp] theorem State.modSpindle_job (s : State) (b b' : BayId) (f : Spindle → Spindle) :
    ((s.modSpindle b f).bay b').job = (s.bay b').job := by cases b <;> cases b' <;> rfl
@[simp] theorem State.modSpindle_reassign (s : State) (b b' : BayId) (f : Spindle → Spindle) :
    ((s.modSpindle b f).bay b').reassign = (s.bay b').reassign := by cases b <;> cases b' <;> rfl
@[simp] theorem State.modSpindle_flush (s : State) (b b' : BayId) (f : Spindle → Spindle) :
    ((s.modSpindle b f).bay b').flush = (s.bay b').flush := by cases b <;> cases b' <;> rfl
@[simp] theorem State.modSpindle_format (s : State) (b b' : BayId) (f : Spindle → Spindle) :
    ((s.modSpindle b f).bay b').format = (s.bay b').format := by cases b <;> cases b' <;> rfl
@[simp] theorem State.modSpindle_sense (s : State) (b b' : BayId) (f : Spindle → Spindle) :
    ((s.modSpindle b f).bay b').sense = (s.bay b').sense := by cases b <;> cases b' <;> rfl
@[simp] theorem State.modSpindle_attn (s : State) (b b' : BayId) (f : Spindle → Spindle) :
    ((s.modSpindle b f).bay b').attn = (s.bay b').attn := by cases b <;> cases b' <;> rfl
@[simp] theorem State.modSpindle_ledLit (s : State) (b b' : BayId) (f : Spindle → Spindle) :
    ((s.modSpindle b f).bay b').ledLit = (s.bay b').ledLit := by cases b <;> cases b' <;> rfl
@[simp] theorem State.modSpindle_resetHeld (s : State) (b : BayId) (f : Spindle → Spindle) : (s.modSpindle b f).resetHeld = s.resetHeld := by cases b <;> rfl
@[simp] theorem State.modSpindle_twoBays (s : State) (b : BayId) (f : Spindle → Spindle) : (s.modSpindle b f).twoBays = s.twoBays := by cases b <;> rfl
@[simp] theorem State.modSpindle_autospinHigh (s : State) (b : BayId) (f : Spindle → Spindle) : (s.modSpindle b f).autospinHigh = s.autospinHigh := by cases b <;> rfl
@[simp] theorem State.modSpindle_powerLoss (s : State) (b : BayId) (f : Spindle → Spindle) : (s.modSpindle b f).powerLoss = s.powerLoss := by cases b <;> rfl
@[simp] theorem State.modSpindle_allowHolder (s : State) (b : BayId) (f : Spindle → Spindle) : (s.modSpindle b f).allowHolder = s.allowHolder := by cases b <;> rfl
@[simp] theorem State.modSpindle_allowWaiter (s : State) (b : BayId) (f : Spindle → Spindle) : (s.modSpindle b f).allowWaiter = s.allowWaiter := by cases b <;> rfl
@[simp] theorem State.modSpindle_chan (s : State) (b : BayId) (f : Spindle → Spindle) : (s.modSpindle b f).chan = s.chan := by cases b <;> rfl
@[simp] theorem State.modSpindle_slots (s : State) (b : BayId) (f : Spindle → Spindle) : (s.modSpindle b f).slots = s.slots := by cases b <;> rfl
@[simp] theorem State.modSpindle_dmt (s : State) (b : BayId) (f : Spindle → Spindle) : (s.modSpindle b f).dmt = s.dmt := by cases b <;> rfl
@[simp] theorem State.modSpindle_profile (s : State) (b : BayId) (f : Spindle → Spindle) : (s.modSpindle b f).profile = s.profile := by cases b <;> rfl
@[simp] theorem State.modSpindle_staging (s : State) (b : BayId) (f : Spindle → Spindle) : (s.modSpindle b f).staging = s.staging := by cases b <;> rfl
@[simp] theorem State.modSpindle_link (s : State) (b : BayId) (f : Spindle → Spindle) : (s.modSpindle b f).link = s.link := by cases b <;> rfl
@[simp] theorem State.modSpindle_deviceSlot (s : State) (b : BayId) (f : Spindle → Spindle) : (s.modSpindle b f).deviceSlot = s.deviceSlot := by cases b <;> rfl
@[simp] theorem State.modSpindle_signals (s : State) (b : BayId) (f : Spindle → Spindle) : (s.modSpindle b f).signals = s.signals := by cases b <;> rfl
@[simp] theorem State.modSpindle_pending (s : State) (b : BayId) (f : Spindle → Spindle) : (s.modSpindle b f).pending = s.pending := by cases b <;> rfl
@[simp] theorem State.modSpindle_hostTurns (s : State) (b : BayId) (f : Spindle → Spindle) : (s.modSpindle b f).hostTurns = s.hostTurns := by cases b <;> rfl
@[simp] theorem State.modSpindle_servo (s : State) (b : BayId) (f : Spindle → Spindle) : (s.modSpindle b f).servo = s.servo := by cases b <;> rfl
@[simp] theorem State.modSpindle_bayPresent (s : State) (b b' : BayId) (f : Spindle → Spindle) : (s.modSpindle b f).bayPresent b' = s.bayPresent b' := by
  cases b <;> cases b' <;> rfl

/-! ## modPos -/

@[simp] theorem State.modPos_pos (s : State) (b : BayId) (f : Positioner → Positioner) :
    ((s.modPos b f).bay b).pos = f (s.bay b).pos := by cases b <;> rfl
theorem State.modPos_pos_ne (s : State) {b b' : BayId} (h : b' ≠ b) (f : Positioner → Positioner) :
    ((s.modPos b f).bay b') = s.bay b' := s.bay_modBay_ne h _
@[simp] theorem State.modPos_spindle (s : State) (b b' : BayId) (f : Positioner → Positioner) :
    ((s.modPos b f).bay b').spindle = (s.bay b').spindle := by cases b <;> cases b' <;> rfl
@[simp] theorem State.modPos_cart (s : State) (b b' : BayId) (f : Positioner → Positioner) :
    ((s.modPos b f).bay b').cart = (s.bay b').cart := by cases b <;> cases b' <;> rfl
@[simp] theorem State.modPos_tu (s : State) (b b' : BayId) (f : Positioner → Positioner) :
    ((s.modPos b f).bay b').tu = (s.bay b').tu := by cases b <;> cases b' <;> rfl
@[simp] theorem State.modPos_power (s : State) (b b' : BayId) (f : Positioner → Positioner) :
    ((s.modPos b f).bay b').power = (s.bay b').power := by cases b <;> cases b' <;> rfl
@[simp] theorem State.modPos_slot (s : State) (b b' : BayId) (f : Positioner → Positioner) :
    ((s.modPos b f).bay b').slot = (s.bay b').slot := by cases b <;> cases b' <;> rfl
@[simp] theorem State.modPos_job (s : State) (b b' : BayId) (f : Positioner → Positioner) :
    ((s.modPos b f).bay b').job = (s.bay b').job := by cases b <;> cases b' <;> rfl
@[simp] theorem State.modPos_reassign (s : State) (b b' : BayId) (f : Positioner → Positioner) :
    ((s.modPos b f).bay b').reassign = (s.bay b').reassign := by cases b <;> cases b' <;> rfl
@[simp] theorem State.modPos_flush (s : State) (b b' : BayId) (f : Positioner → Positioner) :
    ((s.modPos b f).bay b').flush = (s.bay b').flush := by cases b <;> cases b' <;> rfl
@[simp] theorem State.modPos_format (s : State) (b b' : BayId) (f : Positioner → Positioner) :
    ((s.modPos b f).bay b').format = (s.bay b').format := by cases b <;> cases b' <;> rfl
@[simp] theorem State.modPos_sense (s : State) (b b' : BayId) (f : Positioner → Positioner) :
    ((s.modPos b f).bay b').sense = (s.bay b').sense := by cases b <;> cases b' <;> rfl
@[simp] theorem State.modPos_attn (s : State) (b b' : BayId) (f : Positioner → Positioner) :
    ((s.modPos b f).bay b').attn = (s.bay b').attn := by cases b <;> cases b' <;> rfl
@[simp] theorem State.modPos_ledLit (s : State) (b b' : BayId) (f : Positioner → Positioner) :
    ((s.modPos b f).bay b').ledLit = (s.bay b').ledLit := by cases b <;> cases b' <;> rfl
@[simp] theorem State.modPos_resetHeld (s : State) (b : BayId) (f : Positioner → Positioner) : (s.modPos b f).resetHeld = s.resetHeld := by cases b <;> rfl
@[simp] theorem State.modPos_twoBays (s : State) (b : BayId) (f : Positioner → Positioner) : (s.modPos b f).twoBays = s.twoBays := by cases b <;> rfl
@[simp] theorem State.modPos_autospinHigh (s : State) (b : BayId) (f : Positioner → Positioner) : (s.modPos b f).autospinHigh = s.autospinHigh := by cases b <;> rfl
@[simp] theorem State.modPos_powerLoss (s : State) (b : BayId) (f : Positioner → Positioner) : (s.modPos b f).powerLoss = s.powerLoss := by cases b <;> rfl
@[simp] theorem State.modPos_allowHolder (s : State) (b : BayId) (f : Positioner → Positioner) : (s.modPos b f).allowHolder = s.allowHolder := by cases b <;> rfl
@[simp] theorem State.modPos_allowWaiter (s : State) (b : BayId) (f : Positioner → Positioner) : (s.modPos b f).allowWaiter = s.allowWaiter := by cases b <;> rfl
@[simp] theorem State.modPos_chan (s : State) (b : BayId) (f : Positioner → Positioner) : (s.modPos b f).chan = s.chan := by cases b <;> rfl
@[simp] theorem State.modPos_slots (s : State) (b : BayId) (f : Positioner → Positioner) : (s.modPos b f).slots = s.slots := by cases b <;> rfl
@[simp] theorem State.modPos_dmt (s : State) (b : BayId) (f : Positioner → Positioner) : (s.modPos b f).dmt = s.dmt := by cases b <;> rfl
@[simp] theorem State.modPos_profile (s : State) (b : BayId) (f : Positioner → Positioner) : (s.modPos b f).profile = s.profile := by cases b <;> rfl
@[simp] theorem State.modPos_staging (s : State) (b : BayId) (f : Positioner → Positioner) : (s.modPos b f).staging = s.staging := by cases b <;> rfl
@[simp] theorem State.modPos_link (s : State) (b : BayId) (f : Positioner → Positioner) : (s.modPos b f).link = s.link := by cases b <;> rfl
@[simp] theorem State.modPos_deviceSlot (s : State) (b : BayId) (f : Positioner → Positioner) : (s.modPos b f).deviceSlot = s.deviceSlot := by cases b <;> rfl
@[simp] theorem State.modPos_signals (s : State) (b : BayId) (f : Positioner → Positioner) : (s.modPos b f).signals = s.signals := by cases b <;> rfl
@[simp] theorem State.modPos_pending (s : State) (b : BayId) (f : Positioner → Positioner) : (s.modPos b f).pending = s.pending := by cases b <;> rfl
@[simp] theorem State.modPos_hostTurns (s : State) (b : BayId) (f : Positioner → Positioner) : (s.modPos b f).hostTurns = s.hostTurns := by cases b <;> rfl
@[simp] theorem State.modPos_servo (s : State) (b : BayId) (f : Positioner → Positioner) : (s.modPos b f).servo = s.servo := by cases b <;> rfl
@[simp] theorem State.modPos_bayPresent (s : State) (b b' : BayId) (f : Positioner → Positioner) : (s.modPos b f).bayPresent b' = s.bayPresent b' := by
  cases b <;> cases b' <;> rfl

/-! ## modCart -/

@[simp] theorem State.modCart_cart (s : State) (b : BayId) (f : Cartridge → Cartridge) :
    ((s.modCart b f).bay b).cart = f (s.bay b).cart := by cases b <;> rfl
theorem State.modCart_cart_ne (s : State) {b b' : BayId} (h : b' ≠ b) (f : Cartridge → Cartridge) :
    ((s.modCart b f).bay b') = s.bay b' := s.bay_modBay_ne h _
@[simp] theorem State.modCart_spindle (s : State) (b b' : BayId) (f : Cartridge → Cartridge) :
    ((s.modCart b f).bay b').spindle = (s.bay b').spindle := by cases b <;> cases b' <;> rfl
@[simp] theorem State.modCart_pos (s : State) (b b' : BayId) (f : Cartridge → Cartridge) :
    ((s.modCart b f).bay b').pos = (s.bay b').pos := by cases b <;> cases b' <;> rfl
@[simp] theorem State.modCart_tu (s : State) (b b' : BayId) (f : Cartridge → Cartridge) :
    ((s.modCart b f).bay b').tu = (s.bay b').tu := by cases b <;> cases b' <;> rfl
@[simp] theorem State.modCart_power (s : State) (b b' : BayId) (f : Cartridge → Cartridge) :
    ((s.modCart b f).bay b').power = (s.bay b').power := by cases b <;> cases b' <;> rfl
@[simp] theorem State.modCart_slot (s : State) (b b' : BayId) (f : Cartridge → Cartridge) :
    ((s.modCart b f).bay b').slot = (s.bay b').slot := by cases b <;> cases b' <;> rfl
@[simp] theorem State.modCart_job (s : State) (b b' : BayId) (f : Cartridge → Cartridge) :
    ((s.modCart b f).bay b').job = (s.bay b').job := by cases b <;> cases b' <;> rfl
@[simp] theorem State.modCart_reassign (s : State) (b b' : BayId) (f : Cartridge → Cartridge) :
    ((s.modCart b f).bay b').reassign = (s.bay b').reassign := by cases b <;> cases b' <;> rfl
@[simp] theorem State.modCart_flush (s : State) (b b' : BayId) (f : Cartridge → Cartridge) :
    ((s.modCart b f).bay b').flush = (s.bay b').flush := by cases b <;> cases b' <;> rfl
@[simp] theorem State.modCart_format (s : State) (b b' : BayId) (f : Cartridge → Cartridge) :
    ((s.modCart b f).bay b').format = (s.bay b').format := by cases b <;> cases b' <;> rfl
@[simp] theorem State.modCart_sense (s : State) (b b' : BayId) (f : Cartridge → Cartridge) :
    ((s.modCart b f).bay b').sense = (s.bay b').sense := by cases b <;> cases b' <;> rfl
@[simp] theorem State.modCart_attn (s : State) (b b' : BayId) (f : Cartridge → Cartridge) :
    ((s.modCart b f).bay b').attn = (s.bay b').attn := by cases b <;> cases b' <;> rfl
@[simp] theorem State.modCart_ledLit (s : State) (b b' : BayId) (f : Cartridge → Cartridge) :
    ((s.modCart b f).bay b').ledLit = (s.bay b').ledLit := by cases b <;> cases b' <;> rfl
@[simp] theorem State.modCart_resetHeld (s : State) (b : BayId) (f : Cartridge → Cartridge) : (s.modCart b f).resetHeld = s.resetHeld := by cases b <;> rfl
@[simp] theorem State.modCart_twoBays (s : State) (b : BayId) (f : Cartridge → Cartridge) : (s.modCart b f).twoBays = s.twoBays := by cases b <;> rfl
@[simp] theorem State.modCart_autospinHigh (s : State) (b : BayId) (f : Cartridge → Cartridge) : (s.modCart b f).autospinHigh = s.autospinHigh := by cases b <;> rfl
@[simp] theorem State.modCart_powerLoss (s : State) (b : BayId) (f : Cartridge → Cartridge) : (s.modCart b f).powerLoss = s.powerLoss := by cases b <;> rfl
@[simp] theorem State.modCart_allowHolder (s : State) (b : BayId) (f : Cartridge → Cartridge) : (s.modCart b f).allowHolder = s.allowHolder := by cases b <;> rfl
@[simp] theorem State.modCart_allowWaiter (s : State) (b : BayId) (f : Cartridge → Cartridge) : (s.modCart b f).allowWaiter = s.allowWaiter := by cases b <;> rfl
@[simp] theorem State.modCart_chan (s : State) (b : BayId) (f : Cartridge → Cartridge) : (s.modCart b f).chan = s.chan := by cases b <;> rfl
@[simp] theorem State.modCart_slots (s : State) (b : BayId) (f : Cartridge → Cartridge) : (s.modCart b f).slots = s.slots := by cases b <;> rfl
@[simp] theorem State.modCart_dmt (s : State) (b : BayId) (f : Cartridge → Cartridge) : (s.modCart b f).dmt = s.dmt := by cases b <;> rfl
@[simp] theorem State.modCart_profile (s : State) (b : BayId) (f : Cartridge → Cartridge) : (s.modCart b f).profile = s.profile := by cases b <;> rfl
@[simp] theorem State.modCart_staging (s : State) (b : BayId) (f : Cartridge → Cartridge) : (s.modCart b f).staging = s.staging := by cases b <;> rfl
@[simp] theorem State.modCart_link (s : State) (b : BayId) (f : Cartridge → Cartridge) : (s.modCart b f).link = s.link := by cases b <;> rfl
@[simp] theorem State.modCart_deviceSlot (s : State) (b : BayId) (f : Cartridge → Cartridge) : (s.modCart b f).deviceSlot = s.deviceSlot := by cases b <;> rfl
@[simp] theorem State.modCart_signals (s : State) (b : BayId) (f : Cartridge → Cartridge) : (s.modCart b f).signals = s.signals := by cases b <;> rfl
@[simp] theorem State.modCart_pending (s : State) (b : BayId) (f : Cartridge → Cartridge) : (s.modCart b f).pending = s.pending := by cases b <;> rfl
@[simp] theorem State.modCart_hostTurns (s : State) (b : BayId) (f : Cartridge → Cartridge) : (s.modCart b f).hostTurns = s.hostTurns := by cases b <;> rfl
@[simp] theorem State.modCart_servo (s : State) (b : BayId) (f : Cartridge → Cartridge) : (s.modCart b f).servo = s.servo := by cases b <;> rfl
@[simp] theorem State.modCart_bayPresent (s : State) (b b' : BayId) (f : Cartridge → Cartridge) : (s.modCart b f).bayPresent b' = s.bayPresent b' := by
  cases b <;> cases b' <;> rfl

/-! ## modTu -/

@[simp] theorem State.modTu_tu (s : State) (b : BayId) (f : Translation → Translation) :
    ((s.modTu b f).bay b).tu = f (s.bay b).tu := by cases b <;> rfl
theorem State.modTu_tu_ne (s : State) {b b' : BayId} (h : b' ≠ b) (f : Translation → Translation) :
    ((s.modTu b f).bay b') = s.bay b' := s.bay_modBay_ne h _
@[simp] theorem State.modTu_spindle (s : State) (b b' : BayId) (f : Translation → Translation) :
    ((s.modTu b f).bay b').spindle = (s.bay b').spindle := by cases b <;> cases b' <;> rfl
@[simp] theorem State.modTu_pos (s : State) (b b' : BayId) (f : Translation → Translation) :
    ((s.modTu b f).bay b').pos = (s.bay b').pos := by cases b <;> cases b' <;> rfl
@[simp] theorem State.modTu_cart (s : State) (b b' : BayId) (f : Translation → Translation) :
    ((s.modTu b f).bay b').cart = (s.bay b').cart := by cases b <;> cases b' <;> rfl
@[simp] theorem State.modTu_power (s : State) (b b' : BayId) (f : Translation → Translation) :
    ((s.modTu b f).bay b').power = (s.bay b').power := by cases b <;> cases b' <;> rfl
@[simp] theorem State.modTu_slot (s : State) (b b' : BayId) (f : Translation → Translation) :
    ((s.modTu b f).bay b').slot = (s.bay b').slot := by cases b <;> cases b' <;> rfl
@[simp] theorem State.modTu_job (s : State) (b b' : BayId) (f : Translation → Translation) :
    ((s.modTu b f).bay b').job = (s.bay b').job := by cases b <;> cases b' <;> rfl
@[simp] theorem State.modTu_reassign (s : State) (b b' : BayId) (f : Translation → Translation) :
    ((s.modTu b f).bay b').reassign = (s.bay b').reassign := by cases b <;> cases b' <;> rfl
@[simp] theorem State.modTu_flush (s : State) (b b' : BayId) (f : Translation → Translation) :
    ((s.modTu b f).bay b').flush = (s.bay b').flush := by cases b <;> cases b' <;> rfl
@[simp] theorem State.modTu_format (s : State) (b b' : BayId) (f : Translation → Translation) :
    ((s.modTu b f).bay b').format = (s.bay b').format := by cases b <;> cases b' <;> rfl
@[simp] theorem State.modTu_sense (s : State) (b b' : BayId) (f : Translation → Translation) :
    ((s.modTu b f).bay b').sense = (s.bay b').sense := by cases b <;> cases b' <;> rfl
@[simp] theorem State.modTu_attn (s : State) (b b' : BayId) (f : Translation → Translation) :
    ((s.modTu b f).bay b').attn = (s.bay b').attn := by cases b <;> cases b' <;> rfl
@[simp] theorem State.modTu_ledLit (s : State) (b b' : BayId) (f : Translation → Translation) :
    ((s.modTu b f).bay b').ledLit = (s.bay b').ledLit := by cases b <;> cases b' <;> rfl
@[simp] theorem State.modTu_resetHeld (s : State) (b : BayId) (f : Translation → Translation) : (s.modTu b f).resetHeld = s.resetHeld := by cases b <;> rfl
@[simp] theorem State.modTu_twoBays (s : State) (b : BayId) (f : Translation → Translation) : (s.modTu b f).twoBays = s.twoBays := by cases b <;> rfl
@[simp] theorem State.modTu_autospinHigh (s : State) (b : BayId) (f : Translation → Translation) : (s.modTu b f).autospinHigh = s.autospinHigh := by cases b <;> rfl
@[simp] theorem State.modTu_powerLoss (s : State) (b : BayId) (f : Translation → Translation) : (s.modTu b f).powerLoss = s.powerLoss := by cases b <;> rfl
@[simp] theorem State.modTu_allowHolder (s : State) (b : BayId) (f : Translation → Translation) : (s.modTu b f).allowHolder = s.allowHolder := by cases b <;> rfl
@[simp] theorem State.modTu_allowWaiter (s : State) (b : BayId) (f : Translation → Translation) : (s.modTu b f).allowWaiter = s.allowWaiter := by cases b <;> rfl
@[simp] theorem State.modTu_chan (s : State) (b : BayId) (f : Translation → Translation) : (s.modTu b f).chan = s.chan := by cases b <;> rfl
@[simp] theorem State.modTu_slots (s : State) (b : BayId) (f : Translation → Translation) : (s.modTu b f).slots = s.slots := by cases b <;> rfl
@[simp] theorem State.modTu_dmt (s : State) (b : BayId) (f : Translation → Translation) : (s.modTu b f).dmt = s.dmt := by cases b <;> rfl
@[simp] theorem State.modTu_profile (s : State) (b : BayId) (f : Translation → Translation) : (s.modTu b f).profile = s.profile := by cases b <;> rfl
@[simp] theorem State.modTu_staging (s : State) (b : BayId) (f : Translation → Translation) : (s.modTu b f).staging = s.staging := by cases b <;> rfl
@[simp] theorem State.modTu_link (s : State) (b : BayId) (f : Translation → Translation) : (s.modTu b f).link = s.link := by cases b <;> rfl
@[simp] theorem State.modTu_deviceSlot (s : State) (b : BayId) (f : Translation → Translation) : (s.modTu b f).deviceSlot = s.deviceSlot := by cases b <;> rfl
@[simp] theorem State.modTu_signals (s : State) (b : BayId) (f : Translation → Translation) : (s.modTu b f).signals = s.signals := by cases b <;> rfl
@[simp] theorem State.modTu_pending (s : State) (b : BayId) (f : Translation → Translation) : (s.modTu b f).pending = s.pending := by cases b <;> rfl
@[simp] theorem State.modTu_hostTurns (s : State) (b : BayId) (f : Translation → Translation) : (s.modTu b f).hostTurns = s.hostTurns := by cases b <;> rfl
@[simp] theorem State.modTu_servo (s : State) (b : BayId) (f : Translation → Translation) : (s.modTu b f).servo = s.servo := by cases b <;> rfl
@[simp] theorem State.modTu_bayPresent (s : State) (b b' : BayId) (f : Translation → Translation) : (s.modTu b f).bayPresent b' = s.bayPresent b' := by
  cases b <;> cases b' <;> rfl

/-! ## modPower -/

@[simp] theorem State.modPower_power (s : State) (b : BayId) (f : Power → Power) :
    ((s.modPower b f).bay b).power = f (s.bay b).power := by cases b <;> rfl
theorem State.modPower_power_ne (s : State) {b b' : BayId} (h : b' ≠ b) (f : Power → Power) :
    ((s.modPower b f).bay b') = s.bay b' := s.bay_modBay_ne h _
@[simp] theorem State.modPower_spindle (s : State) (b b' : BayId) (f : Power → Power) :
    ((s.modPower b f).bay b').spindle = (s.bay b').spindle := by cases b <;> cases b' <;> rfl
@[simp] theorem State.modPower_pos (s : State) (b b' : BayId) (f : Power → Power) :
    ((s.modPower b f).bay b').pos = (s.bay b').pos := by cases b <;> cases b' <;> rfl
@[simp] theorem State.modPower_cart (s : State) (b b' : BayId) (f : Power → Power) :
    ((s.modPower b f).bay b').cart = (s.bay b').cart := by cases b <;> cases b' <;> rfl
@[simp] theorem State.modPower_tu (s : State) (b b' : BayId) (f : Power → Power) :
    ((s.modPower b f).bay b').tu = (s.bay b').tu := by cases b <;> cases b' <;> rfl
@[simp] theorem State.modPower_slot (s : State) (b b' : BayId) (f : Power → Power) :
    ((s.modPower b f).bay b').slot = (s.bay b').slot := by cases b <;> cases b' <;> rfl
@[simp] theorem State.modPower_job (s : State) (b b' : BayId) (f : Power → Power) :
    ((s.modPower b f).bay b').job = (s.bay b').job := by cases b <;> cases b' <;> rfl
@[simp] theorem State.modPower_reassign (s : State) (b b' : BayId) (f : Power → Power) :
    ((s.modPower b f).bay b').reassign = (s.bay b').reassign := by cases b <;> cases b' <;> rfl
@[simp] theorem State.modPower_flush (s : State) (b b' : BayId) (f : Power → Power) :
    ((s.modPower b f).bay b').flush = (s.bay b').flush := by cases b <;> cases b' <;> rfl
@[simp] theorem State.modPower_format (s : State) (b b' : BayId) (f : Power → Power) :
    ((s.modPower b f).bay b').format = (s.bay b').format := by cases b <;> cases b' <;> rfl
@[simp] theorem State.modPower_sense (s : State) (b b' : BayId) (f : Power → Power) :
    ((s.modPower b f).bay b').sense = (s.bay b').sense := by cases b <;> cases b' <;> rfl
@[simp] theorem State.modPower_attn (s : State) (b b' : BayId) (f : Power → Power) :
    ((s.modPower b f).bay b').attn = (s.bay b').attn := by cases b <;> cases b' <;> rfl
@[simp] theorem State.modPower_ledLit (s : State) (b b' : BayId) (f : Power → Power) :
    ((s.modPower b f).bay b').ledLit = (s.bay b').ledLit := by cases b <;> cases b' <;> rfl
@[simp] theorem State.modPower_resetHeld (s : State) (b : BayId) (f : Power → Power) : (s.modPower b f).resetHeld = s.resetHeld := by cases b <;> rfl
@[simp] theorem State.modPower_twoBays (s : State) (b : BayId) (f : Power → Power) : (s.modPower b f).twoBays = s.twoBays := by cases b <;> rfl
@[simp] theorem State.modPower_autospinHigh (s : State) (b : BayId) (f : Power → Power) : (s.modPower b f).autospinHigh = s.autospinHigh := by cases b <;> rfl
@[simp] theorem State.modPower_powerLoss (s : State) (b : BayId) (f : Power → Power) : (s.modPower b f).powerLoss = s.powerLoss := by cases b <;> rfl
@[simp] theorem State.modPower_allowHolder (s : State) (b : BayId) (f : Power → Power) : (s.modPower b f).allowHolder = s.allowHolder := by cases b <;> rfl
@[simp] theorem State.modPower_allowWaiter (s : State) (b : BayId) (f : Power → Power) : (s.modPower b f).allowWaiter = s.allowWaiter := by cases b <;> rfl
@[simp] theorem State.modPower_chan (s : State) (b : BayId) (f : Power → Power) : (s.modPower b f).chan = s.chan := by cases b <;> rfl
@[simp] theorem State.modPower_slots (s : State) (b : BayId) (f : Power → Power) : (s.modPower b f).slots = s.slots := by cases b <;> rfl
@[simp] theorem State.modPower_dmt (s : State) (b : BayId) (f : Power → Power) : (s.modPower b f).dmt = s.dmt := by cases b <;> rfl
@[simp] theorem State.modPower_profile (s : State) (b : BayId) (f : Power → Power) : (s.modPower b f).profile = s.profile := by cases b <;> rfl
@[simp] theorem State.modPower_staging (s : State) (b : BayId) (f : Power → Power) : (s.modPower b f).staging = s.staging := by cases b <;> rfl
@[simp] theorem State.modPower_link (s : State) (b : BayId) (f : Power → Power) : (s.modPower b f).link = s.link := by cases b <;> rfl
@[simp] theorem State.modPower_deviceSlot (s : State) (b : BayId) (f : Power → Power) : (s.modPower b f).deviceSlot = s.deviceSlot := by cases b <;> rfl
@[simp] theorem State.modPower_signals (s : State) (b : BayId) (f : Power → Power) : (s.modPower b f).signals = s.signals := by cases b <;> rfl
@[simp] theorem State.modPower_pending (s : State) (b : BayId) (f : Power → Power) : (s.modPower b f).pending = s.pending := by cases b <;> rfl
@[simp] theorem State.modPower_hostTurns (s : State) (b : BayId) (f : Power → Power) : (s.modPower b f).hostTurns = s.hostTurns := by cases b <;> rfl
@[simp] theorem State.modPower_servo (s : State) (b : BayId) (f : Power → Power) : (s.modPower b f).servo = s.servo := by cases b <;> rfl
@[simp] theorem State.modPower_bayPresent (s : State) (b b' : BayId) (f : Power → Power) : (s.modPower b f).bayPresent b' = s.bayPresent b' := by
  cases b <;> cases b' <;> rfl

/-! ## modCmd -/

@[simp] theorem State.modCmd_slot (s : State) (b : BayId) (f : Cmd → Cmd) :
    ((s.modCmd b f).bay b).slot = (s.bay b).slot.map f := by cases b <;> rfl
theorem State.modCmd_slot_ne (s : State) {b b' : BayId} (h : b' ≠ b) (f : Cmd → Cmd) :
    ((s.modCmd b f).bay b') = s.bay b' := s.bay_modBay_ne h _
@[simp] theorem State.modCmd_spindle (s : State) (b b' : BayId) (f : Cmd → Cmd) :
    ((s.modCmd b f).bay b').spindle = (s.bay b').spindle := by cases b <;> cases b' <;> rfl
@[simp] theorem State.modCmd_pos (s : State) (b b' : BayId) (f : Cmd → Cmd) :
    ((s.modCmd b f).bay b').pos = (s.bay b').pos := by cases b <;> cases b' <;> rfl
@[simp] theorem State.modCmd_cart (s : State) (b b' : BayId) (f : Cmd → Cmd) :
    ((s.modCmd b f).bay b').cart = (s.bay b').cart := by cases b <;> cases b' <;> rfl
@[simp] theorem State.modCmd_tu (s : State) (b b' : BayId) (f : Cmd → Cmd) :
    ((s.modCmd b f).bay b').tu = (s.bay b').tu := by cases b <;> cases b' <;> rfl
@[simp] theorem State.modCmd_power (s : State) (b b' : BayId) (f : Cmd → Cmd) :
    ((s.modCmd b f).bay b').power = (s.bay b').power := by cases b <;> cases b' <;> rfl
@[simp] theorem State.modCmd_job (s : State) (b b' : BayId) (f : Cmd → Cmd) :
    ((s.modCmd b f).bay b').job = (s.bay b').job := by cases b <;> cases b' <;> rfl
@[simp] theorem State.modCmd_reassign (s : State) (b b' : BayId) (f : Cmd → Cmd) :
    ((s.modCmd b f).bay b').reassign = (s.bay b').reassign := by cases b <;> cases b' <;> rfl
@[simp] theorem State.modCmd_flush (s : State) (b b' : BayId) (f : Cmd → Cmd) :
    ((s.modCmd b f).bay b').flush = (s.bay b').flush := by cases b <;> cases b' <;> rfl
@[simp] theorem State.modCmd_format (s : State) (b b' : BayId) (f : Cmd → Cmd) :
    ((s.modCmd b f).bay b').format = (s.bay b').format := by cases b <;> cases b' <;> rfl
@[simp] theorem State.modCmd_sense (s : State) (b b' : BayId) (f : Cmd → Cmd) :
    ((s.modCmd b f).bay b').sense = (s.bay b').sense := by cases b <;> cases b' <;> rfl
@[simp] theorem State.modCmd_attn (s : State) (b b' : BayId) (f : Cmd → Cmd) :
    ((s.modCmd b f).bay b').attn = (s.bay b').attn := by cases b <;> cases b' <;> rfl
@[simp] theorem State.modCmd_ledLit (s : State) (b b' : BayId) (f : Cmd → Cmd) :
    ((s.modCmd b f).bay b').ledLit = (s.bay b').ledLit := by cases b <;> cases b' <;> rfl
@[simp] theorem State.modCmd_resetHeld (s : State) (b : BayId) (f : Cmd → Cmd) : (s.modCmd b f).resetHeld = s.resetHeld := by cases b <;> rfl
@[simp] theorem State.modCmd_twoBays (s : State) (b : BayId) (f : Cmd → Cmd) : (s.modCmd b f).twoBays = s.twoBays := by cases b <;> rfl
@[simp] theorem State.modCmd_autospinHigh (s : State) (b : BayId) (f : Cmd → Cmd) : (s.modCmd b f).autospinHigh = s.autospinHigh := by cases b <;> rfl
@[simp] theorem State.modCmd_powerLoss (s : State) (b : BayId) (f : Cmd → Cmd) : (s.modCmd b f).powerLoss = s.powerLoss := by cases b <;> rfl
@[simp] theorem State.modCmd_allowHolder (s : State) (b : BayId) (f : Cmd → Cmd) : (s.modCmd b f).allowHolder = s.allowHolder := by cases b <;> rfl
@[simp] theorem State.modCmd_allowWaiter (s : State) (b : BayId) (f : Cmd → Cmd) : (s.modCmd b f).allowWaiter = s.allowWaiter := by cases b <;> rfl
@[simp] theorem State.modCmd_chan (s : State) (b : BayId) (f : Cmd → Cmd) : (s.modCmd b f).chan = s.chan := by cases b <;> rfl
@[simp] theorem State.modCmd_slots (s : State) (b : BayId) (f : Cmd → Cmd) : (s.modCmd b f).slots = s.slots := by cases b <;> rfl
@[simp] theorem State.modCmd_dmt (s : State) (b : BayId) (f : Cmd → Cmd) : (s.modCmd b f).dmt = s.dmt := by cases b <;> rfl
@[simp] theorem State.modCmd_profile (s : State) (b : BayId) (f : Cmd → Cmd) : (s.modCmd b f).profile = s.profile := by cases b <;> rfl
@[simp] theorem State.modCmd_staging (s : State) (b : BayId) (f : Cmd → Cmd) : (s.modCmd b f).staging = s.staging := by cases b <;> rfl
@[simp] theorem State.modCmd_link (s : State) (b : BayId) (f : Cmd → Cmd) : (s.modCmd b f).link = s.link := by cases b <;> rfl
@[simp] theorem State.modCmd_deviceSlot (s : State) (b : BayId) (f : Cmd → Cmd) : (s.modCmd b f).deviceSlot = s.deviceSlot := by cases b <;> rfl
@[simp] theorem State.modCmd_signals (s : State) (b : BayId) (f : Cmd → Cmd) : (s.modCmd b f).signals = s.signals := by cases b <;> rfl
@[simp] theorem State.modCmd_pending (s : State) (b : BayId) (f : Cmd → Cmd) : (s.modCmd b f).pending = s.pending := by cases b <;> rfl
@[simp] theorem State.modCmd_hostTurns (s : State) (b : BayId) (f : Cmd → Cmd) : (s.modCmd b f).hostTurns = s.hostTurns := by cases b <;> rfl
@[simp] theorem State.modCmd_servo (s : State) (b : BayId) (f : Cmd → Cmd) : (s.modCmd b f).servo = s.servo := by cases b <;> rfl
@[simp] theorem State.modCmd_bayPresent (s : State) (b b' : BayId) (f : Cmd → Cmd) : (s.modCmd b f).bayPresent b' = s.bayPresent b' := by
  cases b <;> cases b' <;> rfl

/-! ## modJob -/

@[simp] theorem State.modJob_job (s : State) (b : BayId) (f : Job → Job) :
    ((s.modJob b f).bay b).job = (s.bay b).job.map f := by cases b <;> rfl
theorem State.modJob_job_ne (s : State) {b b' : BayId} (h : b' ≠ b) (f : Job → Job) :
    ((s.modJob b f).bay b') = s.bay b' := s.bay_modBay_ne h _
@[simp] theorem State.modJob_spindle (s : State) (b b' : BayId) (f : Job → Job) :
    ((s.modJob b f).bay b').spindle = (s.bay b').spindle := by cases b <;> cases b' <;> rfl
@[simp] theorem State.modJob_pos (s : State) (b b' : BayId) (f : Job → Job) :
    ((s.modJob b f).bay b').pos = (s.bay b').pos := by cases b <;> cases b' <;> rfl
@[simp] theorem State.modJob_cart (s : State) (b b' : BayId) (f : Job → Job) :
    ((s.modJob b f).bay b').cart = (s.bay b').cart := by cases b <;> cases b' <;> rfl
@[simp] theorem State.modJob_tu (s : State) (b b' : BayId) (f : Job → Job) :
    ((s.modJob b f).bay b').tu = (s.bay b').tu := by cases b <;> cases b' <;> rfl
@[simp] theorem State.modJob_power (s : State) (b b' : BayId) (f : Job → Job) :
    ((s.modJob b f).bay b').power = (s.bay b').power := by cases b <;> cases b' <;> rfl
@[simp] theorem State.modJob_slot (s : State) (b b' : BayId) (f : Job → Job) :
    ((s.modJob b f).bay b').slot = (s.bay b').slot := by cases b <;> cases b' <;> rfl
@[simp] theorem State.modJob_reassign (s : State) (b b' : BayId) (f : Job → Job) :
    ((s.modJob b f).bay b').reassign = (s.bay b').reassign := by cases b <;> cases b' <;> rfl
@[simp] theorem State.modJob_flush (s : State) (b b' : BayId) (f : Job → Job) :
    ((s.modJob b f).bay b').flush = (s.bay b').flush := by cases b <;> cases b' <;> rfl
@[simp] theorem State.modJob_format (s : State) (b b' : BayId) (f : Job → Job) :
    ((s.modJob b f).bay b').format = (s.bay b').format := by cases b <;> cases b' <;> rfl
@[simp] theorem State.modJob_sense (s : State) (b b' : BayId) (f : Job → Job) :
    ((s.modJob b f).bay b').sense = (s.bay b').sense := by cases b <;> cases b' <;> rfl
@[simp] theorem State.modJob_attn (s : State) (b b' : BayId) (f : Job → Job) :
    ((s.modJob b f).bay b').attn = (s.bay b').attn := by cases b <;> cases b' <;> rfl
@[simp] theorem State.modJob_ledLit (s : State) (b b' : BayId) (f : Job → Job) :
    ((s.modJob b f).bay b').ledLit = (s.bay b').ledLit := by cases b <;> cases b' <;> rfl
@[simp] theorem State.modJob_resetHeld (s : State) (b : BayId) (f : Job → Job) : (s.modJob b f).resetHeld = s.resetHeld := by cases b <;> rfl
@[simp] theorem State.modJob_twoBays (s : State) (b : BayId) (f : Job → Job) : (s.modJob b f).twoBays = s.twoBays := by cases b <;> rfl
@[simp] theorem State.modJob_autospinHigh (s : State) (b : BayId) (f : Job → Job) : (s.modJob b f).autospinHigh = s.autospinHigh := by cases b <;> rfl
@[simp] theorem State.modJob_powerLoss (s : State) (b : BayId) (f : Job → Job) : (s.modJob b f).powerLoss = s.powerLoss := by cases b <;> rfl
@[simp] theorem State.modJob_allowHolder (s : State) (b : BayId) (f : Job → Job) : (s.modJob b f).allowHolder = s.allowHolder := by cases b <;> rfl
@[simp] theorem State.modJob_allowWaiter (s : State) (b : BayId) (f : Job → Job) : (s.modJob b f).allowWaiter = s.allowWaiter := by cases b <;> rfl
@[simp] theorem State.modJob_chan (s : State) (b : BayId) (f : Job → Job) : (s.modJob b f).chan = s.chan := by cases b <;> rfl
@[simp] theorem State.modJob_slots (s : State) (b : BayId) (f : Job → Job) : (s.modJob b f).slots = s.slots := by cases b <;> rfl
@[simp] theorem State.modJob_dmt (s : State) (b : BayId) (f : Job → Job) : (s.modJob b f).dmt = s.dmt := by cases b <;> rfl
@[simp] theorem State.modJob_profile (s : State) (b : BayId) (f : Job → Job) : (s.modJob b f).profile = s.profile := by cases b <;> rfl
@[simp] theorem State.modJob_staging (s : State) (b : BayId) (f : Job → Job) : (s.modJob b f).staging = s.staging := by cases b <;> rfl
@[simp] theorem State.modJob_link (s : State) (b : BayId) (f : Job → Job) : (s.modJob b f).link = s.link := by cases b <;> rfl
@[simp] theorem State.modJob_deviceSlot (s : State) (b : BayId) (f : Job → Job) : (s.modJob b f).deviceSlot = s.deviceSlot := by cases b <;> rfl
@[simp] theorem State.modJob_signals (s : State) (b : BayId) (f : Job → Job) : (s.modJob b f).signals = s.signals := by cases b <;> rfl
@[simp] theorem State.modJob_pending (s : State) (b : BayId) (f : Job → Job) : (s.modJob b f).pending = s.pending := by cases b <;> rfl
@[simp] theorem State.modJob_hostTurns (s : State) (b : BayId) (f : Job → Job) : (s.modJob b f).hostTurns = s.hostTurns := by cases b <;> rfl
@[simp] theorem State.modJob_servo (s : State) (b : BayId) (f : Job → Job) : (s.modJob b f).servo = s.servo := by cases b <;> rfl
@[simp] theorem State.modJob_bayPresent (s : State) (b b' : BayId) (f : Job → Job) : (s.modJob b f).bayPresent b' = s.bayPresent b' := by
  cases b <;> cases b' <;> rfl

/-! ## setJob -/

@[simp] theorem State.setJob_job (s : State) (b : BayId) (j : Option Job) :
    ((s.setJob b j).bay b).job = j := by cases b <;> rfl
theorem State.setJob_job_ne (s : State) {b b' : BayId} (h : b' ≠ b) (j : Option Job) :
    ((s.setJob b j).bay b') = s.bay b' := s.bay_modBay_ne h _
@[simp] theorem State.setJob_spindle (s : State) (b b' : BayId) (j : Option Job) :
    ((s.setJob b j).bay b').spindle = (s.bay b').spindle := by cases b <;> cases b' <;> rfl
@[simp] theorem State.setJob_pos (s : State) (b b' : BayId) (j : Option Job) :
    ((s.setJob b j).bay b').pos = (s.bay b').pos := by cases b <;> cases b' <;> rfl
@[simp] theorem State.setJob_cart (s : State) (b b' : BayId) (j : Option Job) :
    ((s.setJob b j).bay b').cart = (s.bay b').cart := by cases b <;> cases b' <;> rfl
@[simp] theorem State.setJob_tu (s : State) (b b' : BayId) (j : Option Job) :
    ((s.setJob b j).bay b').tu = (s.bay b').tu := by cases b <;> cases b' <;> rfl
@[simp] theorem State.setJob_power (s : State) (b b' : BayId) (j : Option Job) :
    ((s.setJob b j).bay b').power = (s.bay b').power := by cases b <;> cases b' <;> rfl
@[simp] theorem State.setJob_slot (s : State) (b b' : BayId) (j : Option Job) :
    ((s.setJob b j).bay b').slot = (s.bay b').slot := by cases b <;> cases b' <;> rfl
@[simp] theorem State.setJob_reassign (s : State) (b b' : BayId) (j : Option Job) :
    ((s.setJob b j).bay b').reassign = (s.bay b').reassign := by cases b <;> cases b' <;> rfl
@[simp] theorem State.setJob_flush (s : State) (b b' : BayId) (j : Option Job) :
    ((s.setJob b j).bay b').flush = (s.bay b').flush := by cases b <;> cases b' <;> rfl
@[simp] theorem State.setJob_format (s : State) (b b' : BayId) (j : Option Job) :
    ((s.setJob b j).bay b').format = (s.bay b').format := by cases b <;> cases b' <;> rfl
@[simp] theorem State.setJob_sense (s : State) (b b' : BayId) (j : Option Job) :
    ((s.setJob b j).bay b').sense = (s.bay b').sense := by cases b <;> cases b' <;> rfl
@[simp] theorem State.setJob_attn (s : State) (b b' : BayId) (j : Option Job) :
    ((s.setJob b j).bay b').attn = (s.bay b').attn := by cases b <;> cases b' <;> rfl
@[simp] theorem State.setJob_ledLit (s : State) (b b' : BayId) (j : Option Job) :
    ((s.setJob b j).bay b').ledLit = (s.bay b').ledLit := by cases b <;> cases b' <;> rfl
@[simp] theorem State.setJob_resetHeld (s : State) (b : BayId) (j : Option Job) : (s.setJob b j).resetHeld = s.resetHeld := by cases b <;> rfl
@[simp] theorem State.setJob_twoBays (s : State) (b : BayId) (j : Option Job) : (s.setJob b j).twoBays = s.twoBays := by cases b <;> rfl
@[simp] theorem State.setJob_autospinHigh (s : State) (b : BayId) (j : Option Job) : (s.setJob b j).autospinHigh = s.autospinHigh := by cases b <;> rfl
@[simp] theorem State.setJob_powerLoss (s : State) (b : BayId) (j : Option Job) : (s.setJob b j).powerLoss = s.powerLoss := by cases b <;> rfl
@[simp] theorem State.setJob_allowHolder (s : State) (b : BayId) (j : Option Job) : (s.setJob b j).allowHolder = s.allowHolder := by cases b <;> rfl
@[simp] theorem State.setJob_allowWaiter (s : State) (b : BayId) (j : Option Job) : (s.setJob b j).allowWaiter = s.allowWaiter := by cases b <;> rfl
@[simp] theorem State.setJob_chan (s : State) (b : BayId) (j : Option Job) : (s.setJob b j).chan = s.chan := by cases b <;> rfl
@[simp] theorem State.setJob_slots (s : State) (b : BayId) (j : Option Job) : (s.setJob b j).slots = s.slots := by cases b <;> rfl
@[simp] theorem State.setJob_dmt (s : State) (b : BayId) (j : Option Job) : (s.setJob b j).dmt = s.dmt := by cases b <;> rfl
@[simp] theorem State.setJob_profile (s : State) (b : BayId) (j : Option Job) : (s.setJob b j).profile = s.profile := by cases b <;> rfl
@[simp] theorem State.setJob_staging (s : State) (b : BayId) (j : Option Job) : (s.setJob b j).staging = s.staging := by cases b <;> rfl
@[simp] theorem State.setJob_link (s : State) (b : BayId) (j : Option Job) : (s.setJob b j).link = s.link := by cases b <;> rfl
@[simp] theorem State.setJob_deviceSlot (s : State) (b : BayId) (j : Option Job) : (s.setJob b j).deviceSlot = s.deviceSlot := by cases b <;> rfl
@[simp] theorem State.setJob_signals (s : State) (b : BayId) (j : Option Job) : (s.setJob b j).signals = s.signals := by cases b <;> rfl
@[simp] theorem State.setJob_pending (s : State) (b : BayId) (j : Option Job) : (s.setJob b j).pending = s.pending := by cases b <;> rfl
@[simp] theorem State.setJob_hostTurns (s : State) (b : BayId) (j : Option Job) : (s.setJob b j).hostTurns = s.hostTurns := by cases b <;> rfl
@[simp] theorem State.setJob_servo (s : State) (b : BayId) (j : Option Job) : (s.setJob b j).servo = s.servo := by cases b <;> rfl
@[simp] theorem State.setJob_bayPresent (s : State) (b b' : BayId) (j : Option Job) : (s.setJob b j).bayPresent b' = s.bayPresent b' := by
  cases b <;> cases b' <;> rfl

/-! ## raise -/

@[simp] theorem State.raise_attn (s : State) (b : BayId) (k : AttnKind) (p : Byte) :
    ((s.raise b k p).bay b).attn = (s.bay b).attn.set k { raised := true, payload := p } := by cases b <;> rfl
theorem State.raise_attn_ne (s : State) {b b' : BayId} (h : b' ≠ b) (k : AttnKind) (p : Byte) :
    ((s.raise b k p).bay b') = s.bay b' := s.bay_modBay_ne h _
@[simp] theorem State.raise_spindle (s : State) (b b' : BayId) (k : AttnKind) (p : Byte) :
    ((s.raise b k p).bay b').spindle = (s.bay b').spindle := by cases b <;> cases b' <;> rfl
@[simp] theorem State.raise_pos (s : State) (b b' : BayId) (k : AttnKind) (p : Byte) :
    ((s.raise b k p).bay b').pos = (s.bay b').pos := by cases b <;> cases b' <;> rfl
@[simp] theorem State.raise_cart (s : State) (b b' : BayId) (k : AttnKind) (p : Byte) :
    ((s.raise b k p).bay b').cart = (s.bay b').cart := by cases b <;> cases b' <;> rfl
@[simp] theorem State.raise_tu (s : State) (b b' : BayId) (k : AttnKind) (p : Byte) :
    ((s.raise b k p).bay b').tu = (s.bay b').tu := by cases b <;> cases b' <;> rfl
@[simp] theorem State.raise_power (s : State) (b b' : BayId) (k : AttnKind) (p : Byte) :
    ((s.raise b k p).bay b').power = (s.bay b').power := by cases b <;> cases b' <;> rfl
@[simp] theorem State.raise_slot (s : State) (b b' : BayId) (k : AttnKind) (p : Byte) :
    ((s.raise b k p).bay b').slot = (s.bay b').slot := by cases b <;> cases b' <;> rfl
@[simp] theorem State.raise_job (s : State) (b b' : BayId) (k : AttnKind) (p : Byte) :
    ((s.raise b k p).bay b').job = (s.bay b').job := by cases b <;> cases b' <;> rfl
@[simp] theorem State.raise_reassign (s : State) (b b' : BayId) (k : AttnKind) (p : Byte) :
    ((s.raise b k p).bay b').reassign = (s.bay b').reassign := by cases b <;> cases b' <;> rfl
@[simp] theorem State.raise_flush (s : State) (b b' : BayId) (k : AttnKind) (p : Byte) :
    ((s.raise b k p).bay b').flush = (s.bay b').flush := by cases b <;> cases b' <;> rfl
@[simp] theorem State.raise_format (s : State) (b b' : BayId) (k : AttnKind) (p : Byte) :
    ((s.raise b k p).bay b').format = (s.bay b').format := by cases b <;> cases b' <;> rfl
@[simp] theorem State.raise_sense (s : State) (b b' : BayId) (k : AttnKind) (p : Byte) :
    ((s.raise b k p).bay b').sense = (s.bay b').sense := by cases b <;> cases b' <;> rfl
@[simp] theorem State.raise_ledLit (s : State) (b b' : BayId) (k : AttnKind) (p : Byte) :
    ((s.raise b k p).bay b').ledLit = (s.bay b').ledLit := by cases b <;> cases b' <;> rfl
@[simp] theorem State.raise_resetHeld (s : State) (b : BayId) (k : AttnKind) (p : Byte) : (s.raise b k p).resetHeld = s.resetHeld := by cases b <;> rfl
@[simp] theorem State.raise_twoBays (s : State) (b : BayId) (k : AttnKind) (p : Byte) : (s.raise b k p).twoBays = s.twoBays := by cases b <;> rfl
@[simp] theorem State.raise_autospinHigh (s : State) (b : BayId) (k : AttnKind) (p : Byte) : (s.raise b k p).autospinHigh = s.autospinHigh := by cases b <;> rfl
@[simp] theorem State.raise_powerLoss (s : State) (b : BayId) (k : AttnKind) (p : Byte) : (s.raise b k p).powerLoss = s.powerLoss := by cases b <;> rfl
@[simp] theorem State.raise_allowHolder (s : State) (b : BayId) (k : AttnKind) (p : Byte) : (s.raise b k p).allowHolder = s.allowHolder := by cases b <;> rfl
@[simp] theorem State.raise_allowWaiter (s : State) (b : BayId) (k : AttnKind) (p : Byte) : (s.raise b k p).allowWaiter = s.allowWaiter := by cases b <;> rfl
@[simp] theorem State.raise_chan (s : State) (b : BayId) (k : AttnKind) (p : Byte) : (s.raise b k p).chan = s.chan := by cases b <;> rfl
@[simp] theorem State.raise_slots (s : State) (b : BayId) (k : AttnKind) (p : Byte) : (s.raise b k p).slots = s.slots := by cases b <;> rfl
@[simp] theorem State.raise_dmt (s : State) (b : BayId) (k : AttnKind) (p : Byte) : (s.raise b k p).dmt = s.dmt := by cases b <;> rfl
@[simp] theorem State.raise_profile (s : State) (b : BayId) (k : AttnKind) (p : Byte) : (s.raise b k p).profile = s.profile := by cases b <;> rfl
@[simp] theorem State.raise_staging (s : State) (b : BayId) (k : AttnKind) (p : Byte) : (s.raise b k p).staging = s.staging := by cases b <;> rfl
@[simp] theorem State.raise_link (s : State) (b : BayId) (k : AttnKind) (p : Byte) : (s.raise b k p).link = s.link := by cases b <;> rfl
@[simp] theorem State.raise_deviceSlot (s : State) (b : BayId) (k : AttnKind) (p : Byte) : (s.raise b k p).deviceSlot = s.deviceSlot := by cases b <;> rfl
@[simp] theorem State.raise_signals (s : State) (b : BayId) (k : AttnKind) (p : Byte) : (s.raise b k p).signals = s.signals := by cases b <;> rfl
@[simp] theorem State.raise_pending (s : State) (b : BayId) (k : AttnKind) (p : Byte) : (s.raise b k p).pending = s.pending := by cases b <;> rfl
@[simp] theorem State.raise_hostTurns (s : State) (b : BayId) (k : AttnKind) (p : Byte) : (s.raise b k p).hostTurns = s.hostTurns := by cases b <;> rfl
@[simp] theorem State.raise_servo (s : State) (b : BayId) (k : AttnKind) (p : Byte) : (s.raise b k p).servo = s.servo := by cases b <;> rfl
@[simp] theorem State.raise_bayPresent (s : State) (b b' : BayId) (k : AttnKind) (p : Byte) : (s.raise b k p).bayPresent b' = s.bayPresent b' := by
  cases b <;> cases b' <;> rfl

/-! ## writeSense -/

@[simp] theorem State.writeSense_sense (s : State) (b : BayId) (c : Byte) (n : Nat) (r : CmdResult) :
    ((s.writeSense b c n r).bay b).sense = { completion := some r.completion, detail := r.detail, command := c, lba := r.lba, addr := r.addr, count := n, recovered := (s.bay b).sense.recovered } := by cases b <;> rfl
theorem State.writeSense_sense_ne (s : State) {b b' : BayId} (h : b' ≠ b) (c : Byte) (n : Nat) (r : CmdResult) :
    ((s.writeSense b c n r).bay b') = s.bay b' := s.bay_modBay_ne h _
@[simp] theorem State.writeSense_spindle (s : State) (b b' : BayId) (c : Byte) (n : Nat) (r : CmdResult) :
    ((s.writeSense b c n r).bay b').spindle = (s.bay b').spindle := by cases b <;> cases b' <;> rfl
@[simp] theorem State.writeSense_pos (s : State) (b b' : BayId) (c : Byte) (n : Nat) (r : CmdResult) :
    ((s.writeSense b c n r).bay b').pos = (s.bay b').pos := by cases b <;> cases b' <;> rfl
@[simp] theorem State.writeSense_cart (s : State) (b b' : BayId) (c : Byte) (n : Nat) (r : CmdResult) :
    ((s.writeSense b c n r).bay b').cart = (s.bay b').cart := by cases b <;> cases b' <;> rfl
@[simp] theorem State.writeSense_tu (s : State) (b b' : BayId) (c : Byte) (n : Nat) (r : CmdResult) :
    ((s.writeSense b c n r).bay b').tu = (s.bay b').tu := by cases b <;> cases b' <;> rfl
@[simp] theorem State.writeSense_power (s : State) (b b' : BayId) (c : Byte) (n : Nat) (r : CmdResult) :
    ((s.writeSense b c n r).bay b').power = (s.bay b').power := by cases b <;> cases b' <;> rfl
@[simp] theorem State.writeSense_slot (s : State) (b b' : BayId) (c : Byte) (n : Nat) (r : CmdResult) :
    ((s.writeSense b c n r).bay b').slot = (s.bay b').slot := by cases b <;> cases b' <;> rfl
@[simp] theorem State.writeSense_job (s : State) (b b' : BayId) (c : Byte) (n : Nat) (r : CmdResult) :
    ((s.writeSense b c n r).bay b').job = (s.bay b').job := by cases b <;> cases b' <;> rfl
@[simp] theorem State.writeSense_reassign (s : State) (b b' : BayId) (c : Byte) (n : Nat) (r : CmdResult) :
    ((s.writeSense b c n r).bay b').reassign = (s.bay b').reassign := by cases b <;> cases b' <;> rfl
@[simp] theorem State.writeSense_flush (s : State) (b b' : BayId) (c : Byte) (n : Nat) (r : CmdResult) :
    ((s.writeSense b c n r).bay b').flush = (s.bay b').flush := by cases b <;> cases b' <;> rfl
@[simp] theorem State.writeSense_format (s : State) (b b' : BayId) (c : Byte) (n : Nat) (r : CmdResult) :
    ((s.writeSense b c n r).bay b').format = (s.bay b').format := by cases b <;> cases b' <;> rfl
@[simp] theorem State.writeSense_attn (s : State) (b b' : BayId) (c : Byte) (n : Nat) (r : CmdResult) :
    ((s.writeSense b c n r).bay b').attn = (s.bay b').attn := by cases b <;> cases b' <;> rfl
@[simp] theorem State.writeSense_ledLit (s : State) (b b' : BayId) (c : Byte) (n : Nat) (r : CmdResult) :
    ((s.writeSense b c n r).bay b').ledLit = (s.bay b').ledLit := by cases b <;> cases b' <;> rfl
@[simp] theorem State.writeSense_resetHeld (s : State) (b : BayId) (c : Byte) (n : Nat) (r : CmdResult) : (s.writeSense b c n r).resetHeld = s.resetHeld := by cases b <;> rfl
@[simp] theorem State.writeSense_twoBays (s : State) (b : BayId) (c : Byte) (n : Nat) (r : CmdResult) : (s.writeSense b c n r).twoBays = s.twoBays := by cases b <;> rfl
@[simp] theorem State.writeSense_autospinHigh (s : State) (b : BayId) (c : Byte) (n : Nat) (r : CmdResult) : (s.writeSense b c n r).autospinHigh = s.autospinHigh := by cases b <;> rfl
@[simp] theorem State.writeSense_powerLoss (s : State) (b : BayId) (c : Byte) (n : Nat) (r : CmdResult) : (s.writeSense b c n r).powerLoss = s.powerLoss := by cases b <;> rfl
@[simp] theorem State.writeSense_allowHolder (s : State) (b : BayId) (c : Byte) (n : Nat) (r : CmdResult) : (s.writeSense b c n r).allowHolder = s.allowHolder := by cases b <;> rfl
@[simp] theorem State.writeSense_allowWaiter (s : State) (b : BayId) (c : Byte) (n : Nat) (r : CmdResult) : (s.writeSense b c n r).allowWaiter = s.allowWaiter := by cases b <;> rfl
@[simp] theorem State.writeSense_chan (s : State) (b : BayId) (c : Byte) (n : Nat) (r : CmdResult) : (s.writeSense b c n r).chan = s.chan := by cases b <;> rfl
@[simp] theorem State.writeSense_slots (s : State) (b : BayId) (c : Byte) (n : Nat) (r : CmdResult) : (s.writeSense b c n r).slots = s.slots := by cases b <;> rfl
@[simp] theorem State.writeSense_dmt (s : State) (b : BayId) (c : Byte) (n : Nat) (r : CmdResult) : (s.writeSense b c n r).dmt = s.dmt := by cases b <;> rfl
@[simp] theorem State.writeSense_profile (s : State) (b : BayId) (c : Byte) (n : Nat) (r : CmdResult) : (s.writeSense b c n r).profile = s.profile := by cases b <;> rfl
@[simp] theorem State.writeSense_staging (s : State) (b : BayId) (c : Byte) (n : Nat) (r : CmdResult) : (s.writeSense b c n r).staging = s.staging := by cases b <;> rfl
@[simp] theorem State.writeSense_link (s : State) (b : BayId) (c : Byte) (n : Nat) (r : CmdResult) : (s.writeSense b c n r).link = s.link := by cases b <;> rfl
@[simp] theorem State.writeSense_deviceSlot (s : State) (b : BayId) (c : Byte) (n : Nat) (r : CmdResult) : (s.writeSense b c n r).deviceSlot = s.deviceSlot := by cases b <;> rfl
@[simp] theorem State.writeSense_signals (s : State) (b : BayId) (c : Byte) (n : Nat) (r : CmdResult) : (s.writeSense b c n r).signals = s.signals := by cases b <;> rfl
@[simp] theorem State.writeSense_pending (s : State) (b : BayId) (c : Byte) (n : Nat) (r : CmdResult) : (s.writeSense b c n r).pending = s.pending := by cases b <;> rfl
@[simp] theorem State.writeSense_hostTurns (s : State) (b : BayId) (c : Byte) (n : Nat) (r : CmdResult) : (s.writeSense b c n r).hostTurns = s.hostTurns := by cases b <;> rfl
@[simp] theorem State.writeSense_servo (s : State) (b : BayId) (c : Byte) (n : Nat) (r : CmdResult) : (s.writeSense b c n r).servo = s.servo := by cases b <;> rfl
@[simp] theorem State.writeSense_bayPresent (s : State) (b b' : BayId) (c : Byte) (n : Nat) (r : CmdResult) : (s.writeSense b c n r).bayPresent b' = s.bayPresent b' := by
  cases b <;> cases b' <;> rfl

/-! ## countRecovered -/

@[simp] theorem State.countRecovered_sense (s : State) (b : BayId) :
    ((s.countRecovered b).bay b).sense = { (s.bay b).sense with recovered := min 65535 ((s.bay b).sense.recovered + 1) } := by cases b <;> rfl
theorem State.countRecovered_sense_ne (s : State) {b b' : BayId} (h : b' ≠ b) :
    ((s.countRecovered b).bay b') = s.bay b' := s.bay_modBay_ne h _
@[simp] theorem State.countRecovered_spindle (s : State) (b b' : BayId) :
    ((s.countRecovered b).bay b').spindle = (s.bay b').spindle := by cases b <;> cases b' <;> rfl
@[simp] theorem State.countRecovered_pos (s : State) (b b' : BayId) :
    ((s.countRecovered b).bay b').pos = (s.bay b').pos := by cases b <;> cases b' <;> rfl
@[simp] theorem State.countRecovered_cart (s : State) (b b' : BayId) :
    ((s.countRecovered b).bay b').cart = (s.bay b').cart := by cases b <;> cases b' <;> rfl
@[simp] theorem State.countRecovered_tu (s : State) (b b' : BayId) :
    ((s.countRecovered b).bay b').tu = (s.bay b').tu := by cases b <;> cases b' <;> rfl
@[simp] theorem State.countRecovered_power (s : State) (b b' : BayId) :
    ((s.countRecovered b).bay b').power = (s.bay b').power := by cases b <;> cases b' <;> rfl
@[simp] theorem State.countRecovered_slot (s : State) (b b' : BayId) :
    ((s.countRecovered b).bay b').slot = (s.bay b').slot := by cases b <;> cases b' <;> rfl
@[simp] theorem State.countRecovered_job (s : State) (b b' : BayId) :
    ((s.countRecovered b).bay b').job = (s.bay b').job := by cases b <;> cases b' <;> rfl
@[simp] theorem State.countRecovered_reassign (s : State) (b b' : BayId) :
    ((s.countRecovered b).bay b').reassign = (s.bay b').reassign := by cases b <;> cases b' <;> rfl
@[simp] theorem State.countRecovered_flush (s : State) (b b' : BayId) :
    ((s.countRecovered b).bay b').flush = (s.bay b').flush := by cases b <;> cases b' <;> rfl
@[simp] theorem State.countRecovered_format (s : State) (b b' : BayId) :
    ((s.countRecovered b).bay b').format = (s.bay b').format := by cases b <;> cases b' <;> rfl
@[simp] theorem State.countRecovered_attn (s : State) (b b' : BayId) :
    ((s.countRecovered b).bay b').attn = (s.bay b').attn := by cases b <;> cases b' <;> rfl
@[simp] theorem State.countRecovered_ledLit (s : State) (b b' : BayId) :
    ((s.countRecovered b).bay b').ledLit = (s.bay b').ledLit := by cases b <;> cases b' <;> rfl
@[simp] theorem State.countRecovered_resetHeld (s : State) (b : BayId) : (s.countRecovered b).resetHeld = s.resetHeld := by cases b <;> rfl
@[simp] theorem State.countRecovered_twoBays (s : State) (b : BayId) : (s.countRecovered b).twoBays = s.twoBays := by cases b <;> rfl
@[simp] theorem State.countRecovered_autospinHigh (s : State) (b : BayId) : (s.countRecovered b).autospinHigh = s.autospinHigh := by cases b <;> rfl
@[simp] theorem State.countRecovered_powerLoss (s : State) (b : BayId) : (s.countRecovered b).powerLoss = s.powerLoss := by cases b <;> rfl
@[simp] theorem State.countRecovered_allowHolder (s : State) (b : BayId) : (s.countRecovered b).allowHolder = s.allowHolder := by cases b <;> rfl
@[simp] theorem State.countRecovered_allowWaiter (s : State) (b : BayId) : (s.countRecovered b).allowWaiter = s.allowWaiter := by cases b <;> rfl
@[simp] theorem State.countRecovered_chan (s : State) (b : BayId) : (s.countRecovered b).chan = s.chan := by cases b <;> rfl
@[simp] theorem State.countRecovered_slots (s : State) (b : BayId) : (s.countRecovered b).slots = s.slots := by cases b <;> rfl
@[simp] theorem State.countRecovered_dmt (s : State) (b : BayId) : (s.countRecovered b).dmt = s.dmt := by cases b <;> rfl
@[simp] theorem State.countRecovered_profile (s : State) (b : BayId) : (s.countRecovered b).profile = s.profile := by cases b <;> rfl
@[simp] theorem State.countRecovered_staging (s : State) (b : BayId) : (s.countRecovered b).staging = s.staging := by cases b <;> rfl
@[simp] theorem State.countRecovered_link (s : State) (b : BayId) : (s.countRecovered b).link = s.link := by cases b <;> rfl
@[simp] theorem State.countRecovered_deviceSlot (s : State) (b : BayId) : (s.countRecovered b).deviceSlot = s.deviceSlot := by cases b <;> rfl
@[simp] theorem State.countRecovered_signals (s : State) (b : BayId) : (s.countRecovered b).signals = s.signals := by cases b <;> rfl
@[simp] theorem State.countRecovered_pending (s : State) (b : BayId) : (s.countRecovered b).pending = s.pending := by cases b <;> rfl
@[simp] theorem State.countRecovered_hostTurns (s : State) (b : BayId) : (s.countRecovered b).hostTurns = s.hostTurns := by cases b <;> rfl
@[simp] theorem State.countRecovered_servo (s : State) (b : BayId) : (s.countRecovered b).servo = s.servo := by cases b <;> rfl
@[simp] theorem State.countRecovered_bayPresent (s : State) (b b' : BayId) : (s.countRecovered b).bayPresent b' = s.bayPresent b' := by
  cases b <;> cases b' <;> rfl

/-! ## modChan -/

@[simp] theorem State.modChan_chan (s : State) (f : Channel → Channel) : (s.modChan f).chan = f s.chan := rfl
@[simp] theorem State.modChan_resetHeld (s : State) (f : Channel → Channel) : (s.modChan f).resetHeld = s.resetHeld := rfl
@[simp] theorem State.modChan_twoBays (s : State) (f : Channel → Channel) : (s.modChan f).twoBays = s.twoBays := rfl
@[simp] theorem State.modChan_autospinHigh (s : State) (f : Channel → Channel) : (s.modChan f).autospinHigh = s.autospinHigh := rfl
@[simp] theorem State.modChan_powerLoss (s : State) (f : Channel → Channel) : (s.modChan f).powerLoss = s.powerLoss := rfl
@[simp] theorem State.modChan_allowHolder (s : State) (f : Channel → Channel) : (s.modChan f).allowHolder = s.allowHolder := rfl
@[simp] theorem State.modChan_allowWaiter (s : State) (f : Channel → Channel) : (s.modChan f).allowWaiter = s.allowWaiter := rfl
@[simp] theorem State.modChan_slots (s : State) (f : Channel → Channel) : (s.modChan f).slots = s.slots := rfl
@[simp] theorem State.modChan_dmt (s : State) (f : Channel → Channel) : (s.modChan f).dmt = s.dmt := rfl
@[simp] theorem State.modChan_profile (s : State) (f : Channel → Channel) : (s.modChan f).profile = s.profile := rfl
@[simp] theorem State.modChan_staging (s : State) (f : Channel → Channel) : (s.modChan f).staging = s.staging := rfl
@[simp] theorem State.modChan_link (s : State) (f : Channel → Channel) : (s.modChan f).link = s.link := rfl
@[simp] theorem State.modChan_deviceSlot (s : State) (f : Channel → Channel) : (s.modChan f).deviceSlot = s.deviceSlot := rfl
@[simp] theorem State.modChan_signals (s : State) (f : Channel → Channel) : (s.modChan f).signals = s.signals := rfl
@[simp] theorem State.modChan_pending (s : State) (f : Channel → Channel) : (s.modChan f).pending = s.pending := rfl
@[simp] theorem State.modChan_hostTurns (s : State) (f : Channel → Channel) : (s.modChan f).hostTurns = s.hostTurns := rfl
@[simp] theorem State.modChan_servo (s : State) (f : Channel → Channel) : (s.modChan f).servo = s.servo := rfl
@[simp] theorem State.modChan_bay (s : State) (b' : BayId) (f : Channel → Channel) : (s.modChan f).bay b' = s.bay b' := by cases b' <;> rfl
@[simp] theorem State.modChan_bayPresent (s : State) (b' : BayId) (f : Channel → Channel) : (s.modChan f).bayPresent b' = s.bayPresent b' := by cases b' <;> rfl

/-! ## modLink -/

@[simp] theorem State.modLink_link (s : State) (f : Link → Link) : (s.modLink f).link = f s.link := rfl
@[simp] theorem State.modLink_resetHeld (s : State) (f : Link → Link) : (s.modLink f).resetHeld = s.resetHeld := rfl
@[simp] theorem State.modLink_twoBays (s : State) (f : Link → Link) : (s.modLink f).twoBays = s.twoBays := rfl
@[simp] theorem State.modLink_autospinHigh (s : State) (f : Link → Link) : (s.modLink f).autospinHigh = s.autospinHigh := rfl
@[simp] theorem State.modLink_powerLoss (s : State) (f : Link → Link) : (s.modLink f).powerLoss = s.powerLoss := rfl
@[simp] theorem State.modLink_allowHolder (s : State) (f : Link → Link) : (s.modLink f).allowHolder = s.allowHolder := rfl
@[simp] theorem State.modLink_allowWaiter (s : State) (f : Link → Link) : (s.modLink f).allowWaiter = s.allowWaiter := rfl
@[simp] theorem State.modLink_chan (s : State) (f : Link → Link) : (s.modLink f).chan = s.chan := rfl
@[simp] theorem State.modLink_slots (s : State) (f : Link → Link) : (s.modLink f).slots = s.slots := rfl
@[simp] theorem State.modLink_dmt (s : State) (f : Link → Link) : (s.modLink f).dmt = s.dmt := rfl
@[simp] theorem State.modLink_profile (s : State) (f : Link → Link) : (s.modLink f).profile = s.profile := rfl
@[simp] theorem State.modLink_staging (s : State) (f : Link → Link) : (s.modLink f).staging = s.staging := rfl
@[simp] theorem State.modLink_deviceSlot (s : State) (f : Link → Link) : (s.modLink f).deviceSlot = s.deviceSlot := rfl
@[simp] theorem State.modLink_signals (s : State) (f : Link → Link) : (s.modLink f).signals = s.signals := rfl
@[simp] theorem State.modLink_pending (s : State) (f : Link → Link) : (s.modLink f).pending = s.pending := rfl
@[simp] theorem State.modLink_hostTurns (s : State) (f : Link → Link) : (s.modLink f).hostTurns = s.hostTurns := rfl
@[simp] theorem State.modLink_servo (s : State) (f : Link → Link) : (s.modLink f).servo = s.servo := rfl
@[simp] theorem State.modLink_bay (s : State) (b' : BayId) (f : Link → Link) : (s.modLink f).bay b' = s.bay b' := by cases b' <;> rfl
@[simp] theorem State.modLink_bayPresent (s : State) (b' : BayId) (f : Link → Link) : (s.modLink f).bayPresent b' = s.bayPresent b' := by cases b' <;> rfl

/-! ## tell -/

@[simp] theorem State.tell_signals (s : State) (m : Signal) : (s.tell m).signals = s.signals ++ [m] := rfl
@[simp] theorem State.tell_resetHeld (s : State) (m : Signal) : (s.tell m).resetHeld = s.resetHeld := rfl
@[simp] theorem State.tell_twoBays (s : State) (m : Signal) : (s.tell m).twoBays = s.twoBays := rfl
@[simp] theorem State.tell_autospinHigh (s : State) (m : Signal) : (s.tell m).autospinHigh = s.autospinHigh := rfl
@[simp] theorem State.tell_powerLoss (s : State) (m : Signal) : (s.tell m).powerLoss = s.powerLoss := rfl
@[simp] theorem State.tell_allowHolder (s : State) (m : Signal) : (s.tell m).allowHolder = s.allowHolder := rfl
@[simp] theorem State.tell_allowWaiter (s : State) (m : Signal) : (s.tell m).allowWaiter = s.allowWaiter := rfl
@[simp] theorem State.tell_chan (s : State) (m : Signal) : (s.tell m).chan = s.chan := rfl
@[simp] theorem State.tell_slots (s : State) (m : Signal) : (s.tell m).slots = s.slots := rfl
@[simp] theorem State.tell_dmt (s : State) (m : Signal) : (s.tell m).dmt = s.dmt := rfl
@[simp] theorem State.tell_profile (s : State) (m : Signal) : (s.tell m).profile = s.profile := rfl
@[simp] theorem State.tell_staging (s : State) (m : Signal) : (s.tell m).staging = s.staging := rfl
@[simp] theorem State.tell_link (s : State) (m : Signal) : (s.tell m).link = s.link := rfl
@[simp] theorem State.tell_deviceSlot (s : State) (m : Signal) : (s.tell m).deviceSlot = s.deviceSlot := rfl
@[simp] theorem State.tell_pending (s : State) (m : Signal) : (s.tell m).pending = s.pending := rfl
@[simp] theorem State.tell_hostTurns (s : State) (m : Signal) : (s.tell m).hostTurns = s.hostTurns := rfl
@[simp] theorem State.tell_servo (s : State) (m : Signal) : (s.tell m).servo = s.servo := rfl
@[simp] theorem State.tell_bay (s : State) (b' : BayId) (m : Signal) : (s.tell m).bay b' = s.bay b' := by cases b' <;> rfl
@[simp] theorem State.tell_bayPresent (s : State) (b' : BayId) (m : Signal) : (s.tell m).bayPresent b' = s.bayPresent b' := by cases b' <;> rfl

/-! ## enqueue -/

@[simp] theorem State.enqueue_link (s : State) (d : Desc) : (s.enqueue d).link = { s.link with queue := s.link.queue ++ [d] } := rfl
@[simp] theorem State.enqueue_resetHeld (s : State) (d : Desc) : (s.enqueue d).resetHeld = s.resetHeld := rfl
@[simp] theorem State.enqueue_twoBays (s : State) (d : Desc) : (s.enqueue d).twoBays = s.twoBays := rfl
@[simp] theorem State.enqueue_autospinHigh (s : State) (d : Desc) : (s.enqueue d).autospinHigh = s.autospinHigh := rfl
@[simp] theorem State.enqueue_powerLoss (s : State) (d : Desc) : (s.enqueue d).powerLoss = s.powerLoss := rfl
@[simp] theorem State.enqueue_allowHolder (s : State) (d : Desc) : (s.enqueue d).allowHolder = s.allowHolder := rfl
@[simp] theorem State.enqueue_allowWaiter (s : State) (d : Desc) : (s.enqueue d).allowWaiter = s.allowWaiter := rfl
@[simp] theorem State.enqueue_chan (s : State) (d : Desc) : (s.enqueue d).chan = s.chan := rfl
@[simp] theorem State.enqueue_slots (s : State) (d : Desc) : (s.enqueue d).slots = s.slots := rfl
@[simp] theorem State.enqueue_dmt (s : State) (d : Desc) : (s.enqueue d).dmt = s.dmt := rfl
@[simp] theorem State.enqueue_profile (s : State) (d : Desc) : (s.enqueue d).profile = s.profile := rfl
@[simp] theorem State.enqueue_staging (s : State) (d : Desc) : (s.enqueue d).staging = s.staging := rfl
@[simp] theorem State.enqueue_deviceSlot (s : State) (d : Desc) : (s.enqueue d).deviceSlot = s.deviceSlot := rfl
@[simp] theorem State.enqueue_signals (s : State) (d : Desc) : (s.enqueue d).signals = s.signals := rfl
@[simp] theorem State.enqueue_pending (s : State) (d : Desc) : (s.enqueue d).pending = s.pending := rfl
@[simp] theorem State.enqueue_hostTurns (s : State) (d : Desc) : (s.enqueue d).hostTurns = s.hostTurns := rfl
@[simp] theorem State.enqueue_servo (s : State) (d : Desc) : (s.enqueue d).servo = s.servo := rfl
@[simp] theorem State.enqueue_bay (s : State) (b' : BayId) (d : Desc) : (s.enqueue d).bay b' = s.bay b' := by cases b' <;> rfl
@[simp] theorem State.enqueue_bayPresent (s : State) (b' : BayId) (d : Desc) : (s.enqueue d).bayPresent b' = s.bayPresent b' := by cases b' <;> rfl

/-! ## dropDescs -/

@[simp] theorem State.dropDescs_link (s : State) (p : Desc → Bool) : (s.dropDescs p).link = { s.link with queue := s.link.queue.filter fun d => !p d, offered := s.link.offered.filter fun d => !p d } := rfl
@[simp] theorem State.dropDescs_resetHeld (s : State) (p : Desc → Bool) : (s.dropDescs p).resetHeld = s.resetHeld := rfl
@[simp] theorem State.dropDescs_twoBays (s : State) (p : Desc → Bool) : (s.dropDescs p).twoBays = s.twoBays := rfl
@[simp] theorem State.dropDescs_autospinHigh (s : State) (p : Desc → Bool) : (s.dropDescs p).autospinHigh = s.autospinHigh := rfl
@[simp] theorem State.dropDescs_powerLoss (s : State) (p : Desc → Bool) : (s.dropDescs p).powerLoss = s.powerLoss := rfl
@[simp] theorem State.dropDescs_allowHolder (s : State) (p : Desc → Bool) : (s.dropDescs p).allowHolder = s.allowHolder := rfl
@[simp] theorem State.dropDescs_allowWaiter (s : State) (p : Desc → Bool) : (s.dropDescs p).allowWaiter = s.allowWaiter := rfl
@[simp] theorem State.dropDescs_chan (s : State) (p : Desc → Bool) : (s.dropDescs p).chan = s.chan := rfl
@[simp] theorem State.dropDescs_slots (s : State) (p : Desc → Bool) : (s.dropDescs p).slots = s.slots := rfl
@[simp] theorem State.dropDescs_dmt (s : State) (p : Desc → Bool) : (s.dropDescs p).dmt = s.dmt := rfl
@[simp] theorem State.dropDescs_profile (s : State) (p : Desc → Bool) : (s.dropDescs p).profile = s.profile := rfl
@[simp] theorem State.dropDescs_staging (s : State) (p : Desc → Bool) : (s.dropDescs p).staging = s.staging := rfl
@[simp] theorem State.dropDescs_deviceSlot (s : State) (p : Desc → Bool) : (s.dropDescs p).deviceSlot = s.deviceSlot := rfl
@[simp] theorem State.dropDescs_signals (s : State) (p : Desc → Bool) : (s.dropDescs p).signals = s.signals := rfl
@[simp] theorem State.dropDescs_pending (s : State) (p : Desc → Bool) : (s.dropDescs p).pending = s.pending := rfl
@[simp] theorem State.dropDescs_hostTurns (s : State) (p : Desc → Bool) : (s.dropDescs p).hostTurns = s.hostTurns := rfl
@[simp] theorem State.dropDescs_servo (s : State) (p : Desc → Bool) : (s.dropDescs p).servo = s.servo := rfl
@[simp] theorem State.dropDescs_bay (s : State) (b' : BayId) (p : Desc → Bool) : (s.dropDescs p).bay b' = s.bay b' := by cases b' <;> rfl
@[simp] theorem State.dropDescs_bayPresent (s : State) (b' : BayId) (p : Desc → Bool) : (s.dropDescs p).bayPresent b' = s.bayPresent b' := by cases b' <;> rfl

/-! ## modSlot -/

@[simp] theorem State.modSlot_slots (s : State) (k : Nat) (f : SlotRec → SlotRec) : (s.modSlot k f).slots = s.slots.set k (f (s.slotRec k)) := rfl
@[simp] theorem State.modSlot_resetHeld (s : State) (k : Nat) (f : SlotRec → SlotRec) : (s.modSlot k f).resetHeld = s.resetHeld := rfl
@[simp] theorem State.modSlot_twoBays (s : State) (k : Nat) (f : SlotRec → SlotRec) : (s.modSlot k f).twoBays = s.twoBays := rfl
@[simp] theorem State.modSlot_autospinHigh (s : State) (k : Nat) (f : SlotRec → SlotRec) : (s.modSlot k f).autospinHigh = s.autospinHigh := rfl
@[simp] theorem State.modSlot_powerLoss (s : State) (k : Nat) (f : SlotRec → SlotRec) : (s.modSlot k f).powerLoss = s.powerLoss := rfl
@[simp] theorem State.modSlot_allowHolder (s : State) (k : Nat) (f : SlotRec → SlotRec) : (s.modSlot k f).allowHolder = s.allowHolder := rfl
@[simp] theorem State.modSlot_allowWaiter (s : State) (k : Nat) (f : SlotRec → SlotRec) : (s.modSlot k f).allowWaiter = s.allowWaiter := rfl
@[simp] theorem State.modSlot_chan (s : State) (k : Nat) (f : SlotRec → SlotRec) : (s.modSlot k f).chan = s.chan := rfl
@[simp] theorem State.modSlot_dmt (s : State) (k : Nat) (f : SlotRec → SlotRec) : (s.modSlot k f).dmt = s.dmt := rfl
@[simp] theorem State.modSlot_profile (s : State) (k : Nat) (f : SlotRec → SlotRec) : (s.modSlot k f).profile = s.profile := rfl
@[simp] theorem State.modSlot_staging (s : State) (k : Nat) (f : SlotRec → SlotRec) : (s.modSlot k f).staging = s.staging := rfl
@[simp] theorem State.modSlot_link (s : State) (k : Nat) (f : SlotRec → SlotRec) : (s.modSlot k f).link = s.link := rfl
@[simp] theorem State.modSlot_deviceSlot (s : State) (k : Nat) (f : SlotRec → SlotRec) : (s.modSlot k f).deviceSlot = s.deviceSlot := rfl
@[simp] theorem State.modSlot_signals (s : State) (k : Nat) (f : SlotRec → SlotRec) : (s.modSlot k f).signals = s.signals := rfl
@[simp] theorem State.modSlot_pending (s : State) (k : Nat) (f : SlotRec → SlotRec) : (s.modSlot k f).pending = s.pending := rfl
@[simp] theorem State.modSlot_hostTurns (s : State) (k : Nat) (f : SlotRec → SlotRec) : (s.modSlot k f).hostTurns = s.hostTurns := rfl
@[simp] theorem State.modSlot_servo (s : State) (k : Nat) (f : SlotRec → SlotRec) : (s.modSlot k f).servo = s.servo := rfl
@[simp] theorem State.modSlot_bay (s : State) (b' : BayId) (k : Nat) (f : SlotRec → SlotRec) : (s.modSlot k f).bay b' = s.bay b' := by cases b' <;> rfl
@[simp] theorem State.modSlot_bayPresent (s : State) (b' : BayId) (k : Nat) (f : SlotRec → SlotRec) : (s.modSlot k f).bayPresent b' = s.bayPresent b' := by cases b' <;> rfl

/-! ## freeWhere -/

@[simp] theorem State.freeWhere_slots (s : State) (b : BayId) (p : SlotRec → Bool) : (s.freeWhere b p).slots = s.slots.map fun r => if r.owner == some b && p r then SlotRec.free else r := rfl
@[simp] theorem State.freeWhere_resetHeld (s : State) (b : BayId) (p : SlotRec → Bool) : (s.freeWhere b p).resetHeld = s.resetHeld := rfl
@[simp] theorem State.freeWhere_twoBays (s : State) (b : BayId) (p : SlotRec → Bool) : (s.freeWhere b p).twoBays = s.twoBays := rfl
@[simp] theorem State.freeWhere_autospinHigh (s : State) (b : BayId) (p : SlotRec → Bool) : (s.freeWhere b p).autospinHigh = s.autospinHigh := rfl
@[simp] theorem State.freeWhere_powerLoss (s : State) (b : BayId) (p : SlotRec → Bool) : (s.freeWhere b p).powerLoss = s.powerLoss := rfl
@[simp] theorem State.freeWhere_allowHolder (s : State) (b : BayId) (p : SlotRec → Bool) : (s.freeWhere b p).allowHolder = s.allowHolder := rfl
@[simp] theorem State.freeWhere_allowWaiter (s : State) (b : BayId) (p : SlotRec → Bool) : (s.freeWhere b p).allowWaiter = s.allowWaiter := rfl
@[simp] theorem State.freeWhere_chan (s : State) (b : BayId) (p : SlotRec → Bool) : (s.freeWhere b p).chan = s.chan := rfl
@[simp] theorem State.freeWhere_dmt (s : State) (b : BayId) (p : SlotRec → Bool) : (s.freeWhere b p).dmt = s.dmt := rfl
@[simp] theorem State.freeWhere_profile (s : State) (b : BayId) (p : SlotRec → Bool) : (s.freeWhere b p).profile = s.profile := rfl
@[simp] theorem State.freeWhere_staging (s : State) (b : BayId) (p : SlotRec → Bool) : (s.freeWhere b p).staging = s.staging := rfl
@[simp] theorem State.freeWhere_link (s : State) (b : BayId) (p : SlotRec → Bool) : (s.freeWhere b p).link = s.link := rfl
@[simp] theorem State.freeWhere_deviceSlot (s : State) (b : BayId) (p : SlotRec → Bool) : (s.freeWhere b p).deviceSlot = s.deviceSlot := rfl
@[simp] theorem State.freeWhere_signals (s : State) (b : BayId) (p : SlotRec → Bool) : (s.freeWhere b p).signals = s.signals := rfl
@[simp] theorem State.freeWhere_pending (s : State) (b : BayId) (p : SlotRec → Bool) : (s.freeWhere b p).pending = s.pending := rfl
@[simp] theorem State.freeWhere_hostTurns (s : State) (b : BayId) (p : SlotRec → Bool) : (s.freeWhere b p).hostTurns = s.hostTurns := rfl
@[simp] theorem State.freeWhere_servo (s : State) (b : BayId) (p : SlotRec → Bool) : (s.freeWhere b p).servo = s.servo := rfl
@[simp] theorem State.freeWhere_bay (s : State) (b' : BayId) (b : BayId) (p : SlotRec → Bool) : (s.freeWhere b p).bay b' = s.bay b' := by cases b' <;> rfl
@[simp] theorem State.freeWhere_bayPresent (s : State) (b' : BayId) (b : BayId) (p : SlotRec → Bool) : (s.freeWhere b p).bayPresent b' = s.bayPresent b' := by cases b' <;> rfl

end Sys2Proof.Machine
end

