-- ==== Sys2Proof/Laws/Events.lean ====
section
/-! SUPPORT. How an event ends: the delivery of its messages one by one, the readiness class, the pending descriptors and the
next frame, each with the conditions under which it leaves the state alone; and what a resting bay does when it is poked. -/

namespace Sys2Proof.Machine

/-! ## Records rebuilt as they were -/

@[simp] theorem State.modLink_same (s : State) : (s.modLink fun l => { l with queue := s.link.queue, offered := s.link.offered }) = s := rfl

/-! ## The end of an event -/

theorem settle_nil (n : Nat) (s : State) (h : s.signals = []) : settle n s = s := by
  cases n with
  | zero => rfl
  | succ n => simp only [settle, h]

theorem settle_cons (n : Nat) (s : State) (m : Signal) (rest : List Signal) (h : s.signals = m :: rest) :
    settle (n + 1) s = settle n (({ s with signals := rest } : State).deliver m) := by
  simp only [settle, h]

/-- An event without messages ends with `closeEvent`. -/
theorem State.conclude_quiet (s : State) (hr : s.running) (h : s.signals = []) : s.conclude = .next s.closeEvent := by
  simp [State.conclude, hr.1, hr.2, settle_nil _ s h, h]

/-- After the power-fail latch, and while RESET is held, an event leaves nothing behind. -/
theorem State.conclude_dead (s : State) (h : ¬ s.running) : s.conclude = .next { s with signals := [] } := by
  have h' : (s.powerLoss || s.resetHeld) = true := by
    cases h1 : s.powerLoss <;> cases h2 : s.resetHeld <;> simp_all [State.running]
  simp [State.conclude, h']

/-- What `conclude` answers when it answers a next state. -/
theorem State.conclude_next {s t : State} (h : s.conclude = .next t) :
    (¬ s.running ∧ t = { s with signals := [] }) ∨
      (s.running ∧ (settle Config.messageBudget s).signals = [] ∧ t = (settle Config.messageBudget s).closeEvent) := by
  by_cases hr : s.running
  · refine .inr ⟨hr, ?_⟩
    simp only [State.conclude, hr.1, hr.2, Bool.or_self, Bool.false_eq_true, if_false] at h
    split at h
    · rename_i he
      exact ⟨by simpa using he, by simpa using h.symm⟩
    · cases h
  · rw [State.conclude_dead s hr] at h
    exact .inl ⟨hr, by simpa using h.symm⟩

theorem State.refreshReadiness_same (s : State) (b : BayId)
    (h : (s.bay b).power.readiness = (s.bay b).power.mode.readiness) : s.refreshReadiness b = s := by
  simp [State.refreshReadiness, h]

theorem State.joinPending_same (s : State) (h : s.link.offered = []) : s.joinPending = s := by
  cases s with
  | mk _ _ _ _ _ _ _ _ _ _ _ link => cases link; simp_all [State.joinPending, joinOffered, State.modLink]

theorem State.kick_same (s : State) (h : s.linkBusy) : s.kick = s := by
  rcases h with h | h | h
  · simp [State.kick, h]
  · obtain ⟨f, hf⟩ := Option.isSome_iff_exists.1 h
    simp [State.kick, hf]
  · simp [State.kick, State.linkAlive, h]

/-- The end of an event changes nothing in a settled state of a part whose link is busy. -/
theorem State.closeEvent_same (s : State) (h : s.settled) (hl : s.linkBusy) : s.closeEvent = s := by
  unfold State.closeEvent
  rw [State.refreshReadiness_same s .bayA h.2.2.1, State.refreshReadiness_same s .bayB h.2.2.2,
    State.joinPending_same s h.2.1, State.kick_same s hl]

theorem State.conclude_calm (s : State) (h : s.calm) : s.conclude = .next s := by
  rw [State.conclude_quiet s h.1 h.2.1.1, State.closeEvent_same s h.2.1 h.2.2]

/-- A frame may begin on a running part with LDIR at OUT, no frame held and none withheld. -/
theorem State.frameMayBegin_spec {s : State} (h : s.frameMayBegin = true) :
    s.running ∧ s.link.lrst = false ∧ s.link.ldir = .hostSends ∧ s.link.inFrame = none ∧ s.link.withheld = none := by
  simp only [State.frameMayBegin, State.linkAlive, Bool.and_eq_true, Bool.not_eq_true', beq_iff_eq,
    Option.isNone_iff_eq_none] at h
  obtain ⟨⟨⟨⟨⟨h1, h2⟩, h3⟩, h4⟩, h5⟩, h6⟩ := h
  exact ⟨⟨h1, h2⟩, h3, h4, h5, h6⟩

/-- A frame is taken by a running part with LDIR at OUT, no frame held or withheld, and room in the queue. -/
theorem State.takesFrame_spec {s : State} (h : s.takesFrame = true) :
    s.running ∧ s.link.lrst = false ∧ s.link.ldir = .hostSends ∧ s.link.inFrame = none ∧ s.link.withheld = none ∧
      s.link.queue.length + s.link.reservations ≤ Config.frameStartRoom := by
  simp only [State.takesFrame, Bool.and_eq_true, decide_eq_true_eq] at h
  obtain ⟨h1, h2, h3, h4, h5⟩ := State.frameMayBegin_spec h.1
  exact ⟨h1, h2, h3, h4, h5, h.2⟩

theorem State.hears.calm {s : State} (h : s.hears) : s.calm :=
  ⟨(State.takesFrame_spec h.1).1, h.2.1, .inl (State.takesFrame_spec h.1).2.2.1⟩

/-! ## What follows from an event in a settled state -/

theorem State.kick_idle (s : State) (h1 : s.link.queue = []) (h2 : s.nextAttention = none) : s.kick = s := by
  simp [State.kick, State.beginFrame, h1, h2]

/-- In a settled state only the link has something to do at the end of an event. -/
theorem State.conclude_settled (s : State) (hr : s.running) (h : s.settled) : s.conclude = .next s.kick := by
  rw [State.conclude_quiet s hr h.1]
  unfold State.closeEvent
  rw [State.refreshReadiness_same s .bayA h.2.2.1, State.refreshReadiness_same s .bayB h.2.2.2, State.joinPending_same s h.2.1]

/-- A state that differs from a calm one only where calmness does not look is calm. -/
theorem State.calm_of {s u : State} (h : s.calm) (h1 : u.resetHeld = s.resetHeld) (h2 : u.powerLoss = s.powerLoss)
    (h3 : u.signals = s.signals) (h4 : u.link.offered = s.link.offered) (h5 : u.link.ldir = s.link.ldir)
    (h6 : u.link.outFrame = s.link.outFrame) (h7 : u.link.lrst = s.link.lrst)
    (h8 : ∀ b, (u.bay b).power.readiness = (u.bay b).power.mode.readiness) : u.calm := by
  obtain ⟨⟨a1, a2⟩, ⟨a3, a4, _, _⟩, a7⟩ := h
  refine ⟨⟨h1.trans a1, h2.trans a2⟩, ⟨h3.trans a3, h4.trans a4, h8 .bayA, h8 .bayB⟩, ?_⟩
  unfold State.linkBusy
  rw [h5, h6, h7]
  exact a7

/-- The two classes of a settled state. -/
theorem State.settled.class {s : State} (h : s.settled) (b : BayId) :
    (s.bay b).power.readiness = (s.bay b).power.mode.readiness := by
  cases b
  · exact h.2.2.1
  · exact h.2.2.2

/-- An event that changes one bay of a calm part, and leaves its readiness class in step with its mode, ends there. -/
theorem State.conclude_modBay (s : State) (b : BayId) (f : Bay → Bay) (h : s.calm)
    (hf : (f (s.bay b)).power.readiness = (f (s.bay b)).power.mode.readiness) :
    (s.modBay b f).conclude = .next (s.modBay b f) := by
  refine State.conclude_calm _ (State.calm_of h ?_ ?_ ?_ ?_ ?_ ?_ ?_ ?_)
  any_goals cases b <;> rfl
  intro b'
  have := h.2.1.class b'
  cases b <;> cases b' <;> assumption

/-- An event that takes a bay's power mode to another class raises READINESS with the new class. -/
theorem State.conclude_class (s : State) (b : BayId) (hr : s.running) (hs : s.signals = []) (ho : s.link.offered = [])
    (hl : s.linkBusy) (hb : (s.bay b).power.readiness ≠ (s.bay b).power.mode.readiness)
    (hother : (s.bay (otherBay b)).power.readiness = (s.bay (otherBay b)).power.mode.readiness) :
    s.conclude = .next (s.modBay b fun y => { y with
      power := { y.power with readiness := y.power.mode.readiness }
      attn := { y.attn with
        readiness := { raised := true, payload := BitVec.ofNat 8 y.power.mode.readiness.code } } }) := by
  rw [State.conclude_quiet s hr hs]
  have hf : ∀ b, (s.bay b).power.readiness ≠ (s.bay b).power.mode.readiness → s.refreshReadiness b = s.modBay b fun y => { y with
      power := { y.power with readiness := y.power.mode.readiness }
      attn := { y.attn with readiness := { raised := true, payload := BitVec.ofNat 8 y.power.mode.readiness.code } } } := by
    intro b hb
    cases b <;> simp only [State.refreshReadiness, hb, if_false] <;> rfl
  unfold State.closeEvent
  cases b
  · rw [hf .bayA hb, State.refreshReadiness_same _ .bayB (by exact hother), State.joinPending_same _ (by exact ho),
      State.kick_same _ (by exact hl)]
  · rw [State.refreshReadiness_same s .bayA (by exact hother), hf .bayB hb, State.joinPending_same _ (by exact ho),
      State.kick_same _ (by exact hl)]

/-- A STATUS of a command that has no slot is queued, and the event ends there. -/
theorem State.conclude_answer (s : State) (h : s.calm) (target : BayField) (c : Completion) (d : Detail) (code : Byte) :
    (s.answer target c d code).conclude =
      .next { s with link := { s.link with queue := s.link.queue ++ [.status target c d 0 code] } } :=
  State.conclude_calm _ ⟨h.1, h.2.1, h.2.2⟩

/-! ## Which frames and events are taken -/

/-- Where nothing is left of the frame before, a whole frame clears nothing. -/
theorem State.frameOver_same {s : State} (h : s.link.spent = false) : s.frameOver = s := by
  cases s with
  | mk _ _ _ _ _ _ _ _ _ _ _ link => cases link; simp_all [State.frameOver, State.modLink]

@[simp] theorem State.takesFrame_frameOver (s : State) : s.frameOver.takesFrame = s.takesFrame := rfl

theorem State.frame_taken (s : State) (i : Instr) (f : State → State) (h : s.takesFrame = true) :
    s.frame i f = (f s.frameOver).conclude := by
  simp [State.frame, h]

/-- What is left of the frame before a whole frame makes no difference to it. -/
theorem State.frame_over (s : State) (i : Instr) (f : State → State) (h : s.takesFrame = true) :
    s.frame i f = s.frameOver.frame i f := by
  rw [State.frame_taken s i f h, State.frame_taken s.frameOver i f (by simpa using h)]
  rfl

/-- A frame taken by a part that hears. -/
theorem State.hears.frame {s : State} (h : s.hears) (i : Instr) (f : State → State) : s.frame i f = (f s).conclude := by
  rw [State.frame_taken s i f h.1, State.frameOver_same h.2.2]

/-- Where a frame may begin, none is in progress. -/
theorem State.frameUnderWay_idle {s : State} (h : s.link.inFrame = none) : s.frameUnderWay = false := by
  simp [State.frameUnderWay, h]

/-- A frame under way is in progress, with its bytes still to come, on a running part with LDIR at OUT and none withheld. -/
theorem State.frameUnderWay_spec {s : State} (h : s.frameUnderWay = true) :
    s.running ∧ s.link.lrst = false ∧ s.link.ldir = .hostSends ∧ s.link.withheld = none ∧
      ∃ f, s.link.inFrame = some f ∧ f.due = none := by
  simp only [State.frameUnderWay, State.linkAlive, Bool.and_eq_true, Bool.not_eq_true', beq_iff_eq,
    Option.isNone_iff_eq_none, Option.any_eq_true_iff_get] at h
  obtain ⟨⟨⟨⟨⟨h1, h2⟩, h3⟩, h4⟩, h5⟩, hs, h6⟩ := h
  exact ⟨⟨h1, h2⟩, h3, h4, h5, _, (Option.some_get hs).symm, by simpa using h6⟩

/-- Where no frame may begin and none is under way, none is an event. -/
theorem State.frame_lost (s : State) (i : Instr) (f : State → State) (h : s.frameMayBegin = false)
    (hu : s.frameUnderWay = false) : s.frame i f = .next s := by
  simp [State.frame, State.takesFrame, h, hu]

/-- A row that ends a frame ends the one under way. -/
theorem State.frame_ends (s : State) (i : Instr) (f : State → State) (h : s.frameUnderWay = true) :
    s.frame i f = (s.endInbound false f).conclude := by
  obtain ⟨-, -, -, -, x, hx, -⟩ := State.frameUnderWay_spec h
  simp [State.frame, State.takesFrame, State.frameMayBegin, hx, h]

/-- A frame that may begin and finds no room is withheld. -/
theorem State.frame_withheld (s : State) (i : Instr) (f : State → State) (h : s.frameMayBegin = true)
    (hr : Config.frameStartRoom < s.link.queue.length + s.link.reservations) :
    s.frame i f = .next (s.frameOver.modLink fun l => { l with withheld := some i }) := by
  have : ¬ s.link.queue.length + s.link.reservations ≤ Config.frameStartRoom := by omega
  simp [State.frame, State.takesFrame, h, this, State.frameUnderWay_idle (State.frameMayBegin_spec h).2.2.2.1]

theorem State.bayEvent_taken (s : State) (b : BayId) (f : State → State) (h : s.bayLive b = true) :
    s.bayEvent b f = (f s).conclude := by simp [State.bayEvent, h]

theorem State.bayAct_taken (s : State) (b : BayId) (f : State → State) (h : s.bayLive b = true) (hp : s.powerLoss = false) :
    s.bayAct b f = (f s).conclude := by simp [State.bayAct, h, hp]

theorem State.baySensor_taken (s : State) (b : BayId) (level act : State → State) (h : s.bayLive b = true)
    (hp : s.powerLoss = false) : s.baySensor b level act = (act (level s)).conclude := by simp [State.baySensor, h, hp]

theorem State.visitEvent_taken (s : State) (f : Visit → Job → State) (v : Visit) (j : Job) (hr : s.running)
    (hv : s.chan.visit = some v) (hj : (s.bay v.bay).job = some j) : s.visitEvent f = (f v j).conclude := by
  simp [State.visitEvent, hv, hj, hr.1, hr.2]

theorem State.bayLive_of (s : State) (b : BayId) (hr : s.running) (h : s.bayPresent b = true) : s.bayLive b = true := by
  simp [State.bayLive, hr.1, h]

/-! ## A resting bay is poked -/

theorem Positioner.rests_spec {x : Positioner} (h : x.rests = true) :
    ¬ (x.parked = true ∧ (x.state = .unloading ∨ x.state = .retracting)) := by
  simp only [Positioner.rests, Bool.not_eq_true', Bool.and_eq_false_iff, Bool.or_eq_false_iff, beq_eq_false_iff_ne] at h
  rintro ⟨h1, h2⟩
  rcases h with h | ⟨h3, h4⟩
  · simp [h1] at h
  · rcases h2 with h2 | h2
    · exact h3 h2
    · exact h4 h2

/-- A sector operation that neither asks for slots nor is at its track. -/
abbrev Job.still (j : Job) : Prop := j.stage ≠ .atTrack ∧ j.asksSlots = false ∧ j.slots.length ≠ 4

/-- A poke of a bay whose heads, frames, command, sector operation, channel request and power mode have no step to take is the
step of its cartridge state alone. -/
theorem State.goOn_still (s : State) (b : BayId) (hp : (s.bay b).pos.rests = true) (hf : s.link.inFrame = none)
    (hc : s.stepCommand b = s) (hj : ∀ j, (s.bay b).job = some j → j.still) (hv : s.visiting b = false)
    (hw : s.chan.waiter ≠ some b) (he : s.stepStandby b = s) :
    s.goOn b = s.stepCart b := by
  have h1 : s.stepParked b = s := by
    have := Positioner.rests_spec hp
    simp only [State.stepParked, this, if_false]
  have h2 : s.stepHeld b = s := by simp [State.stepHeld, State.stepByte, hf]
  have h4 : State.fillSlots 4 s b = s := by
    unfold State.fillSlots
    cases hjob : (s.bay b).job with
    | none => rfl
    | some j => simp [(hj j hjob).2.1]
  have h5 : ∀ n, s.buildImage b n = s := by
    intro n
    unfold State.buildImage
    cases hjob : (s.bay b).job with
    | none => rfl
    | some j => simp [(hj j hjob).2.2]
  have h6 : s.withdrawChannel b = s := by simp [State.withdrawChannel, hw]
  have h7 : s.stepChannel b = s := by
    unfold State.stepChannel
    have hready : ∀ j, (s.bay b).job = some j → s.jobReady b j = false := by
      intro j hjob
      simp [State.jobReady, (hj j hjob).1]
    cases hvis : s.chan.visit with
    | none =>
      cases hjob : (s.bay b).job with
      | none => simp [h6]
      | some j => simp [hready j hjob, h6]
    | some v =>
      simp only [State.visiting, hvis, beq_eq_false_iff_ne] at hv
      cases hjob : (s.bay b).job with
      | none => simp [hv, h6]
      | some j => simp [hv, hready j hjob, h6]
  unfold State.goOn
  simp only [h1, h2, hc, h4, h5, h7, he]

/-- A resting bay that is poked stays as it is. -/
theorem State.goOn_rests (s : State) (b : BayId) (h : s.bayRests b = true) : s.goOn b = s := by
  simp only [State.bayRests, Bool.and_eq_true, Bool.not_eq_true', bne_iff_ne, Option.isNone_iff_eq_none, Bay.rests] at h
  obtain ⟨⟨⟨⟨⟨⟨hp, hc⟩, he⟩, hj⟩, hf⟩, hv⟩, hw⟩ := h
  have h3 : s.stepCommand b = s := by
    unfold State.stepCommand
    cases hjob : (s.bay b).job with
    | none =>
      simp only [hjob, Option.isNone_iff_eq_none] at hj
      simp [hj]
    | some j =>
      split
      · rfl
      · simp
  have hj' : ∀ j, (s.bay b).job = some j → j.still := by
    intro j hjob
    simp only [hjob, Bool.and_eq_true, bne_iff_ne, Bool.not_eq_true'] at hj
    exact ⟨hj.1.1, hj.1.2, hj.2⟩
  rw [s.goOn_still b hp hf h3 hj' hv hw (by simp [State.stepStandby, he])]
  have h9 : ∀ c : Cartridge, (s.bay b).cart = c → c.rests = true →
      (c.state = .locking ∨ c.state = .empty → s.stepStartup b = s) := by
    intro c hc' hr hst
    unfold State.stepStartup
    rcases hst with hst | hst
    · simp only [Cartridge.rests, hst, Bool.not_eq_true'] at hr
      simp [hc', hst, hr]
    · simp only [Cartridge.rests, hst, Bool.not_eq_true'] at hr
      simp [hc', hst, hr]
  have h10 := h9 _ rfl hc
  have h11 : (s.bay b).cart.cartridgeIn = true → (s.bay b).cart.eject = none → s.stepFault b = s := by
    intro h1 h2
    simp [State.stepFault, h1, h2]
  revert hc
  unfold Cartridge.rests State.stepCart
  cases hst : (s.bay b).cart.state <;> simp_all

/-- The message that pokes a resting bay changes nothing. -/
theorem State.deliver_poke (s : State) (b : BayId) (h : s.bayRests b = true) : s.deliver (.poke b) = s :=
  s.goOn_rests b h

/-! ## Messages that change nothing further -/

theorem State.conclude_settle (s : State) (hr : s.running) (u : State) (h : settle Config.messageBudget s = u)
    (hu : u.signals = []) : s.conclude = .next u.closeEvent := by
  simp [State.conclude, hr.1, hr.2, h, hu]

/-- An event whose messages settle in a calm state ends in that state. -/
theorem State.conclude_msgs (s u : State) (hr : s.running) (h : settle Config.messageBudget s = u) (hu : u.calm) :
    s.conclude = .next u := by
  rw [State.conclude_settle s hr u h hu.2.1.1, State.closeEvent_same u hu.2.1 hu.2.2]

theorem State.signals_same (u : State) (h : u.signals = []) : ({ u with signals := [] } : State) = u := by
  cases u
  simp_all

/-- The end of an event that took one bay's mode to another class. -/
theorem State.closeEvent_class (u : State) (b : BayId) (hr : u.running) (hs : u.signals = []) (ho : u.link.offered = [])
    (hl : u.linkBusy) (hb : (u.bay b).power.readiness ≠ (u.bay b).power.mode.readiness)
    (hother : (u.bay (otherBay b)).power.readiness = (u.bay (otherBay b)).power.mode.readiness) :
    u.closeEvent = u.modBay b fun y => { y with
      power := { y.power with readiness := y.power.mode.readiness }
      attn := { y.attn with
        readiness := { raised := true, payload := BitVec.ofNat 8 y.power.mode.readiness.code } } } := by
  have h1 := State.conclude_class u b hr hs ho hl hb hother
  rw [State.conclude_quiet u hr hs] at h1
  simpa using h1

/-- An event that ends with one poke of a resting bay. -/
theorem State.conclude_poke (u : State) (b : BayId) (hu : u.calm)
    (hr : ∀ m, ({ u with signals := m } : State).bayRests b = true) : (u.tell (.poke b)).conclude = .next u := by
  refine State.conclude_msgs _ u ⟨hu.1.1, hu.1.2⟩ ?_ hu
  show settle (399 + 1) _ = _
  rw [settle_cons 399 _ (.poke b) [] (by simp [State.tell, hu.2.1.1])]
  have e : ({ u.tell (.poke b) with signals := [] } : State) = { u with signals := [] } := rfl
  rw [e, State.deliver_poke _ _ (hr _), settle_nil _ _ rfl, State.signals_same u hu.2.1.1]

/-- An event that ends with a boundary of a bay whose command and flush are not being stopped. -/
theorem State.conclude_boundary (u : State) (b : BayId) (hu : u.calm)
    (hr : ∀ c, (u.bay b).slot = some c → c.stop = none) (hf : ∀ f, (u.bay b).flush = some f → f.stop = false) :
    (u.tell (.boundary b)).conclude = .next u := by
  refine State.conclude_msgs _ u ⟨hu.1.1, hu.1.2⟩ ?_ hu
  show settle (399 + 1) _ = _
  rw [settle_cons 399 _ (.boundary b) [] (by simp [State.tell, hu.2.1.1])]
  have e : ({ u.tell (.boundary b) with signals := [] } : State) = u := State.signals_same u hu.2.1.1
  rw [e]
  have : u.deliver (.boundary b) = u := by
    have h1 : u.tryStop b = u := by
      unfold State.tryStop
      cases hs : (u.bay b).slot with
      | none => rfl
      | some c => simp [hr c hs]
    show (u.tryStop b).haltFlush b = u
    rw [h1]
    unfold State.haltFlush
    cases hs : (u.bay b).flush with
    | none => rfl
    | some f => simp [hf f hs]
  rw [this, settle_nil _ _ hu.2.1.1]

/-- A change of one bay outside Bay Power Control keeps a calm part calm. -/
theorem State.calm_modBay (s : State) (b : BayId) (f : Bay → Bay) (h : s.calm) (hf : (f (s.bay b)).power = (s.bay b).power) :
    (s.modBay b f).calm := by
  refine State.calm_of h (by cases b <;> rfl) (by cases b <;> rfl) (by cases b <;> rfl) (by cases b <;> rfl)
    (by cases b <;> rfl) (by cases b <;> rfl) (by cases b <;> rfl) ?_
  intro b'
  have h1 := h.2.1.class b
  have h2 := h.2.1.class b'
  cases b <;> cases b' <;> first | exact h2 | (show (f _).power.readiness = (f _).power.mode.readiness; rw [hf]; exact h1)

/-- A bay that rests goes on resting with another Positioner that rests. -/
theorem State.bayRests_pos (s : State) (b : BayId) (q : Positioner) (hr : s.bayRests b = true) (hq : q.rests = true)
    (m : List Signal) : ({ s.modBay b (fun z => { z with pos := q }) with signals := m } : State).bayRests b = true := by
  have : ∀ x : Bay, x.rests = true → { x with pos := q }.rests = true := by
    intro x hx
    simp only [Bay.rests, Bool.and_eq_true] at hx ⊢
    exact ⟨⟨⟨hq, hx.1.1.2⟩, hx.1.2⟩, hx.2⟩
  simp only [State.bayRests, Bool.and_eq_true] at hr ⊢
  obtain ⟨⟨⟨h1, h2⟩, h3⟩, h4⟩ := hr
  have h5 := this _ h1
  cases b <;> exact ⟨⟨⟨h5, h2⟩, h3⟩, h4⟩

theorem State.bayRests_spec {s : State} {b : BayId} (hr : s.bayRests b = true) :
    s.visiting b = false ∧ s.chan.waiter ≠ some b ∧ (s.bay b).rests = true := by
  simp only [State.bayRests, Bool.and_eq_true, Bool.not_eq_true', bne_iff_ne] at hr
  exact ⟨hr.1.2, hr.2, hr.1.1.1⟩

end Sys2Proof.Machine
end

