-- ==== Sys2Proof/Laws/Link.lean ====
section
/-! SUPPORT. The inbound frame in progress (R171, R172, R176, R178); the outbound queue: what joins it and what stays pending (R176);
and the frames of a report. -/

namespace Sys2Proof.Machine

/-! ## The inbound frame in progress -/

/-- With no frame in progress none is late, and none has taken a slot or a row's contents. -/
theorem State.noFrame_spec {s : State} (h : s.link.inFrame = none) :
    (∀ target, s.frameLate target = false) ∧ (∀ b, s.frameSlot b = none) ∧ (∀ early, s.inboundEnds early = s) ∧
      s.dropFrameSlot = s ∧ (∀ b, s.stepHeld b = s) ∧ s.cutHeld = s ∧ s.receive true none = s ∧
      (∀ b, s.dataFrameComing b = false) := by
  refine ⟨fun target => ?_, fun b => ?_, fun early => ?_, ?_, fun b => ?_, ?_, ?_, fun b => ?_⟩
  · cases target <;> simp [State.frameLate, h]
  · simp [State.frameSlot, h]
  · simp [State.inboundEnds, h]
  · simp [State.dropFrameSlot, h]
  · simp [State.stepHeld, State.stepByte, h]
  · simp [State.cutHeld, h]
  · simp [State.receive, State.heard, h]
  · simp [State.dataFrameComing, h]

/-- With no LOAD TABLE being stopped, the end of a frame that waits for no slot leaves only the frame gone. -/
theorem State.inboundEnds_quiet {s : State} {f : InFrame} (early : Bool) (h : s.link.inFrame = some f) (hd : f.due = none)
    (hs : f.slot = none) (hl : ∀ b, (s.bay b).stoppedLoad = false) :
    s.inboundEnds early = s.modLink fun l => { l with inFrame := none, timer := none, spent := early } := by
  simp [State.inboundEnds, State.stoppedLoadEnds, State.dropFrameSlot, h, hd, hs, hl]

/-- A byte that waits on the lines still waits while its WRITE may not take it. -/
theorem State.strobed_waits {s : State} {f : InFrame} {x : LinkByte} {b : BayId} {c : Cmd}
    (h : s.firstPayload f = some (b, c)) (hw : s.holdsFrame b c = true) :
    s.strobed f x = s.modLink fun l => { l with inFrame := some { f with held := some x }, timer := none } := by
  simp [State.strobed, h, hw]

/-- With LFRM low nothing of a frame in progress is exchanged. -/
theorem State.receive_low {s : State} (h : s.link.inFrame.isSome = true) (strobe : Option LinkByte) :
    s.receive false strobe = s := by
  obtain ⟨f, hf⟩ := Option.isSome_iff_exists.1 h
  simp [State.receive, hf]

/-- LFRM makes a row due exactly when it drops under a frame in progress, and that row is the frame's. -/
theorem State.arrivalRow_spec (s : State) (lfrm : Bool) :
    (lfrm = true ∨ s.frameUnderWay = false → s.arrivalRow lfrm = []) ∧
      (∀ f, s.frameUnderWay = true → s.link.inFrame = some f → s.arrivalRow false = [frameRow f.bytes]) := by
  refine ⟨?_, fun f h1 h2 => by simp [State.arrivalRow, h1, h2]⟩
  rintro (rfl | h)
  · simp [State.arrivalRow]
  · simp [State.arrivalRow, h]

/-- What a microsecond of the exchange with a sending host adapter can change: the buffer slots, the frame in progress, the link timer,
the reservations and whether LFRM belongs to a frame that has ended; only the last while the part cannot take a frame and none is
under way. -/
theorem State.receive_spec (s : State) (lfrm : Bool) (strobe : Option LinkByte) :
    (∃ slots inFrame spent reservations timer, s.receive lfrm strobe = { s with
      slots := slots
      link := { s.link with inFrame := inFrame, spent := spent, reservations := reservations, timer := timer } }) ∧
    (s.takesFrame = false → s.frameUnderWay = false → ∃ spent, s.receive lfrm strobe = s.modLink fun l => { l with spent }) := by
  refine ⟨?_, ?_⟩
  · unfold State.receive
    split
    · unfold State.heard
      split
      · exact ⟨_, _, _, _, _, rfl⟩
      · split
        · split <;> exact ⟨_, _, _, _, _, rfl⟩
        · exact ⟨_, _, _, _, _, rfl⟩
    · simp only []
      split
      · split
        · exact ⟨_, _, _, _, _, rfl⟩
        · exact ⟨_, _, _, _, _, rfl⟩
        · exact ⟨_, _, _, _, _, rfl⟩
        · unfold State.strobed
          split
          · exact ⟨_, _, _, _, _, rfl⟩
          · split <;> exact ⟨_, _, _, _, _, rfl⟩
      · exact ⟨_, _, _, _, _, rfl⟩
  · intro h1 h2
    unfold State.receive
    split
    · unfold State.heard
      split
      · exact ⟨_, rfl⟩
      · split
        · simp only [h1, Bool.false_and, Bool.false_eq_true, if_false]
          exact ⟨_, rfl⟩
        · exact ⟨_, rfl⟩
    · simp only [h2, Bool.false_and, Bool.false_eq_true, if_false]
      exact ⟨_, rfl⟩

/-- A microsecond of the exchange keeps the reservations owed: two more exactly when a frame begins (R176). -/
theorem State.receive_owed (s : State) (lfrm : Bool) (strobe : Option LinkByte) (h : s.link.reservations = s.owed) :
    (s.receive lfrm strobe).link.reservations = (s.receive lfrm strobe).owed := by
  unfold State.receive
  split
  · rename_i hn
    unfold State.heard
    split
    · exact h
    · split
      · split
        · simp [State.beginInbound, State.modLink, State.owed, h, hn]
        · exact h
      · exact h
  · rename_i f hf
    simp only []
    split
    · split
      · exact h
      · simp only [State.owed, hf] at h
        simp [State.modLink, State.owed, h]
      · simp only [State.owed, hf] at h
        simp [State.modLink, State.owed, h, hf]
      · simp only [State.owed, hf] at h
        unfold State.strobed
        split
        · simp [State.takeByte, State.modLink, State.owed, h]
        · split
          · simp [State.modLink, State.owed, h]
          · rename_i x _ _ b c _ _
            simp only [State.takeByte, State.modLink, State.owed, State.allocate, State.modSlot, Option.isSome_some, if_true]
            simpa using h
    · exact h

/-! ## The outbound queue -/

/-- Descriptors join the queue in order; what stays pending stays because the queue is full. -/
theorem joinOffered_spec (o q : List Desc) (r : Nat) :
    (joinOffered o q r).1 ++ (joinOffered o q r).2 = q ++ o ∧
      ((joinOffered o q r).2 = [] ∨ Config.dataInRoom < (joinOffered o q r).1.length + r) := by
  induction o generalizing q with
  | nil => simp [joinOffered]
  | cons d rest ih =>
    unfold joinOffered
    split
    · have := ih (q ++ [d])
      simpa using this
    · simp
      omega

theorem joinOffered_same (o q : List Desc) (r : Nat) (h : o = [] ∨ Config.dataInRoom < q.length + r) :
    joinOffered o q r = (q, o) := by
  cases o with
  | nil => rfl
  | cons d rest =>
    rcases h with h | h
    · cases h
    · unfold joinOffered
      rw [if_neg (by omega)]

/-- Exactly as many pending descriptors join the queue, in order, as it has room for. -/
theorem joinOffered_eq (o q : List Desc) (r : Nat) :
    joinOffered o q r =
      (q ++ o.take (Config.dataInRoom + 1 - (q.length + r)), o.drop (Config.dataInRoom + 1 - (q.length + r))) := by
  induction o generalizing q with
  | nil => simp [joinOffered]
  | cons d rest ih =>
    unfold joinOffered
    split
    · rename_i h
      rw [ih, show Config.dataInRoom + 1 - (q.length + r) = (Config.dataInRoom + 1 - ((q ++ [d]).length + r)) + 1 by
        simp only [List.length_append, List.length_cons, List.length_nil]; omega]
      simp
    · rw [show Config.dataInRoom + 1 - (q.length + r) = 0 by omega]
      simp

/-- Descriptors offered one after another, none pending before: as many join the queue as it has room for, the rest stay
pending. -/
theorem State.offer_all (l : List Desc) : ∀ (s : State), l ≠ [] →
    l.foldl (fun (s : State) d => s.offer d) s = { s with link := { s.link with
      queue := s.link.queue
        ++ (s.link.offered ++ l).take (Config.dataInRoom + 1 - (s.link.queue.length + s.link.reservations))
      offered := (s.link.offered ++ l).drop (Config.dataInRoom + 1 - (s.link.queue.length + s.link.reservations)) } } := by
  induction l with
  | nil => intro s h; cases h rfl
  | cons d rest ih =>
    intro s _
    have hof : s.offer d = { s with link := { s.link with
        queue := (joinOffered (s.link.offered ++ [d]) s.link.queue s.link.reservations).1
        offered := (joinOffered (s.link.offered ++ [d]) s.link.queue s.link.reservations).2 } } := rfl
    rw [joinOffered_eq] at hof
    simp only [List.foldl_cons]
    cases rest with
    | nil => exact hof
    | cons e r2 =>
      rw [ih _ (by simp), hof]
      simp only []
      rw [show s.link.offered ++ d :: e :: r2 = (s.link.offered ++ [d]) ++ (e :: r2) by simp]
      generalize s.link.offered ++ [d] = o
      generalize hn : Config.dataInRoom + 1 - (s.link.queue.length + s.link.reservations) = n
      by_cases h : o.length ≤ n
      · rw [List.take_of_length_le h, List.drop_of_length_le h,
          show Config.dataInRoom + 1 - ((s.link.queue ++ o).length + s.link.reservations) = n - o.length by
            simp only [List.length_append]; omega,
          show (o ++ e :: r2).take n = o ++ (e :: r2).take (n - o.length) by
            rw [List.take_append, List.take_of_length_le h],
          show (o ++ e :: r2).drop n = (e :: r2).drop (n - o.length) by
            rw [List.drop_append, List.drop_of_length_le h, List.nil_append]]
        simp
      · rw [show Config.dataInRoom + 1 - ((s.link.queue ++ o.take n).length + s.link.reservations) = 0 by
            simp only [List.length_append, List.length_take]; omega,
          show (o ++ e :: r2).take n = o.take n by rw [List.take_append_of_le_length (by omega)],
          show (o ++ e :: r2).drop n = o.drop n ++ e :: r2 by rw [List.drop_append_of_le_length (by omega)]]
        simp

/-- The frames of a report are offered one after another. -/
theorem State.offerReports_fold (s : State) (target : BayField) (c : Cmd) : s.offerReports target c =
    ((s.reportSources target c).map (fun x => Desc.report target x true)).foldl (fun (s : State) d => s.offer d)
      (s.modTarget target fun c' => { c' with framesLeft := (s.reportSources target c).length }) := by
  unfold State.offerReports
  rw [List.foldl_map]

/-- An event that leaves only descriptors that find no room ends as it is. -/
theorem State.conclude_offered (s u : State) (h : s.calm) (h1 : u.resetHeld = s.resetHeld) (h2 : u.powerLoss = s.powerLoss)
    (h3 : u.signals = s.signals) (h5 : u.link.ldir = s.link.ldir) (h6 : u.link.outFrame = s.link.outFrame)
    (h7 : u.link.lrst = s.link.lrst) (h8 : ∀ b, (u.bay b).power.readiness = (u.bay b).power.mode.readiness)
    (h9 : u.link.offered = [] ∨ Config.dataInRoom < u.link.queue.length + u.link.reservations) : u.conclude = .next u := by
  rw [State.conclude_quiet u ⟨h1.trans h.1.1, h2.trans h.1.2⟩ (h3.trans h.2.1.1)]
  unfold State.closeEvent
  rw [State.refreshReadiness_same u .bayA (h8 .bayA), State.refreshReadiness_same u .bayB (h8 .bayB)]
  have : u.joinPending = u := by
    unfold State.joinPending
    rw [joinOffered_same _ _ _ h9]
    rfl
  rw [this, State.kick_same]
  have := h.2.2
  unfold State.linkBusy at this ⊢
  rw [h5, h6, h7]
  exact this

end Sys2Proof.Machine
end

