-- ==== Sys2Proof/Laws/Clock.lean ====
section
/-! SUPPORT. What a microsecond can do (`State.tickWith`), and what the servo bus does in it (R191). -/

namespace Sys2Proof.Machine

/-! ## A microsecond -/

@[simp] theorem State.tickWith_servo (s : State) (x : Inputs) : (s.tickWith x).servo = s.servoBus x.servo := rfl
@[simp] theorem State.tickWith_hostTurns (s : State) (x : Inputs) : (s.tickWith x).hostTurns = s.hostTurns + 1 := rfl
@[simp] theorem State.tickWith_pending (s : State) (x : Inputs) :
    (s.tickWith x).pending = s.pending ++ s.arrivalRow x.lfrm ++ s.sentRow x.phase ++ s.servoRow x.servo := rfl

/-- Everything that a microsecond can change: the counters and timers of the bays, the buffer slots and the link of `State.receive`,
the servo bus, the number of the microsecond, and the rows that it makes due. -/
theorem State.tickWith_spec (s : State) (x : Inputs) :
    ∃ bayA bayB slots link, s.tickWith x = { s with
      bayA := bayA
      bayB := bayB
      slots := slots
      link := link
      servo := s.servoBus x.servo
      hostTurns := s.hostTurns + 1
      pending := s.pending ++ s.arrivalRow x.lfrm ++ s.sentRow x.phase ++ s.servoRow x.servo } := by
  unfold State.tickWith State.count
  split
  · exact ⟨_, _, _, _, rfl⟩
  · obtain ⟨⟨slots, inFrame, spent, reservations, timer, h⟩, -⟩ := s.receive_spec x.lfrm x.strobe
    exact ⟨_, _, _, _, by rw [h]⟩

/-! ## The end of an outbound frame -/

/-- A microsecond makes the row of a sent frame due exactly when it leaves a frame in progress with every byte exchanged, which a
frame with a byte to go becomes in the phase that ends its last byte; the link timer is stopped then. -/
theorem State.sentRow_spec (s : State) (phase : Bool) :
    (s.sentRow phase = [] ∨ s.sentRow phase = [.outboundFrameSent]) ∧
      (s.sentRow phase ≠ [] ↔ s.linkAlive = true ∧ ∃ f, (s.link.tick phase).outFrame = some f ∧ f.over = true) ∧
      (∀ f, s.linkAlive = true → s.link.outFrame = some f → f.over = false →
        (s.sentRow phase ≠ [] ↔ phase = true ∧ f.advance.over = true) ∧
          (s.sentRow phase ≠ [] → (s.link.tick phase).timer = none)) := by
  refine ⟨?_, ?_, fun f hl hf ho => ?_⟩
  · unfold State.sentRow
    split <;> simp
  · simp [State.sentRow, Option.any_eq_true]
  · cases phase <;> simp [State.sentRow, Link.tick, hl, hf, ho]

/-! ## The servo bus -/

/-- A hand-over to a bay leaves a bus alone that neither reads its sample nor has it waiting. -/
theorem ServoBus.handedOver_same {x : ServoBus} {b : BayId} (h1 : ∀ r, x.reading = some r → r.bay ≠ b) (h2 : x.waiter ≠ some b) :
    x.handedOver b = x := by
  cases x with
  | mk reading waiter =>
    cases reading <;> cases waiter <;> simp_all [ServoBus.handedOver, Option.filter]

/-- A row of the servo bus brings a present bay's sample, or that of the read under way, and the bus is free with it. -/
theorem State.servoRow_spec (s : State) (x : ServoInputs) (i : Instr) (h : i ∈ s.servoRow x) :
    ∃ r, s.servoReading x = some r ∧ r.complete = true ∧ i = .servoSample r.bay (servoWord r.bytes) ∧
      (s.servoBus x).reading = none := by
  unfold State.servoRow at h
  split at h
  · rename_i r hr
    by_cases hc : r.complete = true
    · simp only [hc, if_true, List.mem_singleton] at h
      exact ⟨r, hr, hc, h, by simp [State.servoBus, hr, hc]⟩
    · simp [hc] at h
  · simp at h

/-- A read takes at most two microseconds: a read under way is complete in the next one. -/
theorem State.servoReading_ends (s : State) (x : ServoInputs) (r : ServoRead) (h : s.servo.reading = some r) :
    ∃ r', s.servoReading x = some r' ∧ r'.complete = true ∧ r'.bay = r.bay := by
  refine ⟨r.strobed Config.servoBytes x.data, by simp [State.servoReading, h], ?_, rfl⟩
  simp only [ServoRead.complete, ServoRead.strobed, decide_eq_true_eq, List.length_append, List.length_map, List.length_take,
    List.length_drop, List.length_range, Config.servoBytes]
  omega

end Sys2Proof.Machine
end

