-- ==== Sys2Proof/Laws/Heads.lean ====
section
/-! SUPPORT. What an order to the Positioner does when nothing else is under way: a seek from FOLLOWING, the entries to UNLOADING
and RETRACTING (R75, R76, R83, R84). -/

namespace Sys2Proof.Machine

theorem Positioner.distance_eq (p : Positioner) (t : Track) :
    (if p.current ≤ t.cyl then t.cyl - p.current else p.current - t.cyl) = p.distance t := by
  unfold Positioner.distance
  split <;> omega

/-- Heads outside a visit and without a channel request leave no track. -/
theorem State.leaveTrack_idle (s : State) (b : BayId) (h1 : s.visiting b = false) (h2 : s.chan.waiter ≠ some b) :
    s.leaveTrack b = s := by
  simp [State.leaveTrack, h1, State.withdrawChannel, h2]

/-- A seek starts with the first profile row that covers its distance. -/
theorem State.startSeek_eq (u : State) (b : BayId) (t : Track) (row : SeekRow) (h : u.leaveTrack b = u)
    (hr : u.profile.find? (fun r => decide ((u.bay b).pos.distance t ≤ r.bound)) = some row) :
    u.startSeek b t = u.modPos b fun p => { p with
      state := .seeking, target := some t, head := t.head, row := some row, seekTimer := some (row.timeout * 1000)
      settleCount := 0, onTrack := false, driveDir := towards p.current t.cyl, driveMag := row.velocity } := by
  have h2 : rowFor u.profile (if (u.bay b).pos.current ≤ t.cyl then t.cyl - (u.bay b).pos.current
      else (u.bay b).pos.current - t.cyl) = some row := by
    rw [Positioner.distance_eq]
    exact hr
  unfold State.startSeek
  rw [h]
  simp only [h2]
  rfl

/-- A sector operation on another cylinder than the one followed: the heads begin to seek. -/
theorem State.approach_seek (s : State) (b : BayId) (j : Job) (at_ : Track) (row : SeekRow)
    (h1 : (s.bay b).pos.state = .following) (h2 : (s.bay b).pos.target = some at_) (h3 : at_.cyl ≠ j.sector.addr.cyl)
    (h4 : s.visiting b = false) (h5 : s.chan.waiter ≠ some b)
    (h6 : s.profile.find? (fun r => decide ((s.bay b).pos.distance j.sector.track ≤ r.bound)) = some row) :
    s.approach b j = s.modBay b fun y => { y with
      job := some { j with stage := .seeking }, pos := y.pos.seekStarted j.sector.track row } := by
  have hne : at_ ≠ j.sector.track := by
    intro h
    apply h3
    rw [h]
    rfl
  have hon : (s.bay b).pos.on j.sector.track = false := by simp [Positioner.on, h1, h2, hne]
  have hlt : ∀ u : State, u.chan = s.chan → u.leaveTrack b = u := by
    intro u hu
    refine u.leaveTrack_idle b ?_ (by rw [hu]; exact h5)
    rw [← h4]
    simp [State.visiting, hu]
  unfold State.approach
  rw [hon]
  simp only [Bool.false_eq_true, if_false, State.seekOrder, State.setJob_pos, h1, State.seekFromFollowing, h2,
    Option.some.injEq, hne, if_false, Option.map_some, show ¬ at_.cyl = j.sector.track.cyl from h3, if_true]
  rw [State.startSeek_eq _ b _ row (hlt _ (by cases b <;> rfl)) (by cases b <;> exact h6)]
  cases b <;> rfl

/-- An unload order to heads that FOLLOW with no order open. -/
theorem State.unloadOrder_following (u : State) (b : BayId) (h1 : (u.bay b).pos.state = .following)
    (h2 : u.visiting b = false) (h3 : u.chan.waiter ≠ some b) (h4 : (u.bay b).job = none)
    (h5 : (u.bay b).pos.loadOpen = false) (h6 : (u.bay b).pos.seekFor = .nobody) (h7 : (u.bay b).pos.heldSeek = none) :
    u.unloadOrder b = (u.modBay b fun y => { y with pos := y.pos.unloadStarted }).tell (.poke b) := by
  have h8 := u.leaveTrack_idle b h2 h3
  cases b <;> simp only [State.bay] at h1 h4 h5 h6 h7 <;>
    simp [State.unloadOrder, State.bay, h1, State.enterUnloading, h8, State.jobLosesHeads, State.modBay,
      State.setBay, h4, State.answerUnloaded, h5, h6, h7, State.modPos, Positioner.unloadStarted, Config.unloadTime, State.tell]

/-- The Positioner's own entry to UNLOADING, which leaves the orders open. -/
theorem State.enterUnloading_own (s : State) (b : BayId) (f : Positioner → Positioner) (h1 : s.visiting b = false)
    (h2 : s.chan.waiter ≠ some b) :
    (s.enterUnloading b true).modPos b f = (s.modBay b fun z => { z with pos := f { z.pos with
      state := .unloading, target := none, calibrated := false, onTrack := false, loadTimer := none, seekTimer := none
      recalTimer := none, unloadTimer := some 300000, driveDir := .outward, driveMag := 4 } }).tell (.poke b) := by
  simp only [State.enterUnloading, s.leaveTrack_idle b h1 h2, if_true]
  cases b <;> rfl

/-- The entry to RETRACTING with no order open. -/
theorem State.enterRetracting_idle (s : State) (b : BayId) (h1 : s.visiting b = false) (h2 : s.chan.waiter ≠ some b)
    (hj : (s.bay b).job = none) (hl : (s.bay b).pos.loadOpen = false) (hs : (s.bay b).pos.seekFor = .nobody)
    (hh : (s.bay b).pos.heldSeek = none) :
    s.enterRetracting b = (s.modBay b fun z => { z with pos := { z.pos with
        state := .retracting, target := none, calibrated := false, onTrack := false
        loadTimer := none, seekTimer := none, recalTimer := none, unloadTimer := none
        retractTimer := some (z.pos.retractTimer.getD 500000), driveMag := 0, heldSeekOwned := false, reloadTarget := none
        givingUp := false, again := .nothing } }).tell (.poke b) := by
  simp only [State.enterRetracting, s.leaveTrack_idle b h1 h2]
  cases b <;> simp only [State.bay] at hj hl hs hh <;>
    simp [State.jobLosesHeads, State.modBay, State.setBay, State.bay, hj, State.answerUnloaded, hl, hs, hh,
      State.modPos, State.tell, Config.retractTime]

end Sys2Proof.Machine
end

