-- ==== Sys2Proof/Laws/Ops.lean ====
section
/-! SUPPORT. What each shared operation can do, said once: buffer slots, the decoder of a data field, attentions, sense records,
refusals, the two arbiters, the entry to a command slot, and the start-up release. -/

namespace Sys2Proof.Machine

/-! ## Buffer slots (R114, R115) -/

theorem State.slotRec_modSlot (s : State) (k : Nat) (f : SlotRec → SlotRec) (h : k < s.slots.length) :
    (s.modSlot k f).slotRec k = f (s.slotRec k) := by
  simp [State.modSlot, State.slotRec, h]

theorem State.slotRec_modSlot_ne (s : State) (k j : Nat) (f : SlotRec → SlotRec) (h : j ≠ k) :
    (s.modSlot k f).slotRec j = s.slotRec j := by
  simp [State.modSlot, State.slotRec, List.getD, Ne.symm h]

@[simp] theorem State.modSlot_count (s : State) (k : Nat) (f : SlotRec → SlotRec) :
    (s.modSlot k f).slots.length = s.slots.length := by simp [State.modSlot]

@[simp] theorem State.freeWhere_count (s : State) (b : BayId) (p : SlotRec → Bool) :
    (s.freeWhere b p).slots.length = s.slots.length := by simp [State.freeWhere]

/-- What an allocation takes: a FREE slot, and no lower one is FREE. -/
theorem State.lowestFree_spec (s : State) (b : BayId) (h : s.mayAllocate b = true) :
    s.lowestFree < s.slots.length ∧ (s.slotRec s.lowestFree).state = .free ∧
      ∀ k, k < s.lowestFree → (s.slotRec k).state ≠ .free := by
  simp only [State.mayAllocate, Bool.and_eq_true, List.any_eq_true] at h
  obtain ⟨_, r, hr, hs⟩ := h
  have hlt : s.lowestFree < s.slots.length := List.findIdx_lt_length_of_exists ⟨r, hr, hs⟩
  have hget := List.findIdx_getElem (w := hlt)
  refine ⟨hlt, ?_, ?_⟩
  · simp only [State.slotRec, List.getD, List.getElem?_eq_getElem hlt, Option.getD_some]
    exact beq_iff_eq.1 hget
  · intro k hk
    have hk' : k < s.slots.length := by omega
    have := List.not_of_lt_findIdx hk
    simp only [State.slotRec, List.getD, List.getElem?_eq_getElem hk', Option.getD_some]
    simpa using this

/-- The slot that an allocation took; the others stay as they are. -/
theorem State.allocate_spec (s : State) (b : BayId) (purpose : Purpose) (lba : Option Nat) (h : s.mayAllocate b = true) :
    (s.allocate b purpose lba).slotRec s.lowestFree = SlotRec.taken b purpose lba ∧
      ∀ k, k ≠ s.lowestFree → (s.allocate b purpose lba).slotRec k = s.slotRec k :=
  ⟨s.slotRec_modSlot _ _ (s.lowestFree_spec b h).1, fun k hk => s.slotRec_modSlot_ne _ k _ hk⟩

/-- Freeing slots by a test frees those of the bay that it picks, and no other. -/
theorem State.freeWhere_spec (s : State) (b : BayId) (p : SlotRec → Bool) (k : Nat) (h : k < s.slots.length) :
    (s.freeWhere b p).slotRec k =
      if ((s.slotRec k).owner == some b && p (s.slotRec k)) = true then SlotRec.free else s.slotRec k := by
  simp [State.freeWhere, State.slotRec, h]

/-! ## The decoder of a data field (R7) -/

/-- The patterns of a burst are 1 to 11 bits long. -/
theorem Burst.span_at (place k : Nat) (h : k < Config.burstPatterns) :
    1 ≤ (Burst.at place k).span ∧ (Burst.at place k).span ≤ 11 := by
  have : Nat.log2 (2 * k + 1) < 11 := (Nat.log2_lt (by omega)).2 (by unfold Config.burstPatterns at h; omega)
  exact ⟨Nat.le_add_left _ _, this⟩

/-- What the search for a burst finds: one of up to 11 bits that the errors of the field form. -/
theorem DataField.burst_spec {f : DataField} {x : Burst} (h : f.burst = some x) :
    f.explainedBy x = true ∧ 1 ≤ x.span ∧ x.span ≤ 11 := by
  obtain ⟨place, -, hp⟩ := List.exists_of_findSome?_eq_some h
  obtain ⟨k, hk, rfl⟩ := List.mem_map.1 (List.mem_of_find?_eq_some hp)
  exact ⟨List.find?_some hp, Burst.span_at place k (List.mem_range.1 hk)⟩

/-- The search misses no burst. -/
theorem DataField.burst_none {f : DataField} (h : f.burst = none) (place k : Nat) (hp : place < Config.fieldBits)
    (hk : k < Config.burstPatterns) : f.explainedBy (Burst.at place k) = false := by
  have := List.findSome?_eq_none_iff.1 h place (List.mem_range.2 hp)
  simpa using List.find?_eq_none.1 this _ (List.mem_map.2 ⟨k, List.mem_range.2 hk, rfl⟩)

/-- What the decoder does with a field, whatever its class. -/
theorem decodeField_spec (f : DataField) :
    (f.agrees = true ∧ decodeField f = (.clean, f.data)) ∨
      (f.agrees = false ∧ ∃ x, f.burst = some x ∧ decodeField f = (.correctable x.span, (f.corrected x).data)) ∨
      (f.agrees = false ∧ f.burst = none ∧ decodeField f = (.uncorrectable, f.data)) := by
  rcases ha : f.agrees with _ | _
  · rcases hb : f.burst with _ | x
    · exact .inr (.inr ⟨rfl, rfl, by simp [decodeField, ha, hb]⟩)
    · exact .inr (.inl ⟨rfl, x, rfl, by simp [decodeField, ha, hb]⟩)
  · exact .inl ⟨rfl, by simp [decodeField, ha]⟩

/-- A field as the Data Channel writes it reads CLEAN, with its bytes. -/
@[simp] theorem decodeField_dataField (data : List Byte) : decodeField (dataField data) = (.clean, data) := by
  simp [decodeField, DataField.agrees, dataField]

/-! ## Attentions and sense records (R188, R190) -/

theorem Attentions.get_set (x : Attentions) (k : AttnKind) (a : Attn) : (x.set k a).get k = a := by cases k <;> rfl

theorem Attentions.get_set_ne (x : Attentions) {k j : AttnKind} (a : Attn) (h : j ≠ k) : (x.set k a).get j = x.get j := by
  cases k <;> cases j <;> first | rfl | exact absurd rfl h

/-- A raised attention is pending with its payload; no other attention of either bay changes. -/
theorem State.raise_spec (s : State) (b : BayId) (k : AttnKind) (payload : Byte) :
    ((s.raise b k payload).bay b).attn.get k = { raised := true, payload := payload } ∧
      (∀ j, j ≠ k → ((s.raise b k payload).bay b).attn.get j = (s.bay b).attn.get j) ∧
      (s.raise b k payload).bay (otherBay b) = s.bay (otherBay b) := by
  refine ⟨?_, ?_, ?_⟩
  · cases b <;> exact Attentions.get_set _ _ _
  · intro j hj
    cases b <;> exact Attentions.get_set_ne _ _ hj
  · cases b <;> rfl

/-- A sense record as it is written keeps the recovered count. -/
theorem State.writeSense_spec (s : State) (b : BayId) (code : Byte) (n : Nat) (r : CmdResult) :
    s.writeSense b code n r = s.modBay b fun x => { x with sense := { x.sense with
      completion := some r.completion, detail := r.detail, command := code, lba := r.lba, addr := r.addr, count := n } } := by
  cases b <;> rfl

/-- A refusal queues its STATUS, and writes the sense record unless its code is BUSY or ILLEGAL_REQUEST. -/
theorem State.refuse_spec (s : State) (b : BayId) (code : Byte) (r : CmdResult) :
    (s.refuse b code r).link = { s.link with queue := s.link.queue ++ [.status (.bay b) r.completion r.detail 0 code] } ∧
      (s.refuse b code r).bay b =
        (if r.completion = .busy ∨ r.completion = .illegalRequest then s.bay b else (s.writeSense b code 0 r).bay b) ∧
      (s.refuse b code r).bay (otherBay b) = s.bay (otherBay b) ∧ (s.refuse b code r).slots = s.slots ∧
      (s.refuse b code r).chan = s.chan := by
  unfold State.refuse
  split <;> cases b <;> exact ⟨rfl, rfl, rfl, rfl, rfl⟩

/-- A command that takes a slot reserves one entry of the queue. -/
theorem State.takeSlot_spec (s : State) (b : BayId) (c : Cmd) :
    ((s.takeSlot b c).bay b).slot = some c ∧ (s.takeSlot b c).link.reservations = s.link.reservations + 1 ∧
      (s.takeSlot b c).link.queue = s.link.queue ∧ (s.takeSlot b c).bay (otherBay b) = s.bay (otherBay b) := by
  cases b <;> exact ⟨rfl, rfl, rfl, rfl⟩

/-! ## Staged images -/

@[simp] theorem sentZoneBody_length (body : List Byte) : (sentZoneBody body).length = body.length := by simp [sentZoneBody]
@[simp] theorem sentListBody_length (body : List Byte) : (sentListBody body).length = body.length := by simp [sentListBody]

/-! ## The spin-up allowance (R49) -/

/-- A request with the allowance free is granted: the bay is the holder, in ACCELERATING at full drive. -/
theorem State.requestAllowance_free (s : State) (b : BayId) (h : s.allowHolder = none) :
    (s.requestAllowance b).allowHolder = some b ∧ (s.requestAllowance b).allowWaiter = s.allowWaiter ∧
      ((s.requestAllowance b).bay b).spindle.state = .accelerating ∧ ((s.requestAllowance b).bay b).spindle.drive = 255 := by
  unfold State.requestAllowance
  rw [h]
  cases b <;> exact ⟨rfl, rfl, rfl, rfl⟩

/-- A request with the allowance held waits. -/
theorem State.requestAllowance_held (s : State) (b : BayId) (h : s.allowHolder.isSome = true) :
    (s.requestAllowance b).allowHolder = s.allowHolder ∧ (s.requestAllowance b).allowWaiter = some b ∧
      ((s.requestAllowance b).bay b).spindle.state = .waitAllowance ∧ ((s.requestAllowance b).bay b).spindle.drive = 0 := by
  obtain ⟨x, hx⟩ := Option.isSome_iff_exists.1 h
  simp only [State.requestAllowance, hx]
  cases b <;> exact ⟨rfl, rfl, rfl, rfl⟩

/-- A release by the holder leaves the allowance free, or grants it to the waiter. -/
theorem State.releaseAllowance_spec (s : State) (b : BayId) (h : s.allowHolder = some b) :
    (s.releaseAllowance b).allowHolder = s.allowWaiter ∧ (s.releaseAllowance b).allowWaiter = none ∧
      ∀ w, s.allowWaiter = some w → ((s.releaseAllowance b).bay w).spindle.state = .accelerating := by
  unfold State.releaseAllowance
  rw [if_pos h]
  cases hw : s.allowWaiter with
  | none => simp
  | some x =>
    simp only
    refine ⟨by cases x <;> rfl, by cases x <;> rfl, ?_⟩
    intro w hw'
    cases hw'
    cases x <;> rfl

/-- A release by another bay does nothing. -/
theorem State.releaseAllowance_other (s : State) (b : BayId) (h : s.allowHolder ≠ some b) : s.releaseAllowance b = s := by
  unfold State.releaseAllowance
  rw [if_neg h]

/-! ## The Data Channel's arbiter (R119) -/

/-- A grant of the channel to a bay with a sector in hand begins its visit with the gate closed. -/
theorem State.grantChannel_spec (s : State) (b : BayId) (j : Job) (h : (s.bay b).job = some j) :
    (s.grantChannel b).chan.holder = some b ∧ (s.grantChannel b).chan.waiter = s.chan.waiter ∧
      (s.grantChannel b).chan.gate = false ∧ (s.grantChannel b).chan.baySelect = b ∧
      (s.grantChannel b).chan.headSelect = j.sector.addr.head ∧
      ∃ v, (s.grantChannel b).chan.visit = some v ∧ v.bay = b ∧ v.track = j.sector.track ∧ v.rate = j.sector.rate ∧
        v.fields = 0 := by
  simp only [State.grantChannel, h]
  exact ⟨rfl, rfl, rfl, rfl, rfl, _, rfl, rfl, rfl, rfl, rfl⟩

/-- A release by the holder with no bay waiting ends the visit and frees the channel. -/
theorem State.releaseChannel_free (s : State) (b : BayId) (h : s.chan.holder = some b) (hw : s.chan.waiter = none) :
    s.releaseChannel b =
      ({ s with chan := { s.chan with holder := none, visit := none, gate := false } } : State).tell (.poke b) := by
  simp [State.releaseChannel, h, hw, State.modChan]

/-- A release by another bay does nothing. -/
theorem State.releaseChannel_other (s : State) (b : BayId) (h : s.chan.holder ≠ some b) : s.releaseChannel b = s := by
  simp [State.releaseChannel, h]

/-- An operation of the arbiter keeps the channel's invariant. -/
theorem State.grantChannel_kept (s : State) (b : BayId) : (s.grantChannel b).channelKept := by
  unfold State.grantChannel
  cases h : (s.bay b).job with
  | none => exact ⟨rfl, fun hg => nomatch hg⟩
  | some j => exact ⟨rfl, fun hg => nomatch hg⟩

theorem State.releaseChannel_kept (s : State) (b : BayId) (h : s.channelKept) : (s.releaseChannel b).channelKept := by
  unfold State.releaseChannel
  split
  · split
    · exact State.grantChannel_kept _ _
    · exact ⟨rfl, fun hg => nomatch hg⟩
  · exact h

theorem State.requestChannel_kept (s : State) (b : BayId) (h : s.channelKept) : (s.requestChannel b).channelKept := by
  unfold State.requestChannel
  split
  · exact State.grantChannel_kept _ _
  · split
    · exact h
    · exact h

theorem State.withdrawChannel_kept (s : State) (b : BayId) (h : s.channelKept) : (s.withdrawChannel b).channelKept := by
  unfold State.withdrawChannel
  split <;> exact h

/-! ## Messages -/

theorem State.tell_kept (s : State) (m : Signal) (h : s.channelKept) : (s.tell m).channelKept := h

/-! ## The start-up release (R112) -/

/-- A bay that owes a start-up release is poked as it becomes EMPTY; any other stays as it is. -/
theorem State.offerStartup_spec (s : State) (b : BayId) :
    ((s.bay b).cart.startupRelease = false → s.offerStartup b = s) ∧
      ((s.bay b).cart.startupRelease = true → s.offerStartup b = s.tell (.poke b)) :=
  ⟨fun h => by simp [State.offerStartup, h], fun h => by simp [State.offerStartup, h]⟩

end Sys2Proof.Machine
end

