-- ==== Sys2Proof/Tests/Slice0.lean ====
section
/-! SUPPORT. Tests: ill-formed terms are refused, the worked figures of the reference come out, and each statement with
hypotheses has a state and operands that meet them. -/

namespace Sys2Proof.Tests

open Sys2Proof Sys2Proof.Machine

/-! ## Ill-formed terms -/

/-- A byte with its parity line (R171). -/
def line (x : Byte) : LinkByte := if linkParityOk (x.zeroExtend 9) then x.zeroExtend 9 else (x.zeroExtend 9) ||| 256

theorem test_wf_declared_length : (Instr.dataOutFrame .device 513 ⟨[], false⟩).wf = false := by decide
theorem test_wf_empty_frame : (Instr.inboundFrameError { bytes := [], late := false }).wf = false := by decide
theorem test_wf_mode_length : (Instr.loadTableMode 0).wf = false := by decide
theorem test_wf_profile_length : (Instr.loadTableProfile 2049).wf = false := by decide
theorem test_wf_zone_length : (Instr.loadTableZone .bayA 0).wf = false := by decide
theorem test_wf_list_length : (Instr.loadTableDefectList .bayB 2049).wf = false := by decide
theorem test_wf_track : (Instr.servoSample .bayA ⟨true, false, 100, 100, 1536⟩).wf = false := by decide
theorem test_wf_field : (Instr.dataFieldRead [0, 0, 0] 0).wf = false := by decide
theorem test_wf_accepts : (Instr.loadTableMode 16).wf = true ∧ (Instr.dataFieldRead (List.replicate 512 0) 5).wf = true := by
  decide +kernel

/-- No row of the table has bits. -/
theorem test_no_word_spells_a_command : decodeTableWord 16 0x1234 = none := by decide

/-! ## Worked figures of the reference -/

/-- 01, Check values. -/
theorem test_crc_empty : crc16 [] = 0xFFFF := by decide
theorem test_crc_digits : crc16 [0x31, 0x32, 0x33, 0x34, 0x35, 0x36, 0x37, 0x38, 0x39] = 0x29B1 := by decide +kernel

/-- 03, Worked Figures: dev and step of eleven periods. -/
theorem test_periods :
    [20130, 19700, 20099, 20119, 20120, 19881, 19995, 20400, 20420, 19580, 65535].map
        (fun p => (deviationOf p, regulationStep p, inWindow p, outOfSpeed p)) =
      [(6, 8, false, false), (-15, -8, false, false), (4, 6, true, false), (5, 7, true, false), (6, 7, false, false),
        (-5, -7, true, false), (0, 0, true, false), (20, 8, false, false), (21, 8, false, true), (-21, -8, false, true),
        (2276, 8, false, true)] := by decide

/-- 03, the regulation steps of the worked spin-up: 144, 136, 132, 132, 132, 134. -/
theorem test_regulation : [19860, 19930, 19985, 20012, 20040].foldl regulatedDrive 144 = 134 := by decide

/-- 04, Worked Figures: Servo Samples, bias −3. -/
theorem test_samples :
    [(150, 90), (100, 101), (10, 12), (120, 117), (13, 12), (200, 40), (40, 200), (254, 0), (255, 30)].map
        (fun x : Nat × Nat =>
          let y := sampleOf ⟨true, false, BitVec.ofNat 8 x.1, BitVec.ofNat 8 x.2, 5⟩ (-3)
          (y.valid, y.rawPes, y.pes)) =
      [(true, 64, 67), (true, -1, 2), (false, 0, 0), (true, 3, 6), (true, 10, 13), (true, 171, 174), (true, -171, -168),
        (true, 256, 256), (false, 0, 0)] := by decide
theorem test_correction : correctionMag 67 = 4 ∧ correctionMag (-168) = 10 ∧ correctionMag 256 = 15 := by decide

/-- 01 and 02, the three-zone cartridge. -/
def tables : Tables where
  heads := 2
  cylinders := 612
  zones := [⟨1, 180, 31, 1, 2, 1⟩, ⟨181, 400, 25, 2, 2, 4⟩, ⟨401, 611, 21, 3, 2, 0⟩]
  map := [⟨⟨37, 1, 12⟩, .slipped, .listed, none⟩, ⟨⟨37, 1, 20⟩, .remapped, .listed, some 0⟩,
    ⟨⟨260, 0, 9⟩, .slipped, .certified, none⟩, ⟨⟨260, 0, 15⟩, .remapped, .grown, some 3⟩,
    ⟨⟨305, 1, 2⟩, .remapped, .grown, some 0⟩, ⟨⟨344, 0, 7⟩, .remapped, .grown, some 2⟩,
    ⟨⟨399, 0, 1⟩, .retired, .certified, none⟩]
  generation := 0
  certified := true

theorem test_capacity : tables.capacity = 30714 := by decide
theorem test_translate :
    [15000, 15010, 2282, 2275, 11035, 11036, 30713].map (fun l => (tables.translate l).map fun x => (x.addr, x.zone, x.spareArea)) =
      [some (⟨399, 0, 3⟩, 1, true), some (⟨260, 0, 25⟩, 1, false), some (⟨179, 0, 0⟩, 0, true),
        some (⟨37, 1, 13⟩, 0, false), some (⟨178, 1, 30⟩, 0, false), some (⟨181, 0, 0⟩, 1, false),
        some (⟨609, 1, 20⟩, 2, false)] := by decide
theorem test_out_of_range : tables.translate 30714 = none := by decide
theorem test_slot_address : slotAddr 2 (tables.zone 0) 100 = ⟨180, 1, 4⟩ ∧ slotNumber 2 (tables.zone 0) ⟨180, 1, 4⟩ = 100 := by
  decide
theorem test_candidate : candidate 2 (tables.zone 1) tables.map = some 4 := by decide
/-- 02, the first reassign of the worked example: the map holds 8 entries, the pointer is 5, LBA 20,000 is in slot 4. -/
theorem test_reassign :
    let t := tables.place 1 ⟨360, 0, 14⟩ none 4
    t.map.length = 8 ∧ (t.zone 1).ptr = 5 ∧ (t.translate 20000).map (fun x => x.addr) = some ⟨399, 0, 4⟩ := by decide

/-- 01, R7: a burst has 1 to 11 bits, and the first and the last recorded bits of a field are the top bit of its first byte and the
bottom bit of its check. -/
theorem test_bursts : (Burst.at 7 0).span = 1 ∧ (Burst.at 0 1023).span = 11 ∧
    (let f : DataField := { data := List.replicate 512 0xA5, check := 0x123456789ABC }
     DataField.ofBits f.bits = f ∧ (f.corrected (Burst.at 4143 0)).data.take 2 = [0x25, 0xA5] ∧
       f.corrected (Burst.at 0 0) = { f with check := 0x123456789ABD } ∧
       (f.corrected (Burst.at 43 1023)).corrected (Burst.at 43 1023) = f) := by decide +kernel

/-! ## States for the tests -/

/-- Reset with bay A changed. -/
def withA (f : Bay → Bay) : State := State.reset.modBay .bayA f

/-- A bay MOUNTED in IDLE with its heads FOLLOWING on cylinder 260. -/
def mounted (x : Bay) : Bay := { x with
  spindle := { x.spindle with state := .atSpeed, watchOpen := false, firstAtSpeed := true, revolutionOpen := true }
  pos := { x.pos with state := .following, target := some ⟨260, 0⟩, current := 260, parked := false, onTrack := true }
  cart := { x.cart with state := .mounted, cartridgeIn := true, lockEngaged := true }
  tu := { x.tu with tables := some tables }
  power := { x.power with mode := .idle, readiness := .ready, unloadTimer := some 5, standbyTimer := some 5 } }

/-- Bay A in IDLE. -/
def idle : State := withA mounted

/-- The state after a command, where it answers one. -/
def after (i : Instr) (s : State) : State :=
  match exec i s with
  | .next t => t
  | .fault _ => s
  | .refused _ => s

/-- 07, Worked Example: the four commands, the first of them to a bay whose unit-changed flag is set. -/
def worked : State := withA fun x => { mounted x with cart := { (mounted x).cart with unitChanged := true } }
theorem test_unit_changed :
    let s := after (.read .bayA 30700 20) worked
    s.bayA.cart.unitChanged = false ∧ s.bayA.sense.completion = some .unitChanged ∧ s.bayA.slot = none := by decide
theorem test_out_of_range_command :
    let s := after (.read .bayA 30700 20) (after (.read .bayA 30700 20) worked)
    s.bayA.sense.completion = some .outOfRange ∧ s.bayA.sense.lba = some 30700 := by decide
theorem test_accepted :
    let s := after (.read .bayA 30700 14) (after (.read .bayA 30700 20) (after (.read .bayA 30700 20) worked))
    s.bayA.slot.isSome = true ∧ s.bayA.power.mode = .active ∧ s.bayA.pos.state = .seeking := by decide

/-! ## States and operands that meet the hypotheses of the statements -/

theorem witness_StepRunsFrontCommand : ({ State.reset with pending := [.linkReset, .identify] } : State).pending =
    .linkReset :: [.identify] := rfl

/-- A part with RESET held. -/
def held : State := after .resetAsserted State.reset

/-- A part with a frame withheld, its queue free again. -/
def freed : State := { idle with link := { idle.link with withheld := some .identify } }

theorem witness_IdleStepIsOneMicrosecond :
    State.reset.pending = [] ∧ State.reset.resetHeld = false ∧ State.reset.bayPresent .bayA = true ∧ held.pending = [] ∧
      held.resetHeld = true ∧ freed.pending = [] ∧ freed.link.withheld = some .identify ∧
      ({ freed with link := { freed.link with withheld := none } } : State).takesFrame = true := by decide

/-- A µs of the host adapter for each element, LFRM asserted: LSTB raised with a byte, or low. -/
def strobes (s : State) (l : List (Option LinkByte)) : State := l.foldl (fun (s : State) x => s.receive true x) s

/-- 10, R171 and R172: the first header byte begins a frame and raises LACK, which drops with LSTB; the frame has two entries and
the link timer runs (R176, R178). -/
theorem test_inbound_exchange :
    (let s := strobes idle [some (line 2)]
     s.linkLines.lack = true ∧ s.link.inFrame.map InFrame.header = some [2] ∧ s.link.reservations = 2 ∧
       s.link.timer = some 500000) ∧
    (let s := strobes idle [some (line 2), some (line 2), none, none]
     s.linkLines.lack = false ∧ s.link.timer = some 499999) ∧
    (let s := strobes idle [some 2, none, some (line 0x0A ^^^ 0x100), none]
     s.link.inFrame.map (fun f => (f.header, f.parityError)) = some ([2, 0x0A], true)) := by decide

/-- 10, R172 and R178: after a frame that LINK_TIMEOUT has ended, a late strobe begins no frame until LFRM has dropped and risen. -/
theorem test_late_strobe_begins_no_frame :
    let s := after (.linkTimeout .absent) (strobes idle [some 2])
    (strobes s [none, some 2]).link.inFrame = none ∧ (strobes (s.receive false none) [some 2]).link.inFrame.isSome = true := by
  decide

/-- 10, R172: a whole frame leaves nothing of a frame that ended early: the next strobe begins a frame. -/
theorem test_whole_frame_ends_what_was_left :
    let s := after (.linkTimeout .absent) (strobes idle [some 2])
    s.link.spent = true ∧ (strobes (after (.wake .bayA) s) [some 2]).link.inFrame.isSome = true := by decide

/-- A microsecond in which the host adapter does this and the servo front ends nothing. -/
def hostTurn (lfrm : Bool) (strobe : Option LinkByte) : Inputs :=
  { phase := false, lfrm := lfrm, strobe := strobe
    servo := { readyA := false, readyB := false, aFirst := true, pace := 0, data := fun _ => 0 } }

/-- 10, R172: a frame arrives when LFRM drops, with its command, and the next strobe begins a new frame; one cut within its header is
in error (R173), and a strobe while LFRM is low joins no frame. -/
theorem test_frame_arrives_as_lfrm_drops :
    (let s := strobes idle [some (line 1), none, some (line 0x0A), none, some (line 0), none, some (line 1), none, some (line 0x27), none]
     let t := s.tickWith (hostTurn false none)
     t.pending = [.wake .bayA] ∧
       (let u := after (.wake .bayA) t
        u.link.inFrame = none ∧ u.link.queue.length = 1 ∧
          (strobes u [some (line 2)]).link.inFrame.map InFrame.header = some [2])) ∧
    (let t := (strobes idle [some (line 1), none]).tickWith (hostTurn false (some (line 3)))
     t.pending = [.inboundFrameError ⟨[line 1], false⟩] ∧ t.link.inFrame.map InFrame.header = some [1]) := by decide

/-- A microsecond in which the servo front ends do this and the host adapter nothing. -/
def servoTurn (readyA readyB aFirst : Bool) (pace : Nat) : Inputs :=
  { phase := false, lfrm := false, strobe := none
    servo := { readyA := readyA, readyB := readyB, aFirst := aFirst, pace := pace, data := fun k => [0x81, 100, 90, 1, 4].getD k 0 } }

/-- 12, R191: both bays ask, bay B is read first, in two µs, and bay A as soon as the bus is free; the five bytes are the flag byte, A,
B and the track id. -/
theorem test_servo_bus :
    let s := State.reset.tickWith (servoTurn true true false 3)
    let t := s.tickWith (servoTurn true false false 0)
    let u := t.tickWith (servoTurn true true false 2)
    (s.sampleSelect .bayA = false ∧ s.sampleSelect .bayB = true ∧ s.sstbStrobes = 3 ∧ s.pending = []) ∧
    (t.sampleSelect .bayB = false ∧ t.servo.waiter = some .bayA) ∧
    (u.sampleSelect .bayA = true ∧ u.servo.waiter = some .bayB) ∧
    ((servoWord [0x81, 100, 90, 1, 4]).ampA = 100 ∧ (servoWord [0x81, 100, 90, 1, 4]).ampB = 90 ∧
      (servoWord [0x81, 100, 90, 1, 4]).track = 260) := by decide

theorem test_servo_row : ((State.reset.tickWith (servoTurn true true false 3)).tickWith (servoTurn true false false 0)).pending =
    [.servoSample .bayB (servoWord [0x81, 100, 90, 1, 4])] := rfl

/-- A latched part. -/
def latched : State := after .powerFailLatch idle

/-- A command at the front of a state's queue. -/
def with1 (i : Instr) (s : State) : State := { s with pending := [i] }

theorem witness_StepEndsItsEvent : (with1 (.seek .bayA 15000) idle).eventOver ∧
    ∃ t, step (with1 (.seek .bayA 15000) idle) = .next t ∧ t.bayA.slot.isSome = true :=
  ⟨⟨rfl, fun _ => ⟨fun b => by cases b <;> rfl, .inl rfl, fun h => by cases h⟩⟩, _, rfl, by decide⟩

/-- A bay whose spindle accelerates. -/
def spinningUp : State :=
  { withA fun x => { x with spindle := { x.spindle with state := .accelerating, watchOpen := false, drive := 255, counter := 0, revolutionOpen := true } } with
    allowHolder := some .bayA }

theorem kept_spinningUp : spinningUp.allowanceKept :=
  ⟨fun b => by cases b <;> decide, fun b => by cases b <;> decide, by decide, by decide⟩

theorem witness_StepKeepsAllowance : spinningUp.allowanceKept ∧
    ∃ t, step (with1 (.indexEdge .bayA 20000) spinningUp) = .next t ∧ t.bayA.spindle.state = .regulating :=
  ⟨kept_spinningUp, _, rfl, by decide⟩

theorem witness_StepKeepsPowerDown : latched.powerLoss = true ∧ latched.poweredDown ∧
    ∃ t, step (with1 (.parkSensorChange .bayA true) latched) = .next t :=
  ⟨by decide, fun _ => ⟨by decide, by decide, by decide, by decide, by decide, by decide, by decide, by decide, by decide,
    by decide, by decide, by decide, fun b _ => by cases b <;> decide⟩, _, rfl⟩

/-- A visit of bay A to the track of `mounted`, in a phase. -/
def visitOf (phase : VisitPhase) (kind : JobKind) : Visit where
  bay := .bayA
  kind := kind
  track := ⟨260, 0⟩
  rate := 2
  fields := 3
  search := 2
  phase := phase
  ending := false

/-- A channel with that visit. -/
def channelOf (v : Visit) (gate : Bool) : Channel := { Channel.reset with holder := some .bayA, visit := some v, gate := gate }

/-- A READ in bay A's slot. -/
def readCmd : Cmd := Cmd.fresh .read 15010 2 Dmt.reset.caps

/-- Its first block in hand. -/
def readJob : Job where
  kind := .mediaRead
  sector := { addr := ⟨260, 0, 25⟩, zone := 1, spareArea := false, rate := 2, lba := some 15010 }
  stage := .atTrack
  tries := 0
  matched := false
  fieldRead := false
  slots := [0]

/-- Bay A with a command and a sector operation in a visit. -/
def visiting (phase : VisitPhase) (gate : Bool) (j : Job) (c : Option Cmd) : State :=
  { withA fun x => { mounted x with
      slot := c, job := some j, power := { (mounted x).power with mode := .active } } with
    chan := channelOf (visitOf phase j.kind) gate
    slots := List.replicate 12 (SlotRec.taken .bayA (.recordPart 0) none) }

theorem witness_StepKeepsChannel : (visiting .writing true { readJob with kind := .mediaWrite } (some readCmd)).channelKept ∧
    ∃ t, step (with1 .dataFieldWritten (visiting .writing true { readJob with kind := .mediaWrite } (some readCmd))) = .next t :=
  ⟨⟨by decide, fun _ => ⟨_, rfl, .inl rfl⟩⟩, _, rfl⟩

theorem witness_StepKeepsTheSlotQuota : idle.twelveSlots ∧ idle.quotaKept ∧
    ∃ t, step (with1 (.read .bayA 15000 1) idle) = .next t ∧ t.heldSlots .bayA = 1 :=
  ⟨rfl, fun b => by cases b <;> decide, _, rfl, by decide⟩

/-- A part without a latch has nothing powered down. -/
theorem poweredDown_of_running {s : State} (h : s.powerLoss = false) : s.poweredDown := fun h' => by rw [h] at h'; cases h'

theorem witness_StepKeepsHeadsFlying : idle.signals = [] ∧ idle.allowanceKept ∧ idle.poweredDown ∧ idle.headsFly ∧
    idle.bayA.pos.state.loaded = true ∧ ∃ t, step (with1 (.seek .bayA 15000) idle) = .next t :=
  ⟨rfl, ⟨fun b => by cases b <;> decide, fun b => by cases b <;> decide, by decide, by decide⟩, poweredDown_of_running rfl,
    fun b => by cases b <;> decide, by decide, _, rfl⟩

theorem witness_StepKeepsTheQueueRoom : idle.signals = [] ∧ idle.poweredDown ∧ idle.queueKept ∧
    ∃ t, step (with1 (.seek .bayA 15000) idle) = .next t ∧ t.link.reservations = 1 :=
  ⟨rfl, poweredDown_of_running rfl, ⟨by decide, by decide, by decide⟩, _, rfl, by decide⟩

/-- The levels of bays without cartridges. -/
def pins : Pins := ⟨true, true, false, false, .hostSends, ⟨true, true, false, false, true⟩, ⟨false, false, true, false, false⟩⟩

theorem witness_EndOfResetStartsEachBay : held.resetHeld = true ∧ pins.powerFail = false ∧ pins.ldir = .hostSends ∧
    (after (.endOfReset pins) held).bayPresent .bayB = true := by decide

theorem witness_PowerFailLatchStopsEveryBlock : idle.running ∧ idle.bayPresent .bayA = true ∧
    (let s := withA fun x => { x with pos := { x.pos with state := .retracting, parked := false } }
     s.running ∧ s.bayA.pos.state = .retracting ∧ s.bayA.pos.parked = false) := by decide

/-- Bay A with a frame in progress that is filling a slot for it. -/
def filling (slot : Option Nat) (bytes : Nat) : State := { idle with
  slots := (List.replicate 12 SlotRec.free).set 0 (SlotRec.taken .bayA .hostData (some 7))
  link := { idle.link with
    inFrame := some { bytes := List.replicate bytes 2, ack := false, held := none, slot := slot, late := [.bayA], limit := 9, due := none }
    timer := some 9
    reservations := 2 } }

theorem witness_LinkResetFreesTheSlot : (filling (some 0) 5).running ∧ (filling (some 0) 5).settled ∧
    (filling (some 0) 5).deviceSlot = none ∧ (filling (some 0) 5).bayA.slot = none ∧ (filling (some 0) 5).bayB.slot = none ∧
    ((filling (some 0) 5).slotRec 0).state = .filling ∧ ((filling (some 0) 5).slotRec 0).purpose = some .hostData ∧
    ((filling (some 0) 5).slotRec 0).owner = some .bayA ∧
    ({ filling (some 0) 5 with link := { (filling (some 0) 5).link with inFrame := none, withheld := none } } : State).bayRests .bayA =
      true := by decide

theorem witness_LinkResetClearsTheLink : idle.running ∧ idle.settled ∧ idle.link.lrst = false ∧ idle.deviceSlot = none ∧
    idle.bayA.slot = none ∧ idle.bayB.slot = none ∧ idle.bayPresent .bayA = true ∧
    (let s := after .linkReset idle
     s.running ∧ s.settled ∧ s.link.ldir = .hostSends ∧ s.link.lrst = true) := by decide

/-- A STATUS that waits. -/
def waitingStatus : Desc := .status (.bay .bayA) .good .none 1 0x10

/-- A queue with one STATUS. -/
def queued : State := { idle with link := { idle.link with queue := [waitingStatus] } }

/-- A pending attention. -/
def raised : State := withA fun x => { x with attn := { x.attn with inserted := { raised := true, payload := 1 } } }

theorem witness_LdirChangeBeginsTheNextFrame :
    (queued.running ∧ queued.settled ∧ queued.link.lrst = false ∧ queued.link.ldir = .hostSends ∧ queued.link.inFrame = none ∧
      queued.link.outFrame = none ∧ queued.link.queue = waitingStatus :: []) ∧
    (raised.settled ∧ raised.link.queue = [] ∧ raised.nextAttention = some (.bayA, .inserted)) ∧
    (idle.link.queue = [] ∧ idle.nextAttention = none) ∧
    (let s : State := { idle with link := { idle.link with ldir := .partSends } }
     s.running ∧ s.settled ∧ s.link.outFrame = none) := by decide

/-- The lines of bytes. -/
def lines (x : List Byte) : List LinkByte := x.map line

theorem witness_CommandFramesReadBack : (Instr.read .bayA 0x000102 3).wf = true ∧
    commandFrame (.read .bayA 0x000102 3) = some (.bay .bayA, [0x10, 0x00, 0x01, 0x02, 3]) ∧ idle.takesFrame = true ∧
    (filling none 2).frameUnderWay = true ∧
    frameVerdict (lines [1, 0x0A, 0, 5, 0x10, 0x00, 0x01, 0x02, 3]) .short = .command (.read .bayA 0x000102 3) := by decide

/-- The lines of a COMMAND frame for bay A with a good header. -/
abbrev good (x : List LinkByte) : Prop :=
  4 ≤ x.length ∧ (∀ y ∈ x.take 4, linkParityOk y = true) ∧ field ((x.take 4).map linkData) 0 1 = 1 ∧
    BayField.ofByte (((x.take 4).map linkData).getD 1 0) = some (.bay .bayA) ∧ field ((x.take 4).map linkData) 2 2 ≤ 512

theorem witness_FramesInErrorAreAnswered :
    idle.hears ∧ (lines [1, 0x0A]).length < 4 ∧
      (4 ≤ (lines [1, 0x0A, 0] ++ [0]).length ∧ (∃ y ∈ (lines [1, 0x0A, 0] ++ [0]).take 4, linkParityOk y = false)) ∧
      (∀ x ∈ lines [1, 0x0A, 2, 1], linkParityOk x = true) ∧ 512 < field ((lines [1, 0x0A, 2, 1]).map linkData) 2 2 ∧
      field ((lines [3, 0x0A, 0, 0]).map linkData) 0 1 ≠ 1 ∧ field ((lines [3, 0x0A, 0, 0]).map linkData) 0 1 ≠ 2 ∧
      BayField.ofByte ((lines [1, 0x0C, 0, 0]).map linkData |>.getD 1 0) = none ∧
      good (lines [1, 0x0A, 0, 1] ++ [0]) ∧ (∃ y ∈ ([0] : List LinkByte), linkParityOk y = false) ∧
      good (lines [1, 0x0A, 0, 4, 0x13]) ∧ (lines [0x13]).length < 4 ∧
      good (lines [1, 0x0A, 0, 1, 0x16, 0]) ∧ 1 < (lines [0x16, 0]).length ∧
      good (lines [1, 0x0A, 0, 1, 0x99]) ∧ commandAccepted (.bay .bayA) ((lines [0x99]).map linkData) = false ∧
      (∀ y ∈ lines [0x13, 0x16, 0, 0x99], linkParityOk y = true) :=
  ⟨by decide, by decide, by decide, by decide, by decide, by decide, by decide, by decide, by decide, by decide, by decide⟩

theorem witness_UnexpectedDataIsAnswered : idle.hears ∧
    (∀ x, idle.staging = some x → x.target = .bay .bayA → x.declared ≤ x.bytes.length) ∧
    (∀ b c, BayField.bay .bayA = .bay b → (idle.bay b).slot = some c → c.op = .write →
      c.count ≤ c.received ∨ c.result.isSome = true) := by
  refine ⟨by decide, ⟨?_, ?_⟩⟩
  · intro x h
    exact nomatch (show (none : Option Staging) = some x from h)
  · intro b c _ h
    cases b <;> exact nomatch (show (none : Option Cmd) = some c from h)

/-- A PROFILE load of 600 bytes whose first frame is due. -/
def profileLoad : State := after (.loadTableProfile 600) idle

/-- A WRITE of two blocks whose heads are on their way, or one that waits for a mount. -/
def writeBay (wait : Wait) : State := withA fun x => { mounted x with
  slot := some { Cmd.fresh .write 15010 2 Dmt.reset.caps with wait := wait }
  job := some { kind := .mediaWrite, sector := { addr := ⟨260, 0, 25⟩, zone := 1, spareArea := false, rate := 2, lba := some 15010 }
                stage := .seeking, tries := 0, matched := false, fieldRead := false, slots := [] }
  power := { (mounted x).power with mode := .active } }

theorem good_sector : (512#16).toNat = 512 ∧ (List.replicate 512 (1 : LinkByte)).length = 512 ∧
    (∀ y ∈ List.replicate 512 (1 : LinkByte), linkParityOk y = true) :=
  ⟨by decide, List.length_replicate, fun y h => by rw [List.eq_of_mem_replicate h]; decide⟩

theorem witness_DataFramesGoToTheirCommand : profileLoad.hears ∧
    profileLoad.staging = some { id := .profile, declared := 600, target := .device, bytes := [] } ∧
    (512 : Nat) < 600 - 0 ∧
    (∃ c, (writeBay .working).hears ∧ (writeBay .working).bayA.slot = some c ∧ c.op = .write ∧ c.received < c.count ∧
      c.result = none ∧ c.wait ≠ .mount ∧ c.wait ≠ .flush ∧ (writeBay .working).mayAllocate .bayA = true ∧
      (writeBay .working).bayRests .bayA = true) ∧
    (∃ c, (writeBay .mount).hears ∧ (writeBay .mount).bayA.slot = some c ∧ c.op = .write ∧ c.received < c.count ∧
      c.result = none ∧ c.wait = .mount) :=
  ⟨by decide, by decide, by decide, ⟨_, by decide, rfl, by decide⟩, ⟨_, by decide, rfl, by decide⟩⟩

/-- The MODE image of the default DMT, and the ZONE image of the three-zone cartridge, on the lines. -/
def modeFrame : List LinkByte := lines (withCrc (dmtBody Dmt.reset))
def zoneFrame : List LinkByte := lines (withCrc (byte1 3 ++ tables.zones.flatMap zoneBytes ++ List.replicate 60 0))

/-- A MODE load and a ZONE load whose frame is due. -/
def modeLoad : State := after (.loadTableMode 16) idle
def zoneLoad : State :=
  after (.loadTableZone .bayA 99) (withA fun x => { x with cart := { x.cart with state := .released, cartridgeIn := true } })

theorem witness_CompleteImagesAreInstalledOrRejected :
    (modeLoad.hears ∧ modeLoad.deviceSlot = some (Cmd.fresh (.loadTable .mode) 0 0 Dmt.reset.caps) ∧
      modeLoad.staging = some { id := .mode, declared := 16, target := .device, bytes := [] } ∧ modeLoad.link.outFrame = none ∧
      modeLoad.link.queue = [] ∧ modeFrame.length = 16 ∧ (∀ y ∈ modeFrame, linkParityOk y = true) ∧
      crc16 ((modeFrame.map linkData).take 14) = field (modeFrame.map linkData) 14 2) ∧
    (∃ c, zoneLoad.hears ∧ zoneLoad.staging = some { id := .zone, declared := 99, target := .bay .bayA, bytes := [] } ∧
      zoneLoad.bayA.slot = some c ∧ c.op = .loadTable .zone ∧ c.silent = false ∧ c.result = none ∧
      zoneLoad.link.outFrame = none ∧ zoneLoad.link.queue = [] ∧ zoneLoad.bayA.job = none ∧ zoneLoad.bayA.flush = none ∧
      zoneLoad.bayA.reassign = none ∧ zoneLoad.bayA.format = none ∧ zoneLoad.bayA.cart.eject = none ∧
      zoneLoad.bayA.power.mode ≠ .active ∧ { zoneLoad.bayA with slot := none }.rests = true ∧
      zoneLoad.visiting .bayA = false ∧ zoneLoad.chan.waiter ≠ some .bayA ∧ zoneFrame.length = 99 ∧
      (∀ y ∈ zoneFrame, linkParityOk y = true) ∧
      crc16 ((zoneFrame.map linkData).take 97) = field (zoneFrame.map linkData) 97 2 ∧
      structureOk .zone (zoneFrame.map linkData) = true) :=
  ⟨by decide +kernel, _, by decide, by decide, rfl, by decide +kernel⟩

/-- The same ZONE load being stopped. -/
def stoppedZoneLoad : State := { zoneLoad with
  bayA := { zoneLoad.bayA with slot := zoneLoad.bayA.slot.map fun c => { c with stop := some .eject } } }

theorem witness_StoppedLoadEnds : ∃ c, stoppedZoneLoad.hears ∧ stoppedZoneLoad.bayA.slot = some c ∧ c.stop.isSome = true ∧
    c.op = .loadTable .zone ∧ c.silent = false ∧ c.result = none ∧
    stoppedZoneLoad.staging = some { id := .zone, declared := 99, target := .bay .bayA, bytes := [] } ∧
    stoppedZoneLoad.bayA.job = none ∧ stoppedZoneLoad.bayA.cart.eject = none ∧ stoppedZoneLoad.bayA.power.mode ≠ .active ∧
    { stoppedZoneLoad.bayA with slot := none }.rests = true := ⟨_, by decide, rfl, by decide⟩

/-- A ZONE load in MOUNTED, stopped by a press while its frame is in progress. -/
def pressedLoad : State :=
  after (.ejectButtonPress ⟨.bayA, true⟩) (strobes (after (.loadTableZone .bayA 99) idle) [some 2, none, some 0x10A])

theorem witness_StoppedLoadTakesItsFrame : ∃ c f e, pressedLoad.settled ∧ pressedLoad.bayPresent .bayA = true ∧
    pressedLoad.frameUnderWay = true ∧ pressedLoad.link.inFrame = some f ∧ f.slot = none ∧ f.late.contains .bayA = false ∧
    pressedLoad.staging = some { id := .zone, declared := 99, target := .bay .bayA, bytes := [] } ∧
    pressedLoad.bayA.slot = some c ∧ c.op = .loadTable .zone ∧ c.stop.isSome = true ∧ c.silent = false ∧ c.result = none ∧
    pressedLoad.bayB.stoppedLoad = false ∧ pressedLoad.link.outFrame = none ∧ pressedLoad.link.queue = [] ∧
    pressedLoad.bayA.job = none ∧ pressedLoad.bayA.flush = none ∧ pressedLoad.bayA.reassign = none ∧
    pressedLoad.bayA.format = none ∧ pressedLoad.bayA.cart.state = .mounted ∧ pressedLoad.bayA.cart.eject = some e ∧
    e.phase = .waitStop ∧ pressedLoad.bayA.tu.dirty = false ∧ pressedLoad.bayA.power.mode = .active ∧
    pressedLoad.bayA.power.entry = none ∧ pressedLoad.bayA.power.wake = none ∧ pressedLoad.bayA.spindle.state = .atSpeed ∧
    pressedLoad.bayA.pos.state = .following ∧ pressedLoad.bayA.pos.target = some ⟨260, 0⟩ ∧
    pressedLoad.bayA.pos.parked = false ∧ pressedLoad.bayA.pos.loadOpen = false ∧ pressedLoad.bayA.pos.seekFor = .nobody ∧
    pressedLoad.bayA.pos.heldSeek = none ∧ pressedLoad.visiting .bayA = false ∧ pressedLoad.chan.waiter ≠ some .bayA ∧
    (99#16).toNat = zoneFrame.length ∧ zoneFrame.length = min 512 (99 - 0) ∧ (∀ y ∈ zoneFrame, linkParityOk y = true) :=
  ⟨_, _, _, by decide, by decide, by decide, rfl, by decide, by decide, by decide, rfl, by decide, by decide, by decide, by decide,
    by decide, by decide, by decide, by decide, by decide, by decide, by decide, by decide, rfl, by decide +kernel⟩

/-- 07, R146: a LOAD TABLE stopped by a press ends with the DATA-OUT frame in progress, and installs nothing. -/
theorem test_stopped_load_waits_for_its_frame :
    let t := after (.dataOutFrame (.bay .bayA) 99 ⟨zoneFrame, false⟩) pressedLoad
    pressedLoad.bayA.slot.isSome = true ∧ t.bayA.slot = none ∧ t.staging = none ∧ t.bayA.tu.stagedZone = none := by decide +kernel

/-- A STATUS frame going out. -/
def sending (ldir : LinkDir) (queue : List Desc) : State := { idle with link := { idle.link with
  ldir := ldir, queue := queue, timer := some 1
  outFrame := some { kind := .status, target := .device, payload := [0], slot := none, owned := false, sent := 0, strobe := true, limit := 500000 } } }

theorem witness_OutboundFrameEnds :
    ((filling none 2).settled ∧ (filling none 2).link.outFrame = none ∧ (filling none 2).frameUnderWay = true ∧
      (∀ f, (filling none 2).link.inFrame = some f → f.bytes.length < 4 ∧ f.slot = none) ∧
      (∀ b, ((filling none 2).bay b).stoppedLoad = false) ∧
      (filling none 2).link.timer.isSome = true) ∧
    ((sending .hostSends []).running ∧ (sending .hostSends []).settled ∧ (sending .hostSends []).link.lrst = false ∧
      (sending .hostSends []).link.timer.isSome = true) ∧
    ((sending .partSends []).settled ∧ (sending .partSends []).link.queue = [] ∧ (sending .partSends []).nextAttention = none) ∧
    ((sending .partSends [waitingStatus]).settled ∧ (sending .partSends [waitingStatus]).link.queue = waitingStatus :: []) :=
  ⟨⟨by decide, by decide, by decide, by decide, fun b => by cases b <;> decide, by decide⟩, by decide, by decide, by decide⟩

/-- A block of a READ going out while its next block is sought. -/
def delivering : State :=
  { withA fun x => { mounted x with
      slot := some readCmd, job := some { readJob with stage := .seeking }, power := { (mounted x).power with mode := .active } } with
    slots := List.replicate 12 (SlotRec.taken .bayA .mediaData none)
    link := { Link.reset with
      ldir := .partSends
      outFrame := some { kind := .dataIn, target := .bay .bayA, payload := [], slot := some 3, owned := true, sent := 4, strobe := false, limit := 500000 } } }

theorem witness_SentSlotIsFreed : delivering.running ∧ delivering.settled ∧ delivering.link.lrst = false ∧
    (delivering.slotRec 3).owner = some .bayA ∧ delivering.bayA.slot = some readCmd ∧ readCmd.op = .read ∧
    readCmd.result = none ∧ delivering.bayA.job.isSome = true ∧ delivering.bayRests .bayA = true ∧
    delivering.link.queue = [] ∧ delivering.nextAttention = none ∧ delivering.link.ldir = .partSends ∧
    (delivering.link.outFrame.any OutFrame.over) = true := by decide

/-- 10, R177: the phase that ends the exchange of the last byte sends the frame, and the next one begins in that event. -/
theorem test_last_byte_sends_the_frame :
    let s := sending .partSends [waitingStatus]
    let s := s.modLink fun l => { l with outFrame := l.outFrame.map fun f => { f with sent := 4, strobe := false } }
    let t := s.tickWith ({ hostTurn true none with phase := true } : Inputs)
    (s.tickWith (hostTurn true none)).pending = [] ∧ t.pending = [.outboundFrameSent] ∧ t.link.timer = none ∧
      (let u := after .outboundFrameSent t
       u.link.queue = [] ∧ u.link.outFrame.map (fun f => f.sent) = some 0) := by decide

/-- Bay B absent. -/
def oneBay : State := { State.reset with twoBays := false }

/-- Bay A with a cartridge state. -/
def inState (c : CartState) : State := withA fun x => { x with cart := { x.cart with state := c } }

/-- Bay A in IDLE with a protected cartridge. -/
def guarded : State := withA fun x => { mounted x with cart := { (mounted x).cart with wpProtected := true } }

theorem witness_MediaCommandsAreRefusedInOrder :
    (oneBay.hears ∧ oneBay.bayPresent .bayB = false) ∧
    (let s : State := withA fun x => { x with slot := some readCmd }
     s.hears ∧ s.bayPresent .bayA = true ∧ s.bayA.slot.isSome = true) ∧
    (State.reset.hears ∧ State.reset.bayA.slot = none ∧ State.reset.bayA.cart.state = .empty) ∧
    ((inState .bayFault).hears ∧ (inState .bayFault).bayA.cart.state = .bayFault) ∧
    ((inState .released).hears ∧
      (inState .released).bayA.cart.state ∈ [CartState.seated, .locking, .mounting, .formatting, .unmounting, .releasing, .released]) ∧
    ((inState .spinningUp).hears ∧ (inState .spinningUp).bayA.cart.state = .spinningUp ∧ (inState .spinningUp).autospinHigh = true) ∧
    ((inState .unformatted).hears ∧ (inState .unformatted).bayA.cart.state = .unformatted) ∧
    (worked.hears ∧ worked.bayA.slot = none ∧ worked.bayA.cart.state = .mounted ∧ worked.bayA.cart.unitChanged = true) ∧
    (idle.hears ∧ idle.bayA.cart.state = .mounted ∧ idle.bayA.cart.unitChanged = false ∧
      idle.bayA.tu.capacity < (30713#24).toNat + countOf 2 ∧ (30713#24).toNat + 1 ≤ idle.bayA.tu.capacity) ∧
    (guarded.hears ∧ guarded.bayA.slot = none ∧ guarded.bayA.cart.state = .mounted ∧ guarded.bayA.cart.unitChanged = false ∧
      guarded.bayA.cart.wpProtected = true ∧ (30713#24).toNat + 1 ≤ guarded.bayA.tu.capacity) :=
  ⟨by decide, by decide, by decide, by decide, by decide, by decide, by decide, by decide, by decide, by decide⟩

/-- Bay A in IDLE with a zone table staged, and other tables. -/
def stagedWith (image : List Byte) (t : Tables) : State := withA fun x => { mounted x with
  tu := { (mounted x).tu with stagedZone := some image, tables := some t } }

/-- The layout of the test tables as a staged zone table. -/
def layout : List Byte := byte1 3 ++ tables.zones.flatMap zoneBytes ++ List.replicate 60 0

/-- A layout that does not begin at cylinder 1. -/
def gapped : List Byte := byte1 2 ++ layout.drop 13

/-- A map of 257 GROWN entries. -/
def grown257 : List DefectEntry := (List.range 257).map fun i => ⟨⟨1 + i / 16, 0, i % 16⟩, .remapped, .grown, none⟩

theorem witness_FormatIsChecked :
    (idle.hears ∧ idle.bayPresent .bayA = true ∧ idle.bayA.slot = none ∧ idle.bayA.cart.state = .mounted ∧
      idle.bayA.cart.unitChanged = false ∧ idle.bayA.cart.wpProtected = false ∧ idle.bayA.tu.stagedZone = none) ∧
    (∀ x ∈ [(layout, tables), (gapped, tables), (layout, { tables with map := grown257 })],
      let s := stagedWith x.1 x.2
      s.hears ∧ s.bayPresent .bayA = true ∧ s.bayA.slot = none ∧ s.bayA.cart.state = .mounted ∧
        s.bayA.cart.unitChanged = false ∧ s.bayA.cart.wpProtected = false ∧ s.bayA.tu.stagedZone = some x.1 ∧
        s.bayA.tu.stagedList = none) ∧
    (layoutDetail 2 (lastCylinder (stagedZones gapped) + 1) (field gapped 0 1) (stagedZones gapped) false ≠ .none ∧
      layoutDetail 2 (lastCylinder (stagedZones layout) + 1) (field layout 0 1) (stagedZones layout) false = .none ∧
      ((stagedWith layout { tables with map := grown257 }).bayA.formatDefects 2 (stagedZones layout) false true).length = 257) := by
  decide +kernel

theorem witness_ReadAndVerifyTakeTheirFirstBlock : ∃ x row, idle.hears ∧ idle.readyAt .bayA tables ⟨260, 0⟩ ∧
    (2275#24).toNat + countOf 3 ≤ tables.capacity ∧ tables.translate (2275#24).toNat = some x ∧ (260 : Nat) ≠ x.addr.cyl ∧
    idle.mayAllocate .bayA = true ∧
    idle.profile.find? (fun r => decide ((idle.bay .bayA).pos.distance x.track ≤ r.bound)) = some row :=
  ⟨_, _, by decide, by decide, by decide, rfl, by decide, by decide, rfl⟩

theorem witness_WriteAndSeekStartTheirSeek : ∃ x row, idle.hears ∧ idle.readyAt .bayA tables ⟨260, 0⟩ ∧
    tables.translate (30713#24).toNat = some x ∧ (260 : Nat) ≠ x.addr.cyl ∧
    idle.profile.find? (fun r => decide ((idle.bay .bayA).pos.distance x.track ≤ r.bound)) = some row ∧
    idle.bayA.cart.wpProtected = false ∧ (30713#24).toNat + countOf 1 ≤ tables.capacity :=
  ⟨_, _, by decide, by decide, rfl, by decide, rfl, by decide, by decide⟩

theorem witness_ReassignReadsTheAbandonedSector : ∃ home row, idle.hears ∧ idle.readyAt .bayA tables ⟨260, 0⟩ ∧
    idle.bayA.cart.wpProtected = false ∧ (15000#24).toNat + 1 ≤ tables.capacity ∧
    tables.home (15000#24).toNat = some (1, home) ∧
    slotAddr 2 (tables.zone 1) 3 = (match tables.targetAt home with
      | some j => slotAddr tables.heads (tables.zone 1) j
      | none => home) ∧
    (260 : Nat) ≠ (slotAddr 2 (tables.zone 1) 3).cyl ∧ tables.map.length < 256 ∧
    (candidate tables.heads (tables.zone 1) tables.map).isSome = true ∧ idle.mayAllocate .bayA = true ∧
    idle.profile.find? (fun r => decide ((idle.bay .bayA).pos.distance ⟨399, 0⟩ ≤ r.bound)) = some row :=
  ⟨_, _, by decide, by decide, by decide, by decide, rfl, by decide, by decide, by decide, by decide, by decide, rfl⟩

/-- Bay A in IDLE with the layout of its own tables staged. -/
def staged : State := withA fun x => { mounted x with tu := { (mounted x).tu with
  stagedZone := some (byte1 3 ++ tables.zones.flatMap zoneBytes ++ List.replicate 60 0) } }

theorem witness_FormatBeginsWithInvalidate : ∃ row, staged.hears ∧ staged.readyAt .bayA tables ⟨260, 0⟩ ∧
    staged.bayA.cart.wpProtected = false ∧ (260 : Nat) ≠ 0 ∧ staged.bayA.formatRefusal (2#8).toNat false true = none ∧
    staged.profile.find? (fun r => decide ((staged.bay .bayA).pos.distance ⟨0, 0⟩ ≤ r.bound)) = some row :=
  ⟨_, by decide, by decide, by decide, by decide, by decide +kernel, rfl⟩

/-- Bay A in IDLE with a dirty record. -/
def dirty : State := withA fun x => { mounted x with tu := { (mounted x).tu with dirty := true } }

theorem witness_FlushRecordSeeksTheRecord : ∃ row, dirty.hears ∧ dirty.readyAt .bayA tables ⟨260, 0⟩ ∧
    dirty.bayA.tu.dirty = true ∧ (260 : Nat) ≠ 0 ∧
    dirty.profile.find? (fun r => decide ((dirty.bay .bayA).pos.distance ⟨0, 0⟩ ≤ r.bound)) = some row :=
  ⟨_, by decide, by decide, by decide, by decide, rfl⟩

theorem witness_EjectUnloadsACleanBay : idle.hears ∧ idle.readyAt .bayA tables ⟨260, 0⟩ ∧ idle.bayA.tu.dirty = false ∧
    idle.bayA.cart.preventRemoval = false := by decide

theorem witness_EjectIsTestedFirst : (oneBay.hears ∧ oneBay.bayPresent .bayB = false) ∧
    (let s : State := withA fun x => { x with slot := some readCmd }
     s.hears ∧ s.bayA.slot.isSome = true) ∧
    (State.reset.hears ∧ State.reset.bayA.cart.state = .empty) ∧
    (let s := after (.prevent .bayA) idle
     s.hears ∧ s.bayPresent .bayA = true ∧ s.bayA.slot = none ∧ s.bayA.cart.state ≠ .empty ∧
       s.bayA.cart.preventRemoval = true) := by decide

theorem witness_ImmediateCommandsComplete : idle.hears ∧ idle.bayPresent .bayA = true ∧ idle.bayA.cart.state ≠ .empty ∧
    State.reset.hears ∧ State.reset.bayA.cart.state = .empty ∧ oneBay.hears ∧ oneBay.bayPresent .bayB = false := by decide

theorem witness_ReportsJoinTheQueue : staged.hears ∧ staged.deviceSlot = none ∧ staged.bayPresent .bayA = true ∧
    staged.bayA.slot = none ∧ staged.bayA.power.entry = none ∧ staged.bayA.cart.state = .mounted ∧
    staged.bayA.tu.tables = some tables ∧ staged.bayA.tu.stagedZone.isSome = true ∧ staged.bayA.tu.stagedList = none := by decide

theorem witness_LoadTableTakesTheStagingArea :
    (idle.hears ∧ 1 ≤ (16#16).toNat ∧ (16#16).toNat ≤ 2048 ∧ idle.deviceSlot = none ∧ idle.staging = none ∧
      idle.bayPresent .bayA = true ∧ idle.bayA.slot = none ∧ idle.bayA.cart.state ≠ .empty ∧ idle.bayA.power.entry = none) ∧
    (modeLoad.hears ∧ modeLoad.deviceSlot.isSome = true ∧ modeLoad.staging.isSome = true) ∧
    (State.reset.hears ∧ State.reset.bayA.slot = none ∧ State.reset.staging = none ∧ State.reset.bayA.cart.state = .empty) := by
  decide

theorem witness_StandbyEntryUnloads : idle.takesFrame = true ∧ idle.settled ∧ idle.readyAt .bayA tables ⟨260, 0⟩ ∧ idle.bayA.tu.dirty = false ∧
    idle.bayA.power.standbyTimer.isSome = true := by decide

/-- Bay A in PARKED_IDLE with its spindle ready. -/
def parkedIdle : State := withA fun x => { mounted x with
  pos := x.pos, power := { (mounted x).power with mode := .parkedIdle, readiness := .loadDelay } }

theorem witness_WakeLoadsTheHeads :
    (parkedIdle.hears ∧ parkedIdle.bayPresent .bayA = true ∧ parkedIdle.bayA.slot = none ∧
      parkedIdle.bayA.cart.state = .mounted ∧ parkedIdle.bayA.power.mode = .parkedIdle ∧ parkedIdle.bayA.power.entry = none ∧
      parkedIdle.bayA.power.wake = none ∧ parkedIdle.bayA.spindle.ready = true ∧ parkedIdle.bayA.cart.lockEngaged = true ∧
      parkedIdle.bayA.pos.state = .parked) ∧
    (∀ s ∈ [idle, inState .unformatted], s.hears ∧ s.bayPresent .bayA = true ∧ s.bayA.slot = none ∧
      (s.bayA.cart.state = .mounted ∧ s.bayA.power.mode = .idle ∨ s.bayA.cart.state = .unformatted ∧ s.bayA.power.mode = .unmounted) ∧
      s.bayRests .bayA = true ∧ s.bayA.job = none ∧ s.bayA.reassign = none ∧ s.bayA.format = none ∧ s.bayA.cart.eject = none ∧
      s.link.outFrame = none ∧ s.staging = none ∧ s.link.queue = []) ∧
    ((inState .seated).hears ∧ (inState .seated).bayA.slot = none ∧ (inState .seated).bayA.cart.state ∈
      [CartState.seated, .locking, .mounting, .formatting, .unmounting, .releasing, .released]) := by decide

/-- A SEEK that waits for a wake. -/
def waitingSeek : State := withA fun x => { mounted x with
  slot := some { Cmd.fresh .seek 15010 1 Dmt.reset.caps with wait := .wake }
  pos := x.pos, power := { (mounted x).power with mode := .parkedIdle, readiness := .loadDelay } }

theorem witness_AbortEndsAWaitingCommand :
    (State.reset.hears ∧ State.reset.deviceSlot = none ∧ State.reset.bayPresent .bayA = true ∧ State.reset.bayA.slot = none) ∧
    (oneBay.hears ∧ oneBay.bayPresent .bayB = false) ∧
    ∃ c, waitingSeek.hears ∧ waitingSeek.bayPresent .bayA = true ∧ waitingSeek.bayA.slot = some c ∧ c.op = .seek ∧
      c.wait ≠ .working ∧ c.stop = none ∧ c.result = none ∧ c.silent = false ∧ c.done ≠ c.count ∧ waitingSeek.bayA.job = none ∧
      waitingSeek.bayA.flush = none ∧ waitingSeek.bayA.reassign = none ∧ waitingSeek.bayA.format = none ∧
      waitingSeek.bayA.cart.eject = none ∧ waitingSeek.bayA.power.mode ≠ .active ∧
      { waitingSeek.bayA with slot := none }.rests = true ∧ waitingSeek.visiting .bayA = false ∧
      waitingSeek.chan.waiter ≠ some .bayA ∧ waitingSeek.link.outFrame = none ∧ waitingSeek.staging = none ∧
      (∀ d ∈ waitingSeek.link.queue, d.isReportOf (.bay .bayA) = false) :=
  ⟨by decide, by decide, _, by decide, by decide, rfl, by decide⟩

/-- Bay A with a spindle in a state, the counter at 0 and a revolution open or not. -/
def spindleIn (st : SpinState) (revolution : Bool) : State := withA fun x => { x with
  spindle := { x.spindle with state := st, counter := 0, watchOpen := false, revolutionOpen := revolution, inRun := 3, purgeRemaining := 5 } }

theorem kept_regulating : (spindleIn .regulating false).allowanceKept ∧ (spindleIn .regulating true).allowanceKept :=
  ⟨⟨fun b => by cases b <;> decide, fun b => by cases b <;> decide, by decide, by decide⟩,
    ⟨fun b => by cases b <;> decide, fun b => by cases b <;> decide, by decide, by decide⟩⟩

theorem kept_atSpeed : (spindleIn .atSpeed true).allowanceKept :=
  ⟨fun b => by cases b <;> decide, fun b => by cases b <;> decide, by decide, by decide⟩

/-- Bay A in SPEED_FAULT after a purge, three revolutions in the window. -/
def recovering : State := withA fun x => { mounted x with
  spindle := { (mounted x).spindle with state := .speedFault, counter := 0, inRun := 3, recoveryTimer := some 1 }
  pos := x.pos, power := { (mounted x).power with mode := .parkedIdle, readiness := .loadDelay } }

theorem kept_recovering : recovering.allowanceKept :=
  ⟨fun b => by cases b <;> decide, fun b => by cases b <;> decide, by decide, by decide⟩

/-- Bay A in IDLE after two revolutions out of the window. -/
def wandering : State := withA fun x => { mounted x with spindle := { (mounted x).spindle with counter := 0, outRun := 2 } }

theorem kept_wandering : wandering.allowanceKept :=
  ⟨fun b => by cases b <;> decide, fun b => by cases b <;> decide, by decide, by decide⟩

/-- Bay A accelerates and bay B waits for the allowance. -/
def bothSpinning : State :=
  { spinningUp.modBay .bayB fun x => { x with spindle := { x.spindle with state := .waitAllowance, watchOpen := false } } with
    allowWaiter := some .bayB }

theorem witness_IndexEdgeMeasuresARevolution :
    ((spindleIn .regulating false).calm ∧ (spindleIn .regulating false).allowanceKept ∧
      (spindleIn .regulating false).bayPresent .bayA = true ∧ (spindleIn .regulating false).bayA.spindle.state.spinning = true ∧
      (spindleIn .regulating false).bayA.spindle.revolutionOpen = false) ∧
    (spinningUp.calm ∧ spinningUp.allowanceKept ∧ spinningUp.bayA.spindle.state = .accelerating ∧
      spinningUp.bayA.spindle.revolutionOpen = true ∧ spinningUp.allowWaiter = none ∧ entersRegulation 20130 = false ∧
      entersRegulation 19700 = true) ∧
    (bothSpinning.calm ∧ bothSpinning.allowanceKept ∧ bothSpinning.allowWaiter = some .bayB) ∧
    ((spindleIn .regulating true).calm ∧ (spindleIn .regulating true).allowanceKept ∧
      (spindleIn .regulating true).bayA.spindle.revolutionOpen = true ∧ inWindow 20120 = false ∧ inWindow 20119 = true ∧
      4 ≤ (spindleIn .regulating true).bayA.spindle.inRun + 1 ∧ (spindleIn .regulating true).bayA.spindle.purgeRemaining ≠ 0 ∧
      (spindleIn .regulating true).bayA.spindle.firstAtSpeed = false) ∧
    ((spindleIn .atSpeed true).calm ∧ (spindleIn .atSpeed true).allowanceKept ∧
      (spindleIn .atSpeed true).bayA.spindle.outRun + 1 < 3 ∧ (spindleIn .atSpeed true).bayA.spindle.purgeRemaining ≠ 1) ∧
    (recovering.calm ∧ recovering.allowanceKept ∧ recovering.bayA.spindle.state = .speedFault ∧
      recovering.bayA.spindle.revolutionOpen = true ∧ inWindow 20000 = true ∧ 4 ≤ recovering.bayA.spindle.inRun + 1 ∧
      recovering.bayA.spindle.firstAtSpeed = true ∧ recovering.bayA.cart.state = .mounted ∧ recovering.bayA.job = none ∧
      recovering.bayA.slot = none ∧ recovering.bayA.power.wake = none) ∧
    (wandering.calm ∧ wandering.allowanceKept ∧ wandering.readyAt .bayA tables ⟨260, 0⟩ ∧ wandering.link.inFrame = none ∧
      wandering.bayA.spindle.revolutionOpen = true ∧ outOfSpeed 20420 = true ∧ 3 ≤ wandering.bayA.spindle.outRun + 1) :=
  ⟨⟨by decide, kept_regulating.1, by decide, by decide, by decide⟩,
    ⟨by decide, kept_spinningUp, by decide⟩,
    ⟨by decide, ⟨fun b => by cases b <;> decide, fun b => by cases b <;> decide, by decide, by decide⟩, by decide⟩,
    ⟨by decide, kept_regulating.2, by decide⟩,
    ⟨by decide, kept_atSpeed, by decide⟩,
    ⟨by decide, kept_recovering, by decide⟩,
    ⟨by decide, kept_wandering, by decide⟩⟩

theorem witness_IndexEdgeAtRestBrakes : State.reset.calm ∧ State.reset.bayA.spindle.state = .stopped ∧
    (spindleIn .stopped false).calm ∧ (spindleIn .stopped false).bayA.spindle.state = .stopped ∧
    (spindleIn .waitAllowance false).calm ∧ (spindleIn .waitAllowance false).bayA.spindle.state = .waitAllowance ∧
    (spindleIn .braking false).calm ∧ (spindleIn .braking false).bayA.spindle.state = .braking := by decide

/-- Bay A braking with its stop timer running. -/
def braking (pending : Option PurgeKind) : State := withA fun x => { x with
  spindle := { x.spindle with state := .braking, watchOpen := false, stopTimer := some 1, pendingStart := pending } }

theorem witness_SpindleComesToRest :
    (State.reset.calm ∧ State.reset.bayPresent .bayA = true ∧ State.reset.bayRests .bayA = true ∧
      State.reset.bayA.spindle.watchOpen = true ∧ State.reset.bayA.spindle.state = .stopped ∧
      State.reset.bayA.spindle.pendingStart = none) ∧
    ((braking none).calm ∧ (braking none).bayRests .bayA = true ∧ (braking none).bayA.spindle.stopTimer.isSome = true ∧
      (braking none).bayA.spindle.state = .braking) ∧
    ((braking (some .resume)).calm ∧ (braking (some .resume)).bayRests .bayA = true ∧
      (braking (some .resume)).bayA.spindle.pendingStart = some .resume ∧ (braking (some .resume)).allowHolder = none) ∧
    (let s := (braking none).modBay .bayA fun x => { x with
       spindle := { x.spindle with state := .spinFailed }, cart := { x.cart with state := .bayFault, cartridgeIn := true } }
     s.calm ∧ s.bayRests .bayA = true ∧ s.bayA.spindle.stopTimer.isSome = true ∧ s.bayA.spindle.state = .spinFailed) := by decide

/-- Bay A SPINNING_UP with a spindle in a state and every timer of it running. -/
def supervised (st : SpinState) : State :=
  { withA fun x => { x with
      cart := { x.cart with state := .spinningUp, lockEngaged := true }
      spindle := { x.spindle with
        state := st, watchOpen := false, firstIndexTimer := some 1, gapTimer := some 1, spinUpTimer := some 1
        recoveryTimer := some 1, brakeTimer := some 1 } } with
    allowHolder := if st = .accelerating then some .bayA else none }

theorem witness_SpindleFailureFaultsTheBay :
    ∀ st ∈ [SpinState.accelerating, .regulating, .speedFault, .braking],
      let s := supervised st
      (s.calm ∧ s.bayPresent .bayA = true ∧ s.allowWaiter = none ∧ s.bayA.slot = none ∧ s.bayA.job = none ∧
        s.bayA.format = none ∧ s.bayA.flush = none ∧ s.bayA.reassign = none ∧ s.bayA.cart.state ≠ .bayFault ∧
        s.bayA.cart.eject = none ∧ s.bayA.pos.state = .parked ∧ s.bayA.pos.seekFor = .nobody ∧
        s.bayA.pos.heldSeekOwned = false ∧ s.bayA.power.mode = .unmounted ∧ s.bayA.power.entry = none ∧
        s.bayA.tu.dirty = false ∧ (∀ r ∈ s.slots, r.owner ≠ some .bayA) ∧ s.visiting .bayA = false ∧
        s.chan.waiter ≠ some .bayA ∧ s.link.inFrame = none ∧ s.bayA.spindle.firstIndexTimer.isSome = true ∧
        s.bayA.spindle.gapTimer.isSome = true ∧ s.bayA.spindle.spinUpTimer.isSome = true ∧
        s.bayA.spindle.recoveryTimer.isSome = true ∧ s.bayA.spindle.brakeTimer.isSome = true ∧ s.bayA.spindle.state = st ∧
        (s.allowHolder = some .bayA ↔ s.bayA.spindle.state = .accelerating)) := by decide

theorem witness_SpindleFailureKeepsTheAllowance : ∀ st ∈ [SpinState.accelerating, .regulating, .speedFault, .braking],
    (supervised st).allowanceKept := by
  intro st h
  simp only [List.mem_cons, List.not_mem_nil, or_false] at h
  rcases h with rfl | rfl | rfl | rfl <;>
    exact ⟨fun b => by cases b <;> decide, fun b => by cases b <;> decide, by decide, by decide⟩

/-- Bay A with a Positioner. -/
def posIn (f : Positioner → Positioner) : State := withA fun x => { x with pos := f x.pos }

/-- Bay A with its heads away from the ramp, in a state with every timer running. -/
def away (st : PosState) : State := posIn fun p => { p with
  state := st, parked := false, target := some ⟨260, 0⟩, loadAttempts := 1, loadTimer := some 1, seekTimer := some 1
  recalTimer := some 1, unloadTimer := some 1, retractTimer := some 1 }

/-- A servo sample on a cylinder. -/
def sampleAt (cyl : BitVec 16) : ServoWord := ⟨true, false, 100, 101, cyl⟩

theorem witness_ServoSampleActsByState :
    (held.resetHeld = true ∧ held.bayPresent .bayA = true) ∧ latched.powerLoss = true ∧
    ((away .retracting).calm ∧ (away .retracting).visiting .bayA = false ∧
      (away .retracting).bayA.pos.state ∈ [PosState.parked, .unloading, .retracting, .actFault]) ∧
    ((away .loading).calm ∧ (away .loading).bayA.pos.state = .loading ∧
      (sampleOf ⟨false, false, 100, 101, 0⟩ (away .loading).bayA.pos.bias).valid = false ∧
      (sampleOf (sampleAt 0) (away .loading).bayA.pos.bias).valid = true) ∧
    ((away .seeking).calm ∧ (away .seeking).bayA.pos.state = .seeking ∧ (away .seeking).bayA.pos.target = some ⟨260, 0⟩ ∧
      (sampleOf (sampleAt 260) (away .seeking).bayA.pos.bias).valid = true ∧
      (sampleOf (sampleAt 260) (away .seeking).bayA.pos.bias).track = 260) ∧
    ((away .following).calm ∧ (away .following).bayA.pos.state = .following ∧ (away .following).visiting .bayA = false) := by
  decide

/-- A sample without sync. -/
def noSync : ServoWord := ⟨false, false, 100, 101, 260⟩

/-- A sample on cylinder 260 in the middle between the bursts. -/
def centred : ServoWord := ⟨true, false, 100, 100, 260⟩

theorem test_centred : (sampleOf centred (away .following).bayA.pos.bias).valid = true ∧
    (sampleOf centred (away .following).bayA.pos.bias).pes = 0 := by decide

/-- Bay A in CALIBRATING, with so many samples and fields of a phase, in an attempt to load. -/
def calibrating (biasPhase : Bool) (gathered fields : Nat) (sum : Int) : State :=
  (away .calibrating).modBay .bayA fun x => { x with pos := { x.pos with
    calibration := { biasPhase := biasPhase, gathered := gathered, fields := fields, sum := sum } } }

/-- The samples 8 of both phases, at the ends of their ranges, and a sample short of them. -/
theorem witness_Calibration :
    (∀ bias ∈ [false, true], let s := calibrating bias 6 62 0
      s.calm ∧ s.bayPresent .bayA = true ∧ s.visiting .bayA = false ∧ s.bayA.pos.state = .calibrating ∧
        s.bayA.pos.calibration.biasPhase = bias ∧ (sampleOf (sampleAt 5) 0).valid = true ∧
        s.bayA.pos.calibration.gathered + 1 ≠ 8 ∧ s.bayA.pos.calibration.fields + 1 < 64) ∧
    (let x := sampleOf ⟨true, false, 3, 4, 5⟩ 0
     x.sync = true ∧ x.ampA ≠ 255 ∧ x.ampB ≠ 255 ∧ 6 ≤ ((41 : Int) + (x.ampA + x.ampB : Nat)).toNat / 8 ∧
       ((40 : Int) + (x.ampA + x.ampB : Nat)).toNat / 8 < 6 ∧ (calibrating false 7 63 41).bayA.pos.calibration.gathered + 1 = 8) ∧
    (let s := calibrating true 7 63 257
     (Int.tdiv (257 + (sampleOf (sampleAt 5) 0).rawPes) 8).natAbs = 32 ∧
       (Int.tdiv (265 + (sampleOf (sampleAt 5) 0).rawPes) 8).natAbs = 33 ∧ s.bayA.pos.reloadTarget = none ∧
       s.bayA.pos.heldSeek = none ∧ s.chan.waiter ≠ some .bayA ∧ s.bayRests .bayA = true ∧ s.bayA.pos.loadAttempts < 2 ∧
       (s.profile.find? fun r => decide (Positioner.distance { s.bayA.pos with current := 5 } ⟨1, 0⟩ ≤ r.bound)).isSome = true) ∧
    (let s := calibrating false 3 63 9
     s.bayRests .bayA = true ∧ (sampleOf noSync 0).valid = false ∧ (sampleOf noSync 0).sync = false ∧
       64 ≤ s.bayA.pos.calibration.fields + 1) := by decide

/-- Bay A SETTLING with the first profile row, one sample short of its settle count, in the last try of its seek. -/
def settling : State := (away .settling).modBay .bayA fun x => { x with pos := { x.pos with
  row := State.reset.profile.head?, settleCount := ((State.reset.profile.head?.map SeekRow.settleCount).getD 0) - 1
  retryUsed := true } }

/-- Bay A FOLLOWING one wrong sample short of OFF_CYLINDER and one invalid sample short of LOST_SERVO. -/
def straying : State := (away .following).modBay .bayA fun x => { x with pos := { x.pos with wrongRun := 1, invalidRun := 3 } }

theorem witness_SeekingSettlingFollowing :
    (settling.calm ∧ settling.bayPresent .bayA = true ∧ settling.visiting .bayA = false ∧ settling.bayA.pos.state = .settling ∧
      settling.bayA.pos.target = some ⟨260, 0⟩ ∧ settling.bayA.job = none ∧ settling.bayA.slot = none ∧
      settling.bayA.power.wake = none ∧ settling.bayA.pos.heldSeek = none ∧
      (settling.bayA.pos.row.map fun r => (decide (0 < r.settleCount), decide (r.settleCount ≤ settling.bayA.pos.settleCount + 1),
        decide ((sampleOf centred 0).pes.natAbs ≤ r.window))) = some (true, true, true)) ∧
    (straying.calm ∧ straying.bayPresent .bayA = true ∧ straying.visiting .bayA = false ∧ straying.chan.waiter ≠ some .bayA ∧
      straying.bayA.pos.state = .following ∧ straying.bayA.pos.target = some ⟨260, 0⟩ ∧ 2 ≤ straying.bayA.pos.wrongRun + 1 ∧
      4 ≤ straying.bayA.pos.invalidRun + 1 ∧ (away .following).bayA.pos.wrongRun + 1 < 2 ∧
      (away .following).bayA.pos.invalidRun + 1 < 4 ∧
      (straying.profile.find? fun r => decide (Positioner.distance { straying.bayA.pos with current := 261 } ⟨260, 0⟩ ≤ r.bound)).isSome
        = true) ∧
    ((sampleOf (sampleAt 261) 0).valid = true ∧ (sampleOf (sampleAt 261) 0).track = 261 ∧ (sampleOf noSync 0).valid = false) := by
  decide

theorem witness_PositionerRetriesOnce :
    (∀ st ∈ [PosState.loading, .seeking, .recalibrating],
      (away st).calm ∧ (away st).bayPresent .bayA = true ∧ (away st).bayRests .bayA = true ∧ (away st).bayA.pos.parked = false ∧
        (away st).visiting .bayA = false ∧ (away st).chan.waiter ≠ some .bayA ∧
        (away st).bayA.pos.loadTimer.isSome = true ∧ (away st).bayA.pos.state = st ∧ (away st).bayA.pos.loadAttempts < 2 ∧
        (away st).bayA.pos.seekTimer.isSome = true ∧ (away st).bayA.pos.retryUsed = false ∧
        (away st).bayA.pos.recalTimer.isSome = true ∧ (away st).bayA.pos.reloadUsed = false) ∧
    (∀ g ∈ [false, true],
      let s := (away .recalibrating).modBay .bayA fun x => { x with pos := { x.pos with givingUp := g } }
      s.bayA.pos.givingUp = g ∧ s.bayA.pos.target = some ⟨260, 0⟩ ∧ s.bayA.job = none ∧ s.bayA.slot = none ∧
        s.bayA.power.wake = none ∧ s.bayA.pos.heldSeek = none ∧ (sampleOf centred 0).valid = true ∧
        (s.profile.find? fun r => decide (Positioner.distance { s.bayA.pos with current := 260 } ⟨260, 0⟩ ≤ r.bound)).isSome
          = true) := by decide

theorem witness_RetractFollowsUnload :
    ((away .unloading).calm ∧ (away .unloading).bayRests .bayA = true ∧ (away .unloading).bayA.pos.parked = false ∧
      (away .unloading).bayA.job = none ∧ (away .unloading).bayA.pos.unloadTimer.isSome = true ∧
      (away .unloading).bayA.pos.state = .unloading ∧ (away .unloading).bayA.pos.loadOpen = false ∧
      (away .unloading).bayA.pos.seekFor = .nobody ∧ (away .unloading).bayA.pos.heldSeek = none) ∧
    (latched.resetHeld = false ∧ latched.powerLoss = true ∧ latched.signals = [] ∧ latched.bayA.pos.retractTimer.isSome = true) ∧
    (let s := (away .retracting).modBay .bayA fun x => { x with cart := { x.cart with state := .bayFault } }
     s.resetHeld = false ∧ s.calm ∧ s.bayA.cart.state = .bayFault ∧ s.signals = [] ∧
       s.bayA.pos.retractTimer.isSome = true) := by decide

/-- Bay A RETRACTING outside BAY_FAULT, with a spindle in a state. -/
def retracting (st : SpinState) : State :=
  (away .retracting).modBay .bayA fun x => { x with spindle := { x.spindle with state := st, watchOpen := false } }

theorem witness_RetractFaultsTheBay : ∀ st ∈ [SpinState.stopped, .atSpeed],
      let s := retracting st
      s.calm ∧ s.bayPresent .bayA = true ∧ s.bayA.pos.retractTimer.isSome = true ∧ s.bayA.pos.parked = false ∧
        s.bayA.cart.state ≠ .bayFault ∧ s.bayA.cart.eject = none ∧ s.bayA.slot = none ∧ s.bayA.job = none ∧
        s.bayA.reassign = none ∧ s.bayA.flush = none ∧ s.bayA.format = none ∧ s.bayA.power.entry = none ∧
        s.bayA.tu.dirty = false ∧ (∀ r ∈ s.slots, r.owner ≠ some .bayA) ∧ s.visiting .bayA = false ∧
        s.chan.waiter ≠ some .bayA ∧ s.link.inFrame = none ∧ s.bayA.spindle.state = st := by decide

theorem witness_ParkSensorEndsTheUnload :
    (∀ st ∈ [PosState.unloading, .retracting, .loading], (away st).calm ∧ (away st).bayPresent .bayA = true ∧
      (away st).bayRests .bayA = true ∧ (away st).bayA.pos.state = st ∧ (away st).bayA.pos.pendingFault = none ∧
      (away st).bayA.pos.again = .nothing ∧ (away st).bayA.pos.heldLoad = none) ∧
    (away .loading).bayA.pos.state.loaded = true ∧
    (State.reset.calm ∧ State.reset.bayRests .bayA = true ∧ State.reset.bayA.pos.state = .parked ∧
      State.reset.bayA.job = none ∧ State.reset.bayA.pos.loadOpen = false ∧ State.reset.bayA.pos.seekFor = .nobody ∧
      State.reset.bayA.pos.heldSeek = none) ∧
    (let s := after .powerFailLatch State.reset
     s.bayPresent .bayA = true ∧ s.resetHeld = false ∧ s.powerLoss = true ∧ s.signals = [] ∧ s.bayA.pos.state = .parked) := by
  decide

theorem witness_CartridgeComesAndGoes : State.reset.calm ∧ State.reset.bayPresent .bayA = true ∧
    State.reset.bayA.cart.state = .empty ∧ (inState .released).calm ∧ (inState .released).bayA.cart.state ≠ .empty ∧
    (inState .seated).calm ∧ (inState .seated).bayA.cart.state = .seated ∧ (inState .seated).bayA.cart.startupRelease = false := by
  decide

/-- Bay A with a cartridge seated before its start-up release, the spindle at rest or still watched. -/
def owing (watch : Bool) : State := withA fun x => { x with
  spindle := { x.spindle with watchOpen := watch }
  cart := { x.cart with state := .seated, cartridgeIn := true, lockEngaged := true, startupRelease := true, settleTimer := some 9 } }

theorem witness_OwedReleaseFollows : ∀ watch ∈ [false, true], (owing watch).calm ∧ (owing watch).bayPresent .bayA = true ∧
    (owing watch).bayA.cart.state = .seated ∧ (owing watch).bayA.cart.startupRelease = true ∧
    (owing watch).bayRests .bayA = true ∧ (owing watch).bayA.pos.confirmedParked = true ∧
    (owing watch).bayA.spindle.atRest = !watch := by decide

/-- 05, R90 and R112: the release that a seated cartridge has put off is issued as the bay becomes EMPTY. -/
theorem test_owed_release :
    (after (.presentLost .bayA) (owing false)).bayA.cart.releasePulse = true ∧
      (after (.presentLost .bayA) (owing true)).bayA.cart.releasePulse = false ∧
      (after (.presentLost .bayA) (owing true)).bayA.cart.startupRelease = true := by decide

/-- Bay A in RELEASING, in a window, with a button's request. -/
def releasing : State := withA fun x => { x with
  spindle := { x.spindle with watchOpen := false }
  cart := { x.cart with
    state := .releasing, lockEngaged := true, lockAttempts := 1, releaseConfirm := some 1
    eject := some { source := .button, commandWaits := false, phase := .release, discarded := false } } }

theorem witness_RemovalClearsTheBay : releasing.calm ∧ releasing.bayPresent .bayA = true ∧
    releasing.bayA.cart.state = .releasing ∧ releasing.bayA.power.mode = .unmounted ∧
    (∀ e, releasing.bayA.cart.eject = some e → e.commandWaits = false) ∧ releasing.bayA.cart.startupRelease = false ∧
    (inState .released).calm ∧ (inState .released).bayA.cart.state = .released ∧
    (inState .released).bayA.cart.eject = none ∧ (inState .released).bayA.cart.startupRelease = false :=
  ⟨by decide, by decide, by decide, by decide, fun e h => by cases h; rfl, by decide⟩

theorem witness_WriteProtectDiscardsADirtyRecord :
    let s : State := { dirty with link := Link.reset }
    s.calm ∧ s.bayPresent .bayA = true ∧ s.visiting .bayA = false ∧ s.bayA.tu.dirty = true ∧ idle.calm ∧
      idle.bayA.tu.dirty = false ∧ idle.visiting .bayA = false := by decide

/-- Bay A in LOCKING after its first pulse, in its window. -/
def locking : State := withA fun x => { x with
  spindle := { x.spindle with watchOpen := false }
  cart := { x.cart with state := .locking, cartridgeIn := true, lockAttempts := 1, lockConfirm := some 1 } }

theorem witness_LockSenseConfirmsItsPulse :
    (locking.calm ∧ locking.bayPresent .bayA = true ∧ locking.bayA.cart.state = .locking ∧
      locking.bayA.cart.lockConfirm.isSome = true ∧ locking.bayA.cart.eject = none ∧ locking.autospinHigh = true ∧
      locking.bayA.spindle.state = .stopped ∧ locking.bayA.spindle.watchOpen = false ∧ locking.allowHolder = none) ∧
    ((inState .seated).calm ∧ (inState .seated).bayA.cart.state ≠ .locking) ∧
    (releasing.calm ∧ releasing.bayA.cart.state = .releasing ∧ releasing.bayA.cart.releaseConfirm.isSome = true ∧
      releasing.bayA.pos.state.loaded = false) ∧
    (∀ e, releasing.bayA.cart.eject = some e → e.commandWaits = false) ∧
    ((inState .seated).bayA.cart.state ∈ [CartState.empty, .seated, .locking, .released, .bayFault] ∧
      (inState .seated).bayA.pos.state.loaded = false) ∧
    (idle.calm ∧ idle.readyAt .bayA tables ⟨260, 0⟩ ∧ idle.bayA.tu.dirty = false ∧ idle.bayA.format = none ∧
      idle.link.inFrame = none ∧ ∀ r ∈ idle.slots, r.owner ≠ some .bayA) :=
  ⟨by decide, by decide, by decide, fun e h => by cases h; rfl, by decide, by decide⟩

theorem witness_EjectButtonActsByState :
    (let s := after (.prevent .bayA) idle
     s.calm ∧ s.bayPresent .bayA = true ∧ s.bayA.cart.buttonDown = false ∧ s.bayA.cart.preventRemoval = true ∧
       (after (.ejectButtonPress ⟨.bayA, true⟩) s).calm ∧
       (after (.ejectButtonPress ⟨.bayA, true⟩) s).bayA.cart.buttonDown = true) ∧
    (∀ s ∈ [releasing, State.reset, inState .seated, inState .released],
      s.bayA.cart.buttonDown = false ∧ s.bayA.cart.preventRemoval = false) ∧
    (releasing.calm ∧ releasing.bayA.cart.preventRemoval = false ∧ releasing.bayA.cart.eject.isSome = true) ∧
    (State.reset.calm ∧ State.reset.bayA.cart.preventRemoval = false ∧ State.reset.bayA.cart.eject = none ∧
      State.reset.bayA.cart.state = .empty) ∧
    ((inState .seated).calm ∧ (inState .seated).bayA.cart.eject = none ∧ (inState .seated).bayA.cart.state = .seated) ∧
    ((inState .released).calm ∧ (inState .released).bayA.cart.eject = none ∧ (inState .released).bayA.cart.state = .released ∧
      (inState .released).bayA.cart.lockEngaged = false) :=
  ⟨by decide, by decide, by decide, by decide, by decide, by decide⟩

theorem witness_CartridgeTimersDriveThePulses :
    (let s := after (.presentAccepted .bayA) State.reset
     s.calm ∧ s.bayPresent .bayA = true ∧ s.bayA.cart.settleTimer.isSome = true ∧ s.bayA.cart.state = .seated ∧
       s.bayA.cart.lockEngaged = false) ∧
    (locking.calm ∧ locking.bayA.cart.lockConfirm.isSome = true ∧ locking.bayA.cart.state = .locking ∧
      locking.bayA.cart.eject = none ∧ locking.bayA.cart.lockAttempts < 2 ∧ locking.bayA.cart.lockEngaged = false) ∧
    (releasing.calm ∧ releasing.bayA.cart.releaseConfirm.isSome = true ∧ releasing.bayA.cart.state = .releasing ∧
      releasing.bayA.cart.lockAttempts < 2 ∧ releasing.bayA.cart.lockEngaged = true ∧ releasing.bayA.pos.state = .parked ∧
      releasing.bayA.spindle.state = .stopped ∧ releasing.bayA.spindle.watchOpen = false ∧ releasing.bayA.slot = none ∧
      releasing.bayA.job = none ∧ releasing.bayA.power.entry = none ∧ releasing.link.inFrame = none ∧
      releasing.visiting .bayA = false ∧ releasing.chan.waiter ≠ some .bayA) := by decide

theorem witness_IdleBaysUnloadAndFaultsFlash :
    (idle.calm ∧ idle.bayPresent .bayA = true ∧ idle.readyAt .bayA tables ⟨260, 0⟩ ∧ idle.link.inFrame = none ∧
      idle.bayA.power.unloadTimer.isSome = true ∧ idle.bayA.power.standbyTimer ≠ some 0) ∧
    (let s := idle.modBay .bayA fun x => { x with power := { x.power with standbyTimer := some 0 } }
     s.calm ∧ s.bayPresent .bayA = true ∧ s.bayA.power.unloadTimer.isSome = true ∧ s.bayA.power.standbyTimer = some 0) ∧
    (parkedIdle.calm ∧ parkedIdle.bayA.power.mode = .parkedIdle ∧ parkedIdle.bayA.slot = none ∧
      parkedIdle.bayA.power.entry = none ∧ parkedIdle.bayA.power.wake = none ∧
      parkedIdle.bayA.power.unloadTimer.isSome = true ∧ parkedIdle.bayA.power.standbyTimer ≠ some 0) ∧
    ((inState .bayFault).calm ∧ (inState .bayFault).bayA.cart.state = .bayFault) :=
  ⟨by decide, by decide, by decide, by decide⟩

/-- The ID field of a sector as the heads read it. -/
def rawId (x : IdField) : BitVec 48 := BitVec.ofNat 48 (beNat (withCrc (beBytes 2 x.cyl ++
  [BitVec.ofNat 8 (x.head * 128 + (if x.spareArea then 64 else 0) + x.ps), BitVec.ofNat 8 x.zone])))

/-- A WRITE whose sector the channel seeks, its slot FULL. -/
def writing : State :=
  let s := visiting .searching false { readJob with kind := .mediaWrite, slots := [] }
    (some { readCmd with op := .write })
  { s with slots := { (SlotRec.taken .bayA .hostData (some 15010)) with state := .full } :: s.slots.drop 1 }

theorem witness_IdSearchFindsItsSector :
    (let s := visiting .searching false readJob (some readCmd)
     s.calm ∧ s.chan.visit = some (visitOf .searching .mediaRead) ∧ s.bayA.job = some readJob ∧
       goodId (rawId readJob.sector.wanted) = some readJob.sector.wanted ∧ readJob.kind.writes = false ∧
       (let other : IdField := { readJob.sector.wanted with ps := 3 }
        goodId (rawId other) = some other ∧ other ≠ readJob.sector.wanted ∧ other.cyl = readJob.sector.addr.cyl) ∧
       goodId (rawId readJob.sector.wanted + 1) = none ∧ readJob.kind ≠ .formatTrack ∧
       (visitOf .searching .mediaRead).ending = false ∧ readJob.tries + 1 < s.jobTries .bayA readJob ∧
       s.bayA.slot = some readCmd ∧ readCmd.stop = none ∧ s.bayA.flush = none) ∧
    (∃ j k, writing.calm ∧ writing.chan.visit = some (visitOf .searching .mediaWrite) ∧ writing.bayA.job = some j ∧
      j.kind.writes = true ∧ writing.bayA.cart.wpProtected = false ∧ writing.gateAllowed .bayA j.sector.track = true ∧
      writing.jobSlot .bayA j = some k) :=
  ⟨by decide +kernel, _, _, by decide, by decide, rfl, by decide, by decide, by decide, rfl⟩

/-- The first sector of the record in hand, with its four slots. -/
def recordJob (kind : JobKind) : Job :=
  { kind := kind, sector := recordSector 0, stage := .atTrack, tries := 0, matched := true, fieldRead := false,
    slots := [0, 1, 2, 3] }

/-- A visit to the system track for it. -/
def recordVisit (kind : JobKind) (phase : VisitPhase) : Visit := { visitOf phase kind with track := systemTrack }

/-- Bay A on the system track with a sector of the record in a visit. -/
def atRecord (kind : JobKind) (phase : VisitPhase) (st : CartState) (f : Option Flush) : State :=
  { withA fun x => { mounted x with
      pos := { (mounted x).pos with target := some systemTrack, current := 0 }
      cart := { (mounted x).cart with state := st }
      power := { x.power with mode := .unmounted }
      job := some (recordJob kind), flush := f } with
    chan := channelOf (recordVisit kind phase) (phase == .writing)
    slots := List.replicate 12 (SlotRec.taken .bayA (.recordPart 0) none) }

/-- Bay A at the last block of a command of one block, its slot 0 the one slot it holds. -/
def lastBlock (c : Cmd) (kind : JobKind) (phase : VisitPhase) (purpose : Purpose) : State :=
  { visiting phase (phase == .writing) { readJob with kind := kind } (some c) with
    slots := SlotRec.taken .bayA purpose (some 15010) :: List.replicate 11 SlotRec.free }

/-- A WRITE whose bay holds its six slots, the first being written. -/
def atQuota : State :=
  { lastBlock { Cmd.fresh .write 15010 9 Dmt.reset.caps with received := 6 } .mediaWrite .writing .hostData with
    slots := List.replicate 6 (SlotRec.taken .bayA .hostData (some 15010)) ++ List.replicate 6 SlotRec.free }

/-- 06, R116: the first payload byte of a seventh frame waits on the lines, and LACK rises in the event that frees a slot. -/
theorem test_held_byte_is_taken_when_a_slot_is_freed :
    let s := strobes atQuota [some (line 2), none, some (line 0x0A), none, some (line 2), none, some (line 0), none, some (line 5)]
    (s.linkLines.lack = false ∧ s.link.timer = none ∧ s.link.inFrame.bind InFrame.held = some (line 5)) ∧
      (let t := after .dataFieldWritten s
       t.linkLines.lack = true ∧ t.link.inFrame.bind InFrame.slot = some 0) := by decide +kernel

/-- A flush that writes. -/
def flushing : Flush := { requester := .unmount, writing := true, generation := 1, caps := Dmt.reset.caps, stop := false }

/-- A field whose check does not agree is not delivered under a correction span of 0, whatever the decoder makes of it. -/
theorem undelivered (data : List Byte) :
    eccDelivered 0 (decodeField { data, check := ~~~ Config.dataCheck data }).1 = false := by
  have ha : (DataField.mk data (~~~ Config.dataCheck data)).agrees = false := by
    simp only [DataField.agrees, beq_eq_false_iff_ne, ne_eq]
    intro h
    have := congrArg (fun x : BitVec 48 => x.getLsbD 0) h
    simp at this
  rcases decodeField_spec (DataField.mk data (~~~ Config.dataCheck data)) with h | ⟨-, x, hb, h⟩ | ⟨-, -, h⟩
  · simp [ha] at h
  · have := (DataField.burst_spec hb).2.1
    simp only [h, eccDelivered, decide_eq_false_iff_not]
    omega
  · simp [h, eccDelivered]

/-- A field whose check agrees is delivered. -/
theorem delivered (span : Nat) (data : List Byte) :
    eccDelivered span (decodeField { data, check := Config.dataCheck data }).1 = true := by
  have h : decodeField { data, check := Config.dataCheck data } = _ := decodeField_dataField data
  rw [h]
  rfl

/-- 11, R188: a record sector of a flush counts as recovered when it is written on a try after the first. -/
theorem test_flush_sector_counts_after_a_retry : ∀ n ∈ [0, 1],
    let s := (atRecord .recordWrite .writing .mounted (some flushing)).modBay .bayA fun y => { y with
      job := some { recordJob .recordWrite with tries := n } }
    (after .dataFieldWritten s).bayA.sense.recovered = n := by decide

/-- The record of the test tables. -/
def image : List Byte := recordImage tables 5

/-- Bay A with the last sector of a record in a visit, the slots 0 to 3 FULL with the parts of an image. -/
def atLastSector (kind : JobKind) (phase : VisitPhase) (img : List Byte) (f : Bay → Bay) : State :=
  { withA fun x => f { mounted x with
      pos := { (mounted x).pos with target := some systemTrack, current := 0 }
      tu := { (mounted x).tu with dirty := true }
      job := some { recordJob kind with sector := recordSector 3 } } with
    chan := channelOf (recordVisit kind phase) (phase == .writing)
    slots := (List.range 4).map (fun k => { SlotRec.taken .bayA (.recordPart k) none with state := .full, data := recordPartOf img k })
      ++ List.replicate 8 SlotRec.free }

/-- The last sector of a mount's record. -/
def mountEnds (img : List Byte) : State := atLastSector .recordRead .reading img fun x => { x with
  cart := { x.cart with state := .mounting }, tu := Translation.reset, power := Power.reset }

set_option maxRecDepth 20000 in
theorem test_image : recordDetail image = .none ∧ (recordTables image).generation = 5 ∧
    (recordTables image).capacity = 30714 := by decide +kernel

set_option maxRecDepth 20000 in
theorem witness_LastRecordSectorOfAMount : ∀ x ∈ [(image, MountDetail.none), (List.replicate 2048 0, .signature)],
    let s := mountEnds x.1
    let j : Job := { recordJob .recordRead with sector := recordSector 3 }
    s.calm ∧ s.chan.visit = some (recordVisit .recordRead .reading) ∧ s.bayA.job = some j ∧ j.slots.length = 4 ∧
      j.slots[3]? = some 3 ∧ j.tries = 0 ∧ s.bayA.pos.on systemTrack = true ∧ s.bayA.power.wake = none ∧
      s.chan.holder = some .bayA ∧ s.chan.waiter = none ∧ s.link.inFrame = none ∧ s.bayA.cart.state = .mounting ∧
      s.bayA.cart.eject = none ∧ s.bayA.slot = none ∧ s.bayA.power.mode = .unmounted ∧ s.bayA.power.entry = none ∧
      s.bayA.pos.heldSeek = none ∧
      (s.profile.find? fun r => decide (s.bayA.pos.distance { cyl := 1, head := 0 } ≤ r.bound)).isSome = true ∧
      recordDetail (j.slots.flatMap fun i => ((s.slots.set 3 { (s.slotRec 3) with data := recordPartOf x.1 3 }).getD i
        SlotRec.free).data) = x.2 := by decide +kernel

theorem witness_LastTryOfAMountFails :
    let j : Job := { recordJob .recordRead with sector := recordSector 3, tries := 15 }
    let s := (mountEnds image).modBay .bayA fun y => { y with
      job := some j, cart := { y.cart with mountCaps := { y.cart.mountCaps with correctionSpan := 0 } } }
    s.calm ∧ s.chan.visit = some (recordVisit .recordRead .reading) ∧ s.bayA.job = some j ∧ s.bayA.cart.state = .mounting ∧
      s.bayA.cart.eject = none ∧ s.bayA.slot = none ∧ s.bayA.power.mode = .unmounted ∧ s.bayA.power.entry = none ∧
      s.bayA.power.wake = none ∧ s.bayA.pos.on systemTrack = true ∧ s.bayA.pos.heldSeek = none ∧ s.chan.holder = some .bayA ∧ s.chan.waiter = none ∧ s.link.inFrame = none ∧
      (s.jobCaps .bayA j).correctionSpan = 0 ∧ s.jobTries .bayA j ≤ j.tries + 1 := by decide

/-- The flush for a requester. -/
def flushFor (r : FlushFor) : Flush := { flushing with requester := r }

/-- A FLUSH RECORD that works. -/
def flushCmd : Cmd := Cmd.fresh .flushRecord 0 0 Dmt.reset.caps

/-- A standby entry in its flush. -/
def flushEntry : StandbyEntry := { source := .timer, startMode := .idle, phase := .flush }

/-- A request of the button in its flush. -/
def flushEject : Eject := { source := .button, commandWaits := false, phase := .flush, discarded := false }

theorem witness_LastRecordSectorOfAFlush :
    ∀ x ∈ [(FlushFor.flushRecord, CartState.mounted, PowerMode.active, some flushCmd, (none : Option StandbyEntry), (none : Option Eject)),
        (.standby, .mounted, .idle, none, some flushEntry, none),
        (.unmount, .unmounting, .unmounted, none, none, some flushEject)],
      let s := atLastSector .recordWrite .writing image fun y => { y with
        flush := some (flushFor x.1), slot := x.2.2.2.1, cart := { y.cart with state := x.2.1, eject := x.2.2.2.2.2 }
        power := { y.power with mode := x.2.2.1, entry := x.2.2.2.2.1, readiness := x.2.2.1.readiness } }
      let j : Job := { recordJob .recordWrite with sector := recordSector 3 }
      s.calm ∧ s.chan.visit = some (recordVisit .recordWrite .writing) ∧ s.bayA.job = some j ∧ j.slots[3]? = some 3 ∧
        s.bayA.pos.on systemTrack = true ∧ s.bayA.power.wake = none ∧ s.chan.holder = some .bayA ∧ s.chan.waiter = none ∧
        s.link.inFrame = none ∧ s.bayA.flush = some (flushFor x.1) ∧ (flushFor x.1).writing = true ∧
        (flushFor x.1).stop = false ∧ s.bayA.tu.tables = some tables ∧ (s.slotRec 3).isRecordPart = true ∧
        s.bayA.format = none ∧ s.bayA.reassign = none ∧ s.bayA.pos.parked = false ∧ flushCmd.wait = .working ∧
        flushCmd.stop = none ∧ flushCmd.result = none ∧ flushCmd.silent = false ∧
        (∀ d ∈ s.link.queue, Desc.isReportOf (.bay .bayA) d = false) ∧ s.link.outFrame = none ∧
        (s.staging.map fun x => x.target) ≠ some (.bay .bayA) := by decide +kernel

/-- Bay A with a locked cartridge, in a cartridge state. -/
def lockedIn (c : CartState) (f : Bay → Bay) : State := withA fun x => f { x with
  cart := { x.cart with state := c, cartridgeIn := true, lockEngaged := true }, spindle := { x.spindle with watchOpen := false } }

/-- The sector operation of a mount's record read, at a stage. -/
def mountJob (st : Stage) : Job := { recordJob .recordRead with stage := st, slots := [] }

/-- Heads over the system track. -/
def overSystem (x : Bay) : Bay := { x with
  pos := { (mounted x).pos with target := some systemTrack, current := 0 }, spindle := (mounted x).spindle }

theorem witness_EjectButtonOpensARequest :
    (∀ s ∈ [lockedIn .formatting id, lockedIn .locking id, lockedIn .unmounting id, lockedIn .releasing id,
        lockedIn .mounting fun x => { overSystem x with job := some (mountJob .atTrack) },
        lockedIn .mounting fun x => { overSystem x with job := some (mountJob .seeking) },
        lockedIn .unformatted overSystem, lockedIn .bayFault id,
        lockedIn .bayFault fun x => { x with spindle := { x.spindle with state := .braking } },
        lockedIn .spinningUp fun x => { x with spindle := { x.spindle with state := .regulating } }],
      s.calm ∧ s.bayPresent .bayA = true ∧ s.bayA.cart.buttonDown = false ∧ s.bayA.cart.preventRemoval = false ∧
        s.bayA.cart.eject = none ∧ s.bayA.slot = none ∧ s.bayA.power.entry = none ∧ s.bayA.power.wake = none ∧
        s.bayA.flush = none ∧ s.bayA.tu.dirty = false ∧ s.link.inFrame = none ∧ s.visiting .bayA = false ∧
        s.chan.waiter ≠ some .bayA ∧ s.bayA.power.mode = .unmounted ∧ (∀ r ∈ s.slots, r.owner ≠ some .bayA) ∧
        s.bayA.pos.rests = true) ∧
    (∀ s ∈ [lockedIn .unformatted overSystem, lockedIn .mounting fun x => { overSystem x with job := some (mountJob .seeking) }],
      s.bayA.pos.state.loaded = true ∧ s.bayA.pos.parked = false) ∧
    ((lockedIn .bayFault id).bayA.job = none ∧ (lockedIn .bayFault id).bayA.pos.confirmedParked = true ∧
      (lockedIn .bayFault id).bayA.spindle.atRest = true ∧ (lockedIn .bayFault id).bayA.cart.lockEngaged = true) ∧
    (let s := lockedIn .bayFault fun x => { x with spindle := { x.spindle with state := .braking } }
     s.bayA.spindle.atRest = false) ∧
    (idle.calm ∧ idle.readyAt .bayA tables ⟨260, 0⟩ ∧ idle.bayA.tu.dirty = false ∧ idle.link.inFrame = none ∧
      idle.bayA.cart.buttonDown = false ∧ idle.bayA.cart.preventRemoval = false) ∧
    (let s := visiting .reading false readJob (some readCmd)
     s.calm ∧ s.bayA.cart.buttonDown = false ∧ s.bayA.cart.preventRemoval = false ∧ s.bayA.cart.eject = none ∧
       s.bayA.cart.state = .mounted ∧ s.bayA.slot = some readCmd ∧ readCmd.op = .read ∧ readCmd.wait = .working ∧
       readCmd.stop = none ∧ readCmd.result = none ∧ s.chan.visit = some (visitOf .reading .mediaRead) ∧
       s.bayA.job.map (fun j => j.stage) = some .atTrack ∧ ∀ d ∈ s.link.queue, Desc.isReportOf (.bay .bayA) d = false) :=
  ⟨by decide, by decide, by decide, by decide, by decide, by decide⟩

theorem witness_SecondExpiryFaultsTheBay :
    ∀ s ∈ [lockedIn .locking fun x => { x with
          cart := { x.cart with lockAttempts := 2, lockConfirm := some 0, lockEngaged := false } },
        lockedIn .releasing fun x => { x with
          cart := { x.cart with lockAttempts := 2, releaseConfirm := some 0, eject := some { flushEject with phase := .release } } }],
      s.calm ∧ s.bayPresent .bayA = true ∧ 2 ≤ s.bayA.cart.lockAttempts ∧ s.bayA.cart.cartridgeIn = true ∧ s.bayA.slot = none ∧
        s.bayA.job = none ∧ s.bayA.format = none ∧ s.bayA.flush = none ∧ s.bayA.reassign = none ∧
        s.bayA.pos.state = .parked ∧ s.bayA.pos.seekFor = .nobody ∧ s.bayA.pos.heldSeekOwned = false ∧
        s.bayA.power.mode = .unmounted ∧ s.bayA.power.entry = none ∧ s.bayA.tu.dirty = false ∧
        (∀ r ∈ s.slots, r.owner ≠ some .bayA) ∧ s.visiting .bayA = false ∧ s.chan.waiter ≠ some .bayA ∧
        s.link.inFrame = none ∧ (s.bayA.cart.state = .locking → s.bayA.cart.lockConfirm.isSome = true ∧ s.bayA.cart.eject = none) ∧
        (s.bayA.cart.state = .releasing → s.bayA.cart.releaseConfirm.isSome = true) := by decide

theorem witness_DataFieldsMoveTheRecord :
    (let c := { readCmd with caps := { readCmd.caps with correctionSpan := 0 } }
     let s := visiting .reading false readJob (some c)
     s.calm ∧ s.chan.visit = some (visitOf .reading .mediaRead) ∧ s.bayA.job = some readJob ∧ readJob.kind ≠ .certRead ∧
       readJob.kind ≠ .formatTrack ∧ (s.jobCaps .bayA readJob).correctionSpan = 0 ∧
       (visitOf .reading .mediaRead).ending = false ∧ readJob.tries + 1 < s.jobTries .bayA readJob ∧
       s.bayA.slot = some c ∧ c.stop = none ∧ s.bayA.flush = none) ∧
    (∀ x ∈ [(JobKind.recordRead, VisitPhase.reading, CartState.mounting, (none : Option Flush)),
        (.recordWrite, .writing, .mounted, some flushing)],
      let s := atRecord x.1 x.2.1 x.2.2.1 x.2.2.2
      let v := recordVisit x.1 x.2.1
      s.calm ∧ s.chan.visit = some v ∧ s.bayA.job = some (recordJob x.1) ∧ (recordJob x.1).sector = recordSector 0 ∧
        (recordJob x.1).slots.length = 4 ∧ (recordJob x.1).slots[0]? = some 0 ∧ (recordJob x.1).tries = 0 ∧
        v.kind = (recordJob x.1).kind ∧ v.track = systemTrack ∧ v.ending = false ∧ s.bayA.pos.on systemTrack = true ∧
        s.link.inFrame = none ∧ s.bayA.power.entry = none ∧ v.phase = x.2.1 ∧ s.bayA.cart.state = x.2.2.1 ∧
        s.bayA.flush = x.2.2.2 ∧ s.bayA.flushStopped flushing = false ∧ (s.slotRec 0).isRecordPart = true) := by
  decide

theorem witness_LastBlocks : ∀ x ∈ [(CmdOp.read, JobKind.mediaRead, VisitPhase.reading, Purpose.mediaData),
      (.verify, .mediaVerify, .reading, .mediaData), (.write, .mediaWrite, .writing, .hostData)],
    let c := Cmd.fresh x.1 15010 1 Dmt.reset.caps
    let j : Job := { readJob with kind := x.2.1 }
    let v := visitOf x.2.2.1 x.2.1
    let s := lastBlock c x.2.1 x.2.2.1 x.2.2.2
    s.calm ∧ s.chan.visit = some v ∧ s.bayA.job = some j ∧ s.LastBlock v j c 0 ∧
      (s.slotRec 0).purpose = some x.2.2.2 ∧ s.link.queue.length + s.link.reservations ≤ Config.dataInRoom := by
  intro x h
  simp only [List.mem_cons, List.not_mem_nil, or_false] at h
  rcases h with rfl | rfl | rfl <;>
    exact ⟨by decide, rfl, rfl, ⟨rfl, by decide, rfl, rfl, by decide, by decide, by decide, by decide, by decide, by decide,
      by decide, by decide, by decide⟩, by decide, by decide⟩

/-- FORMAT on the last head of a cylinder of one head. -/
def formatting : State :=
  let f : Format := {
    heads := 1, certify := false, zones := tables.zones, defects := [], phase := .tracks, cyl := 260, head := 0, ps := 0
    certRun := false, recordWritten := false, newTables := none }
  let s := visiting .formatWriting true { readJob with kind := .formatTrack, slots := [] }
    (some (Cmd.fresh (.format 1 false false false) 0 0 Dmt.reset.caps))
  s.modBay .bayA fun x => { x with
    cart := { x.cart with state := .formatting }, format := some f, tu := Translation.reset
    power := Power.reset }

theorem witness_FormatGoesFromTrackToTrack :
    (∃ j f f' row, formatting.calm ∧ formatting.chan.visit = some (visitOf .formatWriting .formatTrack) ∧
      formatting.bayA.job = some j ∧ j.kind = .formatTrack ∧ formatting.bayA.format = some f ∧ f.nextTrack = some f' ∧
      formatting.bayA.stopped = false ∧ formatting.bayA.cart.state = .formatting ∧ formatting.bayA.power.entry = none ∧
      formatting.link.inFrame = none ∧ formatting.chan.holder = some .bayA ∧ formatting.chan.waiter = none ∧
      formatting.bayA.pos.state = .following ∧ formatting.bayA.pos.target = some ⟨260, 0⟩ ∧
      (260 : Nat) ≠ (f'.sectorAt f'.place).addr.cyl ∧
      formatting.profile.find? (fun r => decide (formatting.bayA.pos.distance (f'.sectorAt f'.place).track ≤ r.bound)) =
        some row) ∧
    (let s := visiting .formatWait false { readJob with kind := .formatTrack, slots := [] } none
     s.calm ∧ s.chan.visit = some (visitOf .formatWait .formatTrack) ∧ s.bayA.job.isSome = true) :=
  ⟨⟨_, _, _, _, by decide, by decide, rfl, by decide, rfl, rfl, by decide, by decide, by decide, by decide, by decide,
    by decide, by decide, by decide, by decide, rfl⟩, by decide⟩

theorem witness_SlotNumbersInvertSlotAddresses : 0 < 2 ∧ (tables.zone 1).spare ≤ (tables.zone 1).last ∧
    103 < (tables.zone 1).pool 2 ∧ (tables.zone 1).isSpare 400 = true ∧ (tables.zone 1).isSpare 399 = true ∧
    25 ≤ (tables.zone 1).spt := by decide

theorem witness_InsertionKeepsTheMapAscending :
    let e : DefectEntry := ⟨⟨360, 0, 14⟩, .remapped, .grown, some 4⟩
    tables.map.Pairwise (fun x y => x.addr.before y.addr = true) ∧ (∀ x ∈ tables.map, x.addr ≠ e.addr) := by decide

theorem witness_AllocationTakesTheLowestUsableSlot : 1 < tables.zones.length ∧
    candidate 2 (tables.zone 1) tables.map = some 4 ∧
    candidate 2 { tables.zone 1 with ptr := 104 } tables.map = none := by decide

/-- The bits of a field of zeros are those of its check. -/
theorem zeros_bits (c : BitVec 48) : (DataField.mk (List.replicate 512 0) c).bits = c.toNat := by
  have : beNat (List.replicate 512 0) = 0 := by decide +kernel
  rw [DataField.bits, this, Nat.zero_mul, Nat.zero_add]

theorem zeros_ofBits (c : BitVec 48) : DataField.ofBits c.toNat = { data := List.replicate 512 0, check := c } := by
  have h0 : c.toNat / 2 ^ 48 = 0 := Nat.div_eq_of_lt c.isLt
  have h1 : beBytes 512 0 = List.replicate 512 0 := by decide +kernel
  simp only [DataField.ofBits, h0, h1, BitVec.ofNat_toNat, BitVec.setWidth_eq]

/-- One wrong bit in the check of a recorded field is a burst that the errors form. -/
theorem witness_BurstInTheCheck :
    let c := Config.dataCheck (List.replicate 512 0)
    let f : DataField := { data := List.replicate 512 0, check := c ^^^ 1 }
    Config.dataCheck f.data ≠ f.check ∧ f.explainedBy (Burst.at 0 0) = true := by
  intro c f
  constructor
  · intro h
    have := congrArg (fun x : BitVec 48 => x.getLsbD 0) (show c = c ^^^ 1 from h)
    simp at this
  · have hs : (Burst.at 0 0).span = 1 := by decide
    have hc : f.corrected (Burst.at 0 0) = dataField (List.replicate 512 0) := by
      have : f.bits ^^^ 1 = c.toNat := by
        rw [zeros_bits]; simp
      simp only [DataField.corrected, Burst.at, Nat.mul_zero, Nat.zero_add, Nat.shiftLeft_zero, this, zeros_ofBits]; rfl
    rw [DataField.explainedBy, hc, hs]
    exact Bool.and_eq_true_iff.2 ⟨by decide, beq_self_eq_true _⟩

theorem witness_RecordedIdFieldsReadBack : crc16 ([] ++ [0xFF, 0xFF]) = 0 ∧
    (let x : IdField := ⟨1535, 1, 39, 15, true⟩
     x.cyl < 65536 ∧ x.head < 2 ∧ x.ps < 64 ∧ x.zone < 16) := by decide
end Sys2Proof.Tests
end

/-! The CRC-16, ID fields and data fields as they are recorded (O60). -/

namespace Sys2Proof.Machine

/-! ## The CRC-16 of R9 -/

/-- One bit of the CRC doubles a register whose top bit is clear. -/
theorem crcBit_of_lt {c : Nat} (h : c < 32768) : crcBit c = c * 2 := by
  simp [crcBit, Nat.not_le.2 h]

/-- One bit of the CRC on a register whose top bit is set feeds the generator in. -/
theorem crcBit_of_le {c : Nat} (h : 32768 ≤ c) : crcBit c = ((c * 2) % 65536) ^^^ 0x1021 := by
  simp [crcBit, h]

theorem crcBit_lt {c : Nat} (h : c < 65536) : crcBit c < 65536 := by
  rcases Nat.lt_or_ge c 32768 with hc | hc
  · rw [crcBit_of_lt hc]
    omega
  · rw [crcBit_of_le hc]
    exact Nat.xor_lt_two_pow (n := 16) (by omega) (by decide)

/-- The low bit of the register shows whether the generator was fed in. -/
theorem crcBit_mod_two (c : Nat) : crcBit c % 2 = if 32768 ≤ c then 1 else 0 := by
  rcases Nat.lt_or_ge c 32768 with hc | hc
  · rw [crcBit_of_lt hc, if_neg (by omega)]
    omega
  · rw [crcBit_of_le hc, if_pos hc, Nat.xor_mod_two_eq]
    omega

/-- One bit of the CRC loses nothing of a 16-bit register. -/
theorem crcBit_inj {x y : Nat} (hx : x < 65536) (hy : y < 65536) (h : crcBit x = crcBit y) : x = y := by
  have hlow : crcBit x % 2 = crcBit y % 2 := by rw [h]
  rw [crcBit_mod_two, crcBit_mod_two] at hlow
  rcases Nat.lt_or_ge x 32768 with hx' | hx' <;> rcases Nat.lt_or_ge y 32768 with hy' | hy'
  · rw [crcBit_of_lt hx', crcBit_of_lt hy'] at h
    omega
  · simp [Nat.not_le.2 hx', hy'] at hlow
  · simp [Nat.not_le.2 hy', hx'] at hlow
  · rw [crcBit_of_le hx', crcBit_of_le hy', Nat.xor_left_inj] at h
    omega

theorem crcBit_iterate_lt (n : Nat) {c : Nat} (h : c < 65536) : crcBit^[n] c < 65536 := by
  induction n with
  | zero => exact h
  | succ n ih =>
    rw [Function.iterate_succ_apply']
    exact crcBit_lt ih

theorem crcBit_iterate_inj (n : Nat) {x y : Nat} (hx : x < 65536) (hy : y < 65536) : crcBit^[n] x = crcBit^[n] y ↔ x = y := by
  refine ⟨fun h => ?_, fun h => by rw [h]⟩
  induction n with
  | zero => exact h
  | succ n ih =>
    rw [Function.iterate_succ_apply', Function.iterate_succ_apply'] at h
    exact ih (crcBit_inj (crcBit_iterate_lt n hx) (crcBit_iterate_lt n hy) h)

/-- Bits of the CRC shift a register as long as nothing leaves it at the top. -/
theorem crcBit_iterate_shift (n : Nat) {x : Nat} (h : x * 2 ^ n < 65536) : crcBit^[n] x = x * 2 ^ n := by
  induction n with
  | zero => simp
  | succ n ih =>
    have hpow : x * 2 ^ (n + 1) = x * 2 ^ n * 2 := by ring
    rw [Function.iterate_succ_apply', ih (by omega), crcBit_of_lt (by omega), hpow]

/-- One byte of the CRC is eight bits on the register with the byte in its high half (R9). -/
theorem crcByte_eq_iterate (c : Nat) (byte : Byte) : crcByte c byte = crcBit^[8] (c ^^^ (byte.toNat * 256)) := by
  simp only [crcByte, Function.iterate_succ, Function.iterate_zero, Function.comp_apply, id_eq]

theorem xor_byte_lt {c : Nat} (h : c < 65536) (byte : Byte) : c ^^^ (byte.toNat * 256) < 65536 :=
  Nat.xor_lt_two_pow (n := 16) h (by have := byte.isLt; omega)

theorem crcByte_lt {c : Nat} (h : c < 65536) (byte : Byte) : crcByte c byte < 65536 := by
  rw [crcByte_eq_iterate]
  exact crcBit_iterate_lt 8 (xor_byte_lt h byte)

theorem crc16_lt (bytes : List Byte) : crc16 bytes < 65536 :=
  List.foldlRecOn bytes crcByte (motive := fun c => c < 65536) (by decide) fun _ h byte _ => crcByte_lt h byte

theorem crc16_append_two (bytes : List Byte) (hi lo : Byte) :
    crc16 (bytes ++ [hi, lo]) = crcByte (crcByte (crc16 bytes) hi) lo := by
  simp [crc16]

/-- The high byte of a number folded onto it leaves its low byte. -/
theorem xor_high_byte {hi lo : Nat} (h : lo < 256) : (hi * 256 + lo) ^^^ (hi * 256) = lo := by
  have hdiv : ((hi * 256 + lo) ^^^ (hi * 256)) / 2 ^ 8 = 0 := by
    rw [Nat.xor_div_two_pow, Nat.xor_eq_zero_iff]
    omega
  have hmod : ((hi * 256 + lo) ^^^ (hi * 256)) % 2 ^ 8 = lo := by
    rw [Nat.xor_mod_two_pow, show (hi * 256 + lo) % 2 ^ 8 = lo by omega, show hi * 256 % 2 ^ 8 = 0 by omega, Nat.xor_zero]
  omega

theorem xor_high_byte_eq_iff {c hi lo : Nat} (h : lo < 256) : c ^^^ (hi * 256) = lo ↔ c = hi * 256 + lo := by
  have hcancel := Nat.xor_left_inj (x := c) (y := hi * 256 + lo) (z := hi * 256)
  rwa [xor_high_byte h] at hcancel

/-- A byte leaves in the high half of the register what stood alone in its low half. -/
theorem crcByte_eq_high_iff {c n : Nat} (h : c < 65536) (hn : n < 256) (byte : Byte) :
    crcByte c byte = n * 256 ↔ c = byte.toNat * 256 + n := by
  have hshift : crcBit^[8] n = n * 256 := crcBit_iterate_shift 8 (by omega)
  rw [crcByte_eq_iterate, ← hshift, crcBit_iterate_inj 8 (xor_byte_lt h byte) (by omega), xor_high_byte_eq_iff hn]

/-- The two bytes that take a register to zero are its own, and no others. -/
theorem crcByte_crcByte_eq_zero_iff {c : Nat} (h : c < 65536) (hi lo : Byte) :
    crcByte (crcByte c hi) lo = 0 ↔ c = hi.toNat * 256 + lo.toNat := by
  have hlast := crcByte_eq_high_iff (n := 0) (crcByte_lt h hi) (by decide) lo
  rw [Nat.zero_mul, Nat.add_zero] at hlast
  rw [hlast, crcByte_eq_high_iff h lo.isLt]

/-! ## Bytes and numbers -/

theorem foldl_beNat (bytes : List Byte) (acc : Nat) :
    bytes.foldl (fun acc byte => acc * 256 + byte.toNat) acc = acc * 256 ^ bytes.length + beNat bytes := by
  induction bytes generalizing acc with
  | nil => simp [beNat]
  | cons x xs ih =>
    rw [beNat, List.foldl_cons, List.foldl_cons, ih, ih (0 * 256 + x.toNat), List.length_cons]
    ring

theorem beNat_cons (x : Byte) (xs : List Byte) : beNat (x :: xs) = x.toNat * 256 ^ xs.length + beNat xs := by
  rw [beNat, List.foldl_cons, foldl_beNat, Nat.zero_mul, Nat.zero_add]

theorem beNat_lt (bytes : List Byte) : beNat bytes < 256 ^ bytes.length := by
  induction bytes with
  | nil => decide
  | cons x xs ih =>
    have hx : x.toNat + 1 ≤ 256 := x.isLt
    calc beNat (x :: xs) = x.toNat * 256 ^ xs.length + beNat xs := beNat_cons x xs
      _ < (x.toNat + 1) * 256 ^ xs.length := by rw [Nat.add_mul, Nat.one_mul]; omega
      _ ≤ 256 * 256 ^ xs.length := Nat.mul_le_mul_right _ hx
      _ = 256 ^ (x :: xs).length := by rw [List.length_cons, Nat.pow_succ']

theorem beBytes_length (n x : Nat) : (beBytes n x).length = n := by
  induction n with
  | zero => rfl
  | succ n ih => rw [beBytes, List.length_cons, ih]

/-- Bytes hold nothing above their number. -/
theorem beBytes_mul_add (n k x : Nat) : beBytes n (k * 256 ^ n + x) = beBytes n x := by
  induction n generalizing k with
  | zero => rfl
  | succ n ih =>
    have hpos : 0 < 256 ^ n := by positivity
    have hsplit : k * 256 ^ (n + 1) + x = (k * 256) * 256 ^ n + x := by ring
    have hdiv : ((k * 256) * 256 ^ n + x) / 256 ^ n = k * 256 + x / 256 ^ n := by
      rw [Nat.add_comm, Nat.add_mul_div_right _ _ hpos, Nat.add_comm]
    rw [beBytes, beBytes, hsplit, ih, hdiv]
    congr 1
    apply BitVec.eq_of_toNat_eq
    simp only [BitVec.toNat_ofNat]
    omega

/-- The bytes of the number that bytes hold are those bytes. -/
theorem beBytes_beNat (bytes : List Byte) : beBytes bytes.length (beNat bytes) = bytes := by
  induction bytes with
  | nil => rfl
  | cons x xs ih =>
    have hdiv : (x.toNat * 256 ^ xs.length + beNat xs) / 256 ^ xs.length = x.toNat := by
      rw [Nat.add_comm, Nat.add_mul_div_right _ _ (by positivity), Nat.div_eq_of_lt (beNat_lt xs), Nat.zero_add]
    rw [List.length_cons, beBytes, beNat_cons, beBytes_mul_add, ih, hdiv, BitVec.ofNat_toNat, BitVec.setWidth_eq]

/-- The number in the bytes of a number. -/
theorem beNat_beBytes (n x : Nat) : beNat (beBytes n x) = x % 256 ^ n := by
  induction n with
  | zero => simp [beBytes, beNat, Nat.mod_one]
  | succ n ih =>
    rw [beBytes, beNat_cons, beBytes_length, ih, BitVec.toNat_ofNat, Nat.pow_succ 256 n, Nat.mod_mul, Nat.mul_comm, Nat.add_comm]

theorem beBytes_two (x : Nat) : beBytes 2 x = [BitVec.ofNat 8 (x / 256), BitVec.ofNat 8 x] := by
  simp [beBytes]

/-- A CRC-16 behind a block leaves the register at zero. -/
theorem crc16_withCrc (bytes : List Byte) : crc16 (withCrc bytes) = 0 := by
  have hlt := crc16_lt bytes
  rw [withCrc, beBytes_two, crc16_append_two, crcByte_crcByte_eq_zero_iff hlt]
  simp only [BitVec.toNat_ofNat]
  omega

/-- No other two bytes behind a block do. -/
theorem eq_crc16_of_zero {bytes : List Byte} {hi lo : Byte} (h : crc16 (bytes ++ [hi, lo]) = 0) :
    [hi, lo] = beBytes 2 (crc16 bytes) := by
  rw [crc16_append_two, crcByte_crcByte_eq_zero_iff (crc16_lt bytes)] at h
  have hval : beNat [hi, lo] = crc16 bytes := by
    rw [h]
    simp [beNat]
  rw [← hval]
  exact (beBytes_beNat [hi, lo]).symm

/-! ## ID fields -/

/-- The six bytes of an ID field go on the media and come back unchanged. -/
theorem beBytes_six_beNat {bytes : List Byte} (h : bytes.length = 6) :
    beBytes 6 (BitVec.ofNat 48 (beNat bytes)).toNat = bytes := by
  have hlt := beNat_lt bytes
  rw [h] at hlt
  rw [BitVec.toNat_ofNat, Nat.mod_eq_of_lt (by omega), ← h, beBytes_beNat]

/-- Four bytes recorded with their CRC-16 are a good ID field, with the contents that they hold (R6, R9). -/
theorem goodId_withCrc (c1 c0 place zone : Byte) :
    goodId (BitVec.ofNat 48 (beNat (withCrc [c1, c0, place, zone]))) =
      some { cyl := c1.toNat * 256 + c0.toNat, head := place.toNat / 128, ps := place.toNat % 64, zone := zone.toNat % 16
             spareArea := place.toNat / 64 % 2 == 1 } := by
  have hlen : (withCrc [c1, c0, place, zone]).length = 6 := by simp [withCrc, beBytes_length]
  have hcrc : beNat (beBytes 2 (crc16 [c1, c0, place, zone])) = crc16 [c1, c0, place, zone] := by
    have hlt := crc16_lt [c1, c0, place, zone]
    rw [beNat_beBytes]
    omega
  rw [beBytes_two] at hcrc
  simp only [goodId, beBytes_six_beNat hlen]
  simp only [withCrc, beBytes_two, field, List.cons_append, List.nil_append, List.drop_succ_cons,
    List.drop_zero, List.take_succ_cons, List.take_zero, hcrc, if_true]
  simp [beNat]

/-- The byte of an ID field that holds head, area and physical sector, taken apart again (R181). -/
theorem idPlace_parts {head area ps : Nat} (hh : head < 2) (ha : area < 2) (hp : ps < 64) :
    let place := (BitVec.ofNat 8 (head * 128 + area * 64 + ps)).toNat
    place / 128 = head ∧ place / 64 % 2 = area ∧ place % 64 = ps := by
  simp only [BitVec.toNat_ofNat]
  omega

/-- An ID field recorded with its CRC reads back with its contents. -/
theorem goodId_recorded {x : IdField} (hc : x.cyl < 65536) (hh : x.head < 2) (hp : x.ps < 64) (hz : x.zone < 16) :
    goodId (BitVec.ofNat 48 (beNat (withCrc (beBytes 2 x.cyl ++
      [BitVec.ofNat 8 (x.head * 128 + (if x.spareArea then 64 else 0) + x.ps), BitVec.ofNat 8 x.zone])))) = some x := by
  obtain ⟨cyl, head, ps, zone, spareArea⟩ := x
  simp only at hc hz ⊢
  have hcyl : (BitVec.ofNat 8 (cyl / 256)).toNat * 256 + (BitVec.ofNat 8 cyl).toNat = cyl := by
    simp only [BitVec.toNat_ofNat]
    omega
  have hzone : (BitVec.ofNat 8 zone).toNat % 16 = zone := by
    simp only [BitVec.toNat_ofNat]
    omega
  have harea : (if spareArea then 64 else 0) = spareArea.toNat * 64 := by cases spareArea <;> rfl
  obtain ⟨hhead, hspare, hps⟩ := idPlace_parts (area := spareArea.toNat) hh (Bool.toNat_lt _) hp
  rw [beBytes_two, List.cons_append, List.cons_append, List.nil_append, goodId_withCrc, hcyl, hzone, harea, hhead, hps, hspare]
  cases spareArea <;> rfl

/-! ## Data fields and bursts (R7) -/

/-- A burst that the decoder can correct: up to 11 bits with the last one in error. -/
def Burst.correctable (x : Burst) : Prop := x.errors % 2 = 1 ∧ x.errors < 2 ^ 11

theorem Burst.correctable_at {place k : Nat} (hk : k < Config.burstPatterns) : (Burst.at place k).correctable := by
  unfold Config.burstPatterns at hk
  simp only [Burst.correctable, Burst.at]
  omega

/-- A correctable burst is one of the patterns that the decoder tries. -/
theorem Burst.correctable.eq_at {x : Burst} (h : x.correctable) :
    x.errors / 2 < Config.burstPatterns ∧ Burst.at x.place (x.errors / 2) = x := by
  obtain ⟨hodd, hlt⟩ := h
  obtain ⟨place, errors⟩ := x
  simp only [Config.burstPatterns, Burst.at, Burst.mk.injEq, true_and] at *
  omega

/-- The burst that the search finds is correctable. -/
theorem DataField.burst_correctable {f : DataField} {x : Burst} (h : f.burst = some x) : x.correctable := by
  obtain ⟨place, -, hp⟩ := List.exists_of_findSome?_eq_some h
  obtain ⟨k, hk, rfl⟩ := List.mem_map.1 (List.mem_of_find?_eq_some hp)
  exact Burst.correctable_at (List.mem_range.1 hk)

/-- A field whose search finds nothing is explained by no correctable burst. -/
theorem DataField.not_explainedBy_of_burst_none {f : DataField} (h : f.burst = none) {x : Burst} (hx : x.correctable) :
    f.explainedBy x = false := by
  obtain ⟨hk, hat⟩ := hx.eq_at
  rw [← hat]
  rcases Nat.lt_or_ge x.place Config.fieldBits with hp | hp
  · exact DataField.burst_none h _ _ hp hk
  · have hfar : ¬ (Burst.at x.place (x.errors / 2)).place + (Burst.at x.place (x.errors / 2)).span ≤ Config.fieldBits := by
      simp only [Burst.at, Burst.span]
      omega
    simp [DataField.explainedBy, hfar]

theorem DataField.explainedBy_iff (f : DataField) (x : Burst) :
    f.explainedBy x = true ↔ x.place + x.span ≤ Config.fieldBits ∧
      Config.dataCheck (f.corrected x).data = (f.corrected x).check := by
  simp [DataField.explainedBy, DataField.agrees]

theorem DataField.corrected_eq (f : DataField) (x : Burst) :
    f.corrected x = .ofBits ((beNat f.data * 2 ^ 48 + f.check.toNat) ^^^ (x.errors * 2 ^ x.place)) := by
  rw [DataField.corrected, DataField.bits, Nat.shiftLeft_eq]

/-- The decoder on a field whose check does not agree: the first burst that explains it, or none that does. -/
theorem decodeField_of_disagrees {f : DataField} (h : f.agrees = false) :
    ((∃ x : Burst, x.correctable ∧ f.explainedBy x = true) →
      ∃ x : Burst, (x.correctable ∧ f.explainedBy x = true) ∧
        decodeField f = (.correctable x.span, (f.corrected x).data)) ∧
    ((¬ ∃ x : Burst, x.correctable ∧ f.explainedBy x = true) → decodeField f = (.uncorrectable, f.data)) := by
  rcases decodeField_spec f with ⟨ha, -⟩ | ⟨-, x, hx, hd⟩ | ⟨-, hn, hd⟩
  · simp [h] at ha
  · have hfound : x.correctable ∧ f.explainedBy x = true := ⟨DataField.burst_correctable hx, (DataField.burst_spec hx).1⟩
    exact ⟨fun _ => ⟨x, hfound, hd⟩, fun hnone => absurd ⟨x, hfound⟩ hnone⟩
  · refine ⟨fun ⟨x, hc, he⟩ => ?_, fun _ => hd⟩
    rw [DataField.not_explainedBy_of_burst_none hn hc] at he
    cases he

theorem DataField.agrees_iff (f : DataField) : f.agrees = true ↔ Config.dataCheck f.data = f.check := by
  simp [DataField.agrees]

end Sys2Proof.Machine

namespace Sys2Proof
open Machine

/-- Settles O60: the CRC register is taken to zero by its own two bytes alone, and the decoder's search tries exactly the
correctable bursts. -/
theorem recordedIdFieldsReadBack : Obligations.RecordedIdFieldsReadBack := by
  refine ⟨crc16_withCrc, fun bytes hi lo => eq_crc16_of_zero, fun x hc hh hp hz => goodId_recorded hc hh hp hz, fun f => ?_⟩
  intro flipped inverted restores
  have hcorr : ∀ x, f.corrected x = inverted x := f.corrected_eq
  have hrest : ∀ x, restores x ↔ x.correctable ∧ f.explainedBy x = true := by
    intro x
    rw [DataField.explainedBy_iff, hcorr, Burst.correctable, and_assoc]
    rfl
  refine ⟨fun ha => ?_, fun hd => ?_⟩
  · rw [decodeField, if_pos (f.agrees_iff.2 ha)]
  · simp only [hrest, ← hcorr]
    exact decodeField_of_disagrees (Bool.eq_false_iff.2 fun h => hd (f.agrees_iff.1 h))

end Sys2Proof

/-! The ID search of a track visit (O53). -/

namespace Sys2Proof.Machine

/-! ## Data Channel events in a calm part -/

/-- Calmness does not look at the buffer slots and the Data Channel. -/
theorem State.calm.withChannel {s : State} (h : s.calm) (slots : List SlotRec) (chan : Channel) :
    ({ s with slots, chan } : State).calm := ⟨h.1, h.2.1, h.2.2⟩

/-- The Data Channel and a bay are changed in either order. -/
theorem State.modBay_withChan (s : State) (b : BayId) (f : Bay → Bay) (chan : Channel) :
    ({ s.modBay b f with chan } : State) = ({ s with chan } : State).modBay b f := by
  cases b <;> rfl

/-- An event of the Data Channel that moves slots, the channel and the sector operation of one bay ends with that. -/
theorem State.calm.conclude_visit {s : State} (h : s.calm) (b : BayId) (slots : List SlotRec) (chan : Channel) (f : Bay → Bay)
    (hf : ∀ y, (f y).power = y.power) :
    (({ s with slots, chan } : State).modBay b f).conclude = .next (({ s with slots, chan } : State).modBay b f) :=
  State.conclude_calm _ (State.calm_modBay _ b f (h.withChannel slots chan) (hf _))

/-- An update of a bay that leaves it as it is leaves the state as it is. -/
theorem State.modBay_same (s : State) (b : BayId) (f : Bay → Bay) (h : f (s.bay b) = s.bay b) : s.modBay b f = s := by
  rw [State.modBay, h]
  cases b <;> rfl

/-- The sector operation's slot is that of its kind and slots, whatever became of its IDs and tries. -/
theorem State.jobSlot_modJob (s : State) (b : BayId) (j : Job) (f : Job → Job) (matched : Bool) :
    (s.modJob b f).jobSlot b { j with matched } = s.jobSlot b j := by
  cases b <;> rfl

theorem State.modJob_eq (s : State) (b : BayId) (j : Job) (f : Job → Job) (hj : (s.bay b).job = some j) :
    s.modJob b f = s.modBay b fun y => { y with job := some (f j) } := by
  cases b <;> simp only [State.bay] at hj <;> simp [State.modJob, State.modBay, State.bay, hj]

/-- A counted try is one more of the sector in hand; the number that it has does not depend on that. -/
theorem State.countTry_spec (s : State) (b : BayId) (j : Job) (hj : (s.bay b).job = some j) :
    s.countTry b = (s.modBay b fun y => { y with job := some { j with tries := j.tries + 1 } }) ∧
      (s.countTry b).jobTries b { j with tries := j.tries + 1 } = s.jobTries b j :=
  ⟨s.modJob_eq b j _ hj, by cases b <;> rfl⟩

/-! ## The ID search (R121, R123 to R125) -/

/-- The gate's conditions met, the gate opens: the slot of the sector is DRAINING, but that of an auto-reassign (R116, R127). -/
theorem State.openGate_opens (s : State) (b : BayId) (v : Visit) (j : Job) (k : Nat) (hv : s.chan.visit = some v)
    (hj : (s.bay b).job = some j) (hp : (s.bay b).cart.wpProtected = false) (hg : s.gateAllowed b j.sector.track = true)
    (hk : s.jobSlot b j = some k) :
    s.openGate b j = ({ s with
      slots := if j.kind = .spareWrite ∧ ((s.bay b).reassign.any fun (r : Reassign) => r.auto) = true then s.slots
        else s.slots.set k { (s.slotRec k) with state := .draining }
      chan := { s.chan with gate := true, visit := some { v with phase := .writing } } } : State).modBay b fun y =>
        { y with job := some { j with slots := if j.kind = .mediaWrite then [k] else j.slots } } := by
  simp only [State.openGate, hp, hg, hk, Bool.false_eq_true, if_false, if_true]
  by_cases ha : j.kind = .spareWrite ∧ ((s.bay b).reassign.any fun (r : Reassign) => r.auto) = true
  · have hm : j.kind ≠ .mediaWrite := by rw [ha.1]; decide
    rw [if_pos ha, if_pos ha, if_neg hm, State.modBay_same]
    · simp [State.modChan, hv]
    · cases b <;> simp only [State.bay] at hj ⊢ <;> rw [← hj]
  · rw [if_neg ha, if_neg ha, State.modJob_eq _ b j _ (by cases b <;> exact hj)]
    by_cases hm : j.kind = .mediaWrite <;> cases b <;>
      simp [State.modChan, State.modBay, State.setBay, State.bay, State.modSlot, hv, hm]

/-- A good ID field that comes while the channel searches goes to `State.idField`. -/
theorem exec_idFieldRead_good {s : State} (h : s.calm) {v : Visit} {j : Job} (hv : s.chan.visit = some v)
    (hj : (s.bay v.bay).job = some j) (hs : v.phase = .searching) {raw : BitVec 48} {x : IdField} (hx : goodId raw = some x) :
    exec (.idFieldRead raw) s = (s.idField v j x).conclude := by
  show execIdFieldRead raw s = _
  rw [execIdFieldRead, State.visitEvent_taken s _ v j h.1 hv hj, hs, hx]

/-- An ID field whose CRC does not agree is no event of a visit. -/
theorem exec_idFieldRead_bad {s : State} (h : s.calm) {v : Visit} {j : Job} (hv : s.chan.visit = some v)
    (hj : (s.bay v.bay).job = some j) {raw : BitVec 48} (hx : goodId raw = none) : exec (.idFieldRead raw) s = .next s := by
  show execIdFieldRead raw s = _
  rw [execIdFieldRead, State.visitEvent_taken s _ v j h.1 hv hj, hx]
  cases v.phase <;> exact State.conclude_calm s h

/-- The wanted ID field of a sector to be read leads to its data field. -/
theorem State.idField_read (s : State) (v : Visit) (j : Job) (hv : s.chan.visit = some v) (hj : (s.bay v.bay).job = some j)
    (hr : j.kind.writes = false) :
    s.idField v j j.sector.wanted = ({ s with chan := { s.chan with
      visit := some { v with phase := .reading } } } : State).modBay v.bay fun y =>
        { y with job := some { j with matched := true } } := by
  simp only [State.idField, if_true, hr, Bool.false_eq_true, if_false, s.modJob_eq v.bay j _ hj]
  cases hb : v.bay <;> simp [State.modVisit, State.modChan, State.modBay, State.setBay, State.bay, hv, hb]

/-- The wanted ID field of a sector to be written opens the gate. -/
theorem State.idField_write (s : State) (v : Visit) (j : Job) (k : Nat) (hv : s.chan.visit = some v)
    (hj : (s.bay v.bay).job = some j) (hw : j.kind.writes = true) (hp : (s.bay v.bay).cart.wpProtected = false)
    (hg : s.gateAllowed v.bay j.sector.track = true) (hk : s.jobSlot v.bay j = some k) :
    s.idField v j j.sector.wanted = ({ s with
      slots := if j.kind = .spareWrite ∧ ((s.bay v.bay).reassign.any fun (r : Reassign) => r.auto) = true then s.slots
        else s.slots.set k { (s.slotRec k) with state := .draining }
      chan := { s.chan with gate := true, visit := some { v with phase := .writing } } } : State).modBay v.bay fun y =>
        { y with job := some { j with matched := true, slots := if j.kind = .mediaWrite then [k] else j.slots } } := by
  simp only [State.idField, if_true, hw]
  have hslot := s.jobSlot_modJob v.bay j (fun j => { j with matched := true }) true
  rw [hk] at hslot
  rw [s.modJob_eq v.bay j _ hj] at hslot ⊢
  rw [State.openGate_opens _ v.bay v { j with matched := true } k (by simpa using hv) (by simp) (by simpa using hp)
    (by rw [← hg]; cases v.bay <;> rfl) hslot]
  cases v.bay <;> rfl

/-- Another sector's ID field of the wanted cylinder is passed over. -/
theorem State.idField_other (s : State) (v : Visit) (j : Job) (x : IdField) (hx : x ≠ j.sector.wanted)
    (hc : x.cyl = j.sector.addr.cyl) : s.idField v j x = s := by
  simp [State.idField, hx, hc]

/-- A failed try with another left searches anew in the same visit. -/
theorem State.afterFailedTry_again (s : State) (b : BayId) (v : Visit) (j : Job) (hv : s.chan.visit = some v)
    (hj : (s.bay b).job = some j) (hk : j.kind ≠ .formatTrack) (he : v.ending = false) (ht : j.tries < s.jobTries b j) :
    s.afterFailedTry b = ({ s with chan := { s.chan with
      visit := some { v with phase := .searching, search := 0 } } } : State).tell (.boundary b) := by
  have hleft : ¬ s.jobTries b j ≤ j.tries := by omega
  simp [State.afterFailedTry, hj, hleft, hk, hv, he, State.modVisit, State.modChan]

/-- A search that ends with a try left counts a try and is followed by the next search (R123, R125). -/
theorem State.searchAgain (s : State) (v : Visit) (j : Job) (hv : s.chan.visit = some v) (hj : (s.bay v.bay).job = some j)
    (hs : v.phase = .searching) (hk : j.kind ≠ .formatTrack) (he : v.ending = false) (ht : j.tries + 1 < s.jobTries v.bay j) :
    (s.countTry v.bay).afterFailedTry v.bay = (({ s with chan := { s.chan with
      visit := some { v with search := 0 } } } : State).modBay v.bay fun y =>
        { y with job := some { j with tries := j.tries + 1 } }).tell (.boundary v.bay) := by
  obtain ⟨hcount, htries⟩ := s.countTry_spec v.bay j hj
  rw [State.afterFailedTry_again _ v.bay v { j with tries := j.tries + 1 } (by simpa [hcount] using hv) (by simp [hcount]) hk he
    (by rwa [htries]), hcount, State.modBay_chan, State.modBay_withChan, ← hs]

/-- The end of an ID search attempt is a failed try (R123, R125). -/
theorem exec_idSearchAttemptEnd {s : State} (h : s.calm) {v : Visit} {j : Job} (hv : s.chan.visit = some v)
    (hj : (s.bay v.bay).job = some j) (hs : v.phase = .searching) :
    exec .idSearchAttemptEnd s = ((s.countTry v.bay).afterFailedTry v.bay).conclude := by
  show execIdSearchAttemptEnd s = _
  rw [execIdSearchAttemptEnd, State.visitEvent_taken s _ v j h.1 hv hj, if_pos hs]

end Sys2Proof.Machine

namespace Sys2Proof
open Machine

/-- Settles O53, by one equation for each branch of an ID field and for the end of a search; each leaves a calm part calm. -/
theorem idSearchFindsItsSector : Obligations.IdSearchFindsItsSector := by
  intro v j s h hv hj hs
  refine ⟨fun raw x hx => ⟨?_, ?_, ?_⟩, fun raw hx => exec_idFieldRead_bad h hv hj hx, ?_⟩
  · rintro rfl hr
    rw [exec_idFieldRead_good h hv hj hs hx, s.idField_read v j hv hj hr]
    exact h.conclude_visit v.bay s.slots _ _ fun _ => rfl
  · rintro k rfl hw hp hg hk
    rw [exec_idFieldRead_good h hv hj hs hx, s.idField_write v j k hv hj hw hp hg hk]
    exact h.conclude_visit v.bay _ _ _ fun _ => rfl
  · intro hne hc
    rw [exec_idFieldRead_good h hv hj hs hx, s.idField_other v j x hne hc, State.conclude_calm s h]
  · intro hk he ht hstop hflush
    rw [exec_idSearchAttemptEnd h hv hj hs]
    rw [State.searchAgain s v j hv hj hs hk he ht]
    refine State.conclude_boundary _ v.bay (State.calm_modBay _ v.bay _ (h.withChannel s.slots _) rfl) ?_ ?_
    · cases hb : v.bay <;> rw [hb] at hstop <;> exact hstop
    · cases hb : v.bay <;> rw [hb] at hflush <;> exact hflush
end Sys2Proof

/-! The tracks of FORMAT (O55). -/

namespace Sys2Proof.Machine

/-! ## Messages that poke a resting bay -/

/-- Any number of pokes of a resting bay change nothing. -/
theorem settle_pokes (u : State) (b : BayId) (hr : ∀ m, ({ u with signals := m } : State).bayRests b = true) (k n : Nat) :
    settle (k + n) { u with signals := List.replicate k (.poke b) } = settle n { u with signals := [] } := by
  induction k with
  | zero => rw [Nat.zero_add, List.replicate_zero]
  | succ k ih => rw [Nat.succ_add, settle_cons _ _ (.poke b) (List.replicate k (.poke b)) rfl, State.deliver_poke _ _ (hr _), ih]

/-! ## A seek ends the visit (R76, R119, R120) -/

/-- Heads that leave the track between two sectors of their visit end it, with no field torn. -/
theorem State.leaveTrack_between (s : State) (b : BayId) (v : Visit) (hv : s.chan.visit = some v) (hb : v.bay = b)
    (hp : v.phase = .between) (hh : s.chan.holder = some b) (hw : s.chan.waiter = none) :
    s.leaveTrack b =
      ({ s with chan := { s.chan with holder := none, visit := none, gate := false } } : State).tell (.poke b) := by
  have hvisiting : s.visiting b = true := by simp [State.visiting, hv, hb]
  have htear : s.tearField b = s := by simp [State.tearField, State.visitPhase, hv, hb, hp]
  rw [State.leaveTrack, if_pos hvisiting, htear, s.releaseChannel_free b hh hw]
  simp [State.withdrawChannel, State.tell, hw]

/-- A seek starts with the profile row of its distance once the heads have left the track. -/
theorem State.startSeek_leaving (u w : State) (b : BayId) (t : Track) (row : SeekRow) (h : u.leaveTrack b = w)
    (hr : w.profile.find? (fun r => decide ((w.bay b).pos.distance t ≤ r.bound)) = some row) :
    u.startSeek b t = w.modPos b fun p => { p with
      state := .seeking, target := some t, head := t.head, row := some row, seekTimer := some (row.timeout * 1000)
      settleCount := 0, onTrack := false, driveDir := towards p.current t.cyl, driveMag := row.velocity } := by
  simp only [State.startSeek, h, rowFor, Positioner.distance_eq, hr]
  rfl

/-- A sector operation on another cylinder, begun between two sectors of a visit: the visit ends and the heads begin to seek. -/
theorem State.approach_between (s : State) (b : BayId) (j : Job) (at_ : Track) (row : SeekRow) (v : Visit)
    (hv : s.chan.visit = some v) (hb : v.bay = b) (hp : v.phase = .between) (hh : s.chan.holder = some b)
    (hw : s.chan.waiter = none) (hs : (s.bay b).pos.state = .following) (ht : (s.bay b).pos.target = some at_)
    (hc : at_.cyl ≠ j.sector.addr.cyl)
    (hr : s.profile.find? (fun r => decide ((s.bay b).pos.distance j.sector.track ≤ r.bound)) = some row) :
    s.approach b j = (({ s with chan := { s.chan with holder := none, visit := none, gate := false } } : State).modBay b fun y =>
      { y with job := some { j with stage := .seeking }, pos := y.pos.seekStarted j.sector.track row }).tell (.poke b) := by
  have hcyl : ¬ at_.cyl = j.sector.track.cyl := hc
  have hne : at_ ≠ j.sector.track := fun h => hcyl (congrArg Track.cyl h)
  have hon : (s.bay b).pos.on j.sector.track = false := by simp [Positioner.on, hs, ht, hne]
  have hleave : ∀ u : State, u.chan = s.chan → u.leaveTrack b =
      ({ u with chan := { u.chan with holder := none, visit := none, gate := false } } : State).tell (.poke b) := by
    intro u hu
    exact u.leaveTrack_between b v (by rw [hu, hv]) hb hp (by rw [hu, hh]) (by rw [hu, hw])
  simp only [State.approach, hon, Bool.false_eq_true, if_false, State.seekOrder, State.setJob_pos, hs, State.seekFromFollowing,
    ht, Option.some.injEq, hne, Option.map_some, hcyl, if_true]
  rw [State.startSeek_leaving _ _ b _ row (hleave _ (by cases b <;> rfl)) (by cases b <;> exact hr)]
  cases b <;> rfl

/-! ## FORMAT_TRACK_WRITTEN (R129, R153, R154) -/

/-- The sector operation with which a track is formatted. -/
abbrev Format.trackJob (f : Format) : Job := Job.start .formatTrack (f.sectorAt f.place) []

/-- The good result of a format track, its FORMAT not stopped and a track to come, goes on to that track. -/
theorem State.onSector_track (s : State) (b : BayId) (j : Job) (f f' : Format) (hj : (s.bay b).job = some j)
    (hk : j.kind = .formatTrack) (hf : (s.bay b).format = some f) (hn : f.nextTrack = some f') (hs : (s.bay b).stopped = false) :
    s.onSector b .good = ((s.setJob b none).setFormat b f').approach b f'.trackJob := by
  simp [State.onSector, hj, hk, hf, State.formatSector, State.trackWritten, hs, hn, State.formatTrack]

/-- FORMAT_TRACK_WRITTEN puts the track's image on the media, closes the gate, and reports the track. -/
theorem exec_formatTrackWritten_writing {s : State} (h : s.calm) {v : Visit} {j : Job} {f : Format} (hv : s.chan.visit = some v)
    (hj : (s.bay v.bay).job = some j) (hp : v.phase = .formatWriting) (hf : (s.bay v.bay).format = some f) :
    exec .formatTrackWritten s = ({ s with
      chan := { s.chan with
        gate := false, visit := some { v with phase := .between }, lastWritten := some f.lastField
        lastTrack := some ({ cyl := f.cyl, head := f.head }, f.trackImage) }
      signals := [.sector v.bay .good, .poke v.bay] } : State).conclude := by
  show execFormatTrackWritten s = _
  rw [execFormatTrackWritten, State.visitEvent_taken s _ v j h.1 hv hj, if_pos hp]
  simp [State.trackPut, State.endSector, State.modVisit, State.modChan, State.tell, hf, hv, h.2.1.1]

/-- An event that reports a sector and pokes its bay: the sector's operation goes on, and a bay that rests then stays as it is. -/
theorem State.conclude_sector (u w : State) (b : BayId) (r : SectorResult) (k : Nat) (hk : k ≤ 399) (hu : u.running)
    (hm : u.signals = [.sector b r, .poke b])
    (hd : ({ u with signals := [.poke b] } : State).onSector b r = { w with signals := List.replicate k (.poke b) })
    (hw : w.calm) (hr : ∀ m, ({ w with signals := m } : State).bayRests b = true) : u.conclude = .next w := by
  refine State.conclude_msgs u w hu ?_ hw
  have hdeliver : ({ u with signals := [.poke b] } : State).deliver (.sector b r) =
      { w with signals := List.replicate k (.poke b) } := hd
  show settle (399 + 1) u = w
  rw [settle_cons 399 u _ _ hm, hdeliver, show 399 = k + (399 - k) by omega, settle_pokes w b hr, settle_nil _ _ rfl,
    State.signals_same w hw.2.1.1]

/-- A bay whose own work rests rests while no frame, visit or channel request is under way. -/
theorem State.bayRests_of {s : State} {b : BayId} (hr : (s.bay b).rests = true) (hi : s.link.inFrame = none)
    (hv : s.chan.visit = none) (hw : s.chan.waiter = none) : s.bayRests b = true := by
  simp [State.bayRests, hr, hi, State.visiting, hv, hw]

/-- A FORMATTING bay whose heads seek the next track rests. -/
theorem Bay.rests_seekingTrack (y : Bay) (f : Format) (t : Track) (row : SeekRow) (hc : y.cart.state = .formatting)
    (he : y.power.entry = none) :
    ({ y with format := some f, job := some f.trackJob, pos := y.pos.seekStarted t row } : Bay).rests = true := by
  simp [Bay.rests, Positioner.rests, Positioner.seekStarted, Cartridge.rests, hc, he, Job.start, Job.asksSlots]

/-- VISIT_FIELD_COUNT_END lets a field that is under way end. -/
theorem exec_visitFieldCountEnd_field {s : State} (h : s.calm) {v : Visit} {j : Job} (hv : s.chan.visit = some v)
    (hj : (s.bay v.bay).job = some j) (hp : v.phase ∈ [.reading, .writing, .formatWriting]) :
    exec .visitFieldCountEnd s = .next { s with chan := { s.chan with visit := some { v with ending := true } } } := by
  have hend : (s.modVisit fun v => { v with ending := true }).conclude =
      .next { s with chan := { s.chan with visit := some { v with ending := true } } } := by
    simp only [State.modVisit, State.modChan, hv]
    exact State.conclude_calm _ (h.withChannel s.slots _)
  show execVisitFieldCountEnd s = _
  rw [execVisitFieldCountEnd, State.visitEvent_taken s _ v j h.1 hv hj, ← hend]
  simp only [List.mem_cons, List.not_mem_nil, or_false] at hp
  rcases hp with hp | hp | hp <;> simp only [hp]

/-- A visit that waits for servo field 0 goes on waiting at VISIT_FIELD_COUNT_END. -/
theorem exec_visitFieldCountEnd_wait {s : State} (h : s.calm) {v : Visit} {j : Job} (hv : s.chan.visit = some v)
    (hj : (s.bay v.bay).job = some j) (hp : v.phase = .formatWait) : exec .visitFieldCountEnd s = .next s := by
  show execVisitFieldCountEnd s = _
  rw [execVisitFieldCountEnd, State.visitEvent_taken s _ v j h.1 hv hj, hp]
  exact State.conclude_calm s h

end Sys2Proof.Machine

namespace Sys2Proof
open Machine

/-- Settles O55: the good result of the track goes to FORMAT, whose seek to the next track ends the visit; the two pokes that
follow find a bay that rests. -/
theorem formatGoesFromTrackToTrack : Obligations.FormatGoesFromTrackToTrack := by
  intro v j s h hv hj
  refine ⟨?_, exec_visitFieldCountEnd_field h hv hj, exec_visitFieldCountEnd_wait h hv hj⟩
  intro f f' at_ row hp hk hf hn hstop hcart hentry hin hhold hwait hpos htarget x hcyl hrow
  rw [exec_formatTrackWritten_writing h hv hj hp hf]
  generalize hb : v.bay = b at *
  refine State.conclude_sector _ _ b .good 2 (by decide) h.1 rfl ?_ ?_ ?_
  · rw [State.onSector_track _ b j f f' (by cases b <;> exact hj) hk (by cases b <;> exact hf) hn (by cases b <;> exact hstop),
      State.approach_between _ b f'.trackJob at_ row { v with bay := b, phase := .between }]
    · cases b <;> rfl
    · cases b <;> rfl
    · rfl
    · rfl
    · cases b <;> exact hhold
    · cases b <;> exact hwait
    · cases b <;> exact hpos
    · cases b <;> exact htarget
    · exact hcyl
    · cases b <;> exact hrow
  · exact State.calm_modBay _ b _ (h.withChannel s.slots _) rfl
  · intro m
    have hrests := Bay.rests_seekingTrack (s.bay b) f' x.track row hcart hentry
    exact State.bayRests_of (by cases b <;> exact hrests) (by cases b <;> exact hin) (by cases b <;> rfl)
      (by cases b <;> exact hwait)

end Sys2Proof

/-! The refusals of the media commands (O24). -/

namespace Sys2Proof.Machine

/-! ## Refusals of a media command (R133, R144, R188) -/

/-- The state after a refusal that writes the sense record: its STATUS is queued, the record names no sector, and the unit-changed
flag stands as told. -/
def State.senseRefusal (s : State) (b : BayId) (code : Byte) (r : CmdResult) (changed : Bool) : State :=
  (s.answer (.bay b) r.completion r.detail code).modBay b fun y => { y with
    cart := { y.cart with unitChanged := changed }
    sense := { y.sense with
      completion := some r.completion, detail := r.detail, command := code, lba := r.lba, addr := none, count := 0 } }

/-- A refusal with a code other than BUSY and ILLEGAL_REQUEST writes the sense record; UNIT_CHANGED clears its flag (R95). -/
theorem State.refuse_senses (s : State) (b : BayId) (code : Byte) (r : CmdResult) (hb : r.completion ≠ .busy)
    (hi : r.completion ≠ .illegalRequest) (ha : r.addr = none) :
    (s.clearUnitChanged b r).refuse b code r =
      s.senseRefusal b code r (if r.completion = .unitChanged then false else (s.bay b).cart.unitChanged) := by
  have hsense : ¬ (r.completion = .busy ∨ r.completion = .illegalRequest) := by simp [hb, hi]
  by_cases hu : r.completion = .unitChanged
  · rw [State.refuse, if_neg hsense, State.clearUnitChanged, if_pos hu, if_pos hu, State.senseRefusal, ← ha]
    cases b <;> rfl
  · rw [State.refuse, if_neg hsense, State.clearUnitChanged, if_neg hu, if_neg hu, State.senseRefusal, ← ha]
    cases b <;> rfl

theorem State.clearUnitChanged_other {r : CmdResult} (h : r.completion ≠ .unitChanged) (s : State) (b : BayId) :
    s.clearUnitChanged b r = s := by
  rw [State.clearUnitChanged, if_neg h]

/-- A refusal BUSY or ILLEGAL_REQUEST is a STATUS and nothing else. -/
theorem State.refuse_answers (s : State) (b : BayId) (code : Byte) (r : CmdResult)
    (h : r.completion = .busy ∨ r.completion = .illegalRequest) :
    s.refuse b code r = s.answer (.bay b) r.completion r.detail code := by
  rw [State.refuse, if_pos h]
  rfl

theorem State.conclude_senseRefusal (s : State) (h : s.calm) (b : BayId) (code : Byte) (r : CmdResult) (changed : Bool) :
    (s.senseRefusal b code r changed).conclude = .next (s.senseRefusal b code r changed) :=
  State.conclude_calm _ (State.calm_modBay _ b _ ⟨h.1, h.2.1, h.2.2⟩ rfl)

/-! ## Checks 1 to 3 of R134 -/

theorem State.mediaCommand_absent {s : State} {b : BayId} (hp : s.bayPresent b = false) (op : CmdOp) (lba count : Nat) :
    s.mediaCommand b op lba count = s.refuse b op.code (CmdResult.plain .illegalRequest .none) := by
  simp [State.mediaCommand, hp]

theorem State.mediaCommand_busy {s : State} {b : BayId} (hp : s.bayPresent b = true) (hs : (s.bay b).slot.isSome = true)
    (op : CmdOp) (lba count : Nat) : s.mediaCommand b op lba count = s.refuse b op.code (CmdResult.plain .busy .none) := by
  simp [State.mediaCommand, hp, hs]

theorem State.mediaCommand_empty {s : State} {b : BayId} (hp : s.bayPresent b = true) (hs : (s.bay b).slot = none)
    (he : (s.bay b).cart.state = .empty) (op : CmdOp) (lba count : Nat) :
    s.mediaCommand b op lba count = s.refuse b op.code (CmdResult.plain .noCartridge .none) := by
  simp [State.mediaCommand, hp, hs, he]

/-- A command that checks 1 to 3 let pass, and that no mount holds back, is refused by the first of the others that fails. -/
theorem State.mediaCommand_checked {s : State} {b : BayId} (hp : s.bayPresent b = true) (hs : (s.bay b).slot = none)
    (he : (s.bay b).cart.state ≠ .empty) (hm : (s.bay b).cart.state = .spinningUp → s.autospinHigh = true) {op : CmdOp}
    {lba count : Nat} {r : CmdResult} (hr : (s.bay b).mediaChecks op lba count = some r) :
    s.mediaCommand b op lba count = (s.clearUnitChanged b r).refuse b op.code r := by
  have hmount : ¬ ((s.bay b).cart.state = .spinningUp ∧ (!s.autospinHigh) = true) := by
    rintro ⟨h1, h2⟩
    simp [hm h1] at h2
  rw [State.mediaCommand, if_neg (by simp [hp]), if_neg (by simp [hs]), if_neg he, if_neg hmount, hr]

/-! ## Checks 4 to 9 of R134 -/

theorem Bay.mediaChecks_bayFault {x : Bay} (h : x.cart.state = .bayFault) (op : CmdOp) (lba count : Nat) :
    x.mediaChecks op lba count = some (CmdResult.plain .bayFault (.fault x.cart.fault)) := by
  rw [Bay.mediaChecks, h]

theorem Bay.mediaChecks_notReady {x : Bay} (op : CmdOp) (lba count : Nat)
    (h : x.cart.state ∈ [.seated, .locking, .spinningUp, .mounting, .formatting, .unmounting, .releasing, .released]) :
    x.mediaChecks op lba count = some (CmdResult.plain .notReady (.cartState x.cart.state)) := by
  unfold Bay.mediaChecks
  revert h
  cases x.cart.state <;> simp

theorem Bay.mediaChecks_unformatted {x : Bay} (h : x.cart.state = .unformatted) {op : CmdOp} (hf : op.isFormat = false)
    (lba count : Nat) : x.mediaChecks op lba count = some (CmdResult.plain .unformatted (.mount x.cart.mountDetail)) := by
  simp [Bay.mediaChecks, h, hf]

/-- A MOUNTED cartridge, and for FORMAT an UNFORMATTED one, comes to checks 7 to 9. -/
theorem Bay.mediaChecks_late {x : Bay} {op : CmdOp}
    (h : x.cart.state = .mounted ∨ x.cart.state = .unformatted ∧ op.isFormat = true) (lba count : Nat) :
    x.mediaChecks op lba count = x.lateChecks op lba count := by
  rcases h with h | ⟨h, hf⟩
  · simp [Bay.mediaChecks, h]
  · simp [Bay.mediaChecks, h, hf]

theorem Bay.lateChecks_unitChanged {x : Bay} (h : x.cart.unitChanged = true) (op : CmdOp) (lba count : Nat) :
    x.lateChecks op lba count = some (CmdResult.plain .unitChanged .none) := by
  simp [Bay.lateChecks, h]

theorem Bay.lateChecks_outOfRange {x : Bay} (hu : x.cart.unitChanged = false) {op : CmdOp} (ho : op.makesRangeCheck = true)
    {lba count : Nat} (h : x.tu.capacity < lba + count) :
    x.lateChecks op lba count = some { completion := .outOfRange, detail := .none, lba := some lba, addr := none } := by
  simp [Bay.lateChecks, hu, ho, h]

theorem Bay.lateChecks_protected {x : Bay} (hu : x.cart.unitChanged = false) {op : CmdOp} {lba count : Nat}
    (hr : op.makesRangeCheck = true → lba + count ≤ x.tu.capacity) (ho : op.makesProtectCheck = true)
    (hp : x.cart.wpProtected = true) : x.lateChecks op lba count = some (CmdResult.plain .writeProtected .none) := by
  have hin : (op.makesRangeCheck && decide (x.tu.capacity < lba + count)) = false := by
    simpa using hr
  simp [Bay.lateChecks, hu, hin, ho, hp]

/-- A FORMAT of a cartridge that is not protected comes to its own checks. -/
theorem Bay.lateChecks_format {x : Bay} (hu : x.cart.unitChanged = false) (hp : x.cart.wpProtected = false) (heads : Byte)
    (certify useList keepGrown : Bool) (lba count : Nat) :
    x.lateChecks (.format heads certify useList keepGrown) lba count = x.formatRefusal heads.toNat useList keepGrown := by
  simp [Bay.lateChecks, hu, hp, CmdOp.makesRangeCheck, Bay.ownChecks]

/-! ## FORMAT's own checks (R150) -/

theorem Bay.formatRefusal_zone {x : Bay} (h : x.tu.stagedZone = none) (heads : Nat) (useList keepGrown : Bool) :
    x.formatRefusal heads useList keepGrown = some (CmdResult.plain .notStaged .zone) := by
  rw [Bay.formatRefusal, h]

/-- A FORMAT that uses no defect list, or has one staged, passes the check of the list. -/
theorem Bay.listStaged {x : Bay} {useList : Bool} (h : useList = true → x.tu.stagedList.isSome = true) :
    ¬ (useList && x.tu.stagedList.isNone) = true := by
  rw [Bool.and_eq_true, Option.isNone_iff_eq_none]
  rintro ⟨hu, hn⟩
  simp [hn] at h
  exact absurd hu (by simp [h])

section
variable {x : Bay} {image : List Byte} (hz : x.tu.stagedZone = some image)
include hz

theorem Bay.formatRefusal_list {useList : Bool} (hu : useList = true) (hl : x.tu.stagedList = none) (heads : Nat)
    (keepGrown : Bool) : x.formatRefusal heads useList keepGrown = some (CmdResult.plain .notStaged .defectList) := by
  simp [Bay.formatRefusal, hz, hu, hl]

variable {useList : Bool} (hl : useList = true → x.tu.stagedList.isSome = true)
include hl

theorem Bay.formatRefusal_heads {heads : Nat} (h1 : heads ≠ 1) (h2 : heads ≠ 2) (keepGrown : Bool) :
    x.formatRefusal heads useList keepGrown = some (CmdResult.plain .illegalRequest .none) := by
  have hstaged : ¬ (useList && x.tu.stagedList.isNone) = true := Bay.listStaged hl
  simp only [Bay.formatRefusal, hz, if_neg hstaged, h1, h2, ne_eq, not_false_eq_true, and_self, if_true]

variable {heads : Nat} (hh : heads = 1 ∨ heads = 2)
include hh

theorem Bay.formatRefusal_layout (keepGrown : Bool) {d : MountDetail}
    (hd : layoutDetail heads (lastCylinder (stagedZones image) + 1) (field image 0 1) (stagedZones image) false = d)
    (hn : d ≠ .none) :
    x.formatRefusal heads useList keepGrown = some (CmdResult.plain .illegalRequest (.mount d)) := by
  have hstaged : ¬ (useList && x.tu.stagedList.isNone) = true := Bay.listStaged hl
  have hheads : ¬ (heads ≠ 1 ∧ heads ≠ 2) := by omega
  simp only [Bay.formatRefusal, hz, if_neg hstaged, if_neg hheads, hd]

theorem Bay.formatRefusal_defects {keepGrown : Bool}
    (hd : layoutDetail heads (lastCylinder (stagedZones image) + 1) (field image 0 1) (stagedZones image) false = .none)
    (hf : 256 < (x.formatDefects heads (stagedZones image) useList keepGrown).length) :
    x.formatRefusal heads useList keepGrown = some (CmdResult.plain .defectListFull .none) := by
  have hstaged : ¬ (useList && x.tu.stagedList.isNone) = true := Bay.listStaged hl
  have hheads : ¬ (heads ≠ 1 ∧ heads ≠ 2) := by omega
  simp only [Bay.formatRefusal, hz, if_neg hstaged, if_neg hheads, hd, Config.maxDefects, hf, if_true]

end

/-! ## The seven media commands -/

/-- How a media command is validated: as `op`, whose range check is made from the block `l` on for `n` blocks. The other parameters
are its operands, its code, how many blocks it names if it names any, whether it writes, and whether it is FORMAT. -/
structure MediaRow (s : State) (b : BayId) (lba : Nat) (heads : Byte) (certify useList keepGrown : Bool)
    (command : Instr) (code : Byte) (blocks : Option Nat) (writes formats : Bool) (op : CmdOp) (l n : Nat) : Prop where
  taken : exec command s = (s.mediaCommand b op l n).conclude
  opCode : op.code = code
  range : ∀ m, blocks = some m → op.makesRangeCheck = true ∧ l = lba ∧ n = m
  noRange : blocks = none → op.makesRangeCheck = false
  protects : op.makesProtectCheck = writes
  isFormat : op.isFormat = formats
  format : formats = true → op = .format heads certify useList keepGrown

/-- The media commands with their codes (R181), each validated as its operation. -/
theorem mediaRow_of_mem {s : State} (h : s.hears) {b : BayId} {lba : BitVec 24} {count heads : Byte}
    {certify useList keepGrown : Bool} {command : Instr} {code : Byte} {blocks : Option Nat} {writes formats : Bool}
    (hm : (command, code, blocks, writes, formats) ∈ [(Instr.read b lba count, (0x10 : Byte), some (countOf count), false, false),
      (.write b lba count, 0x11, some (countOf count), true, false),
      (.verify b lba count, 0x12, some (countOf count), false, false),
      (.seek b lba, 0x13, some 1, false, false), (.reassign b lba, 0x14, some 1, true, false),
      (.format b heads certify useList keepGrown, 0x15, none, true, true), (.flushRecord b, 0x16, none, false, false)]) :
    ∃ op l n, MediaRow s b lba.toNat heads certify useList keepGrown command code blocks writes formats op l n := by
  simp only [List.mem_cons, List.not_mem_nil, or_false] at hm
  rcases hm with hm | hm | hm | hm | hm | hm | hm <;> cases hm
  · exact ⟨.read, lba.toNat, countOf count, h.frame _ _, rfl, fun _ hk => ⟨rfl, rfl, Option.some.inj hk⟩, nofun, rfl, rfl, nofun⟩
  · exact ⟨.write, lba.toNat, countOf count, h.frame _ _, rfl, fun _ hk => ⟨rfl, rfl, Option.some.inj hk⟩, nofun, rfl, rfl, nofun⟩
  · exact ⟨.verify, lba.toNat, countOf count, h.frame _ _, rfl, fun _ hk => ⟨rfl, rfl, Option.some.inj hk⟩, nofun, rfl, rfl, nofun⟩
  · exact ⟨.seek, lba.toNat, 1, h.frame _ _, rfl, fun _ hk => ⟨rfl, rfl, Option.some.inj hk⟩, nofun, rfl, rfl, nofun⟩
  · exact ⟨.reassign, lba.toNat, 1, h.frame _ _, rfl, fun _ hk => ⟨rfl, rfl, Option.some.inj hk⟩, nofun, rfl, rfl, nofun⟩
  · exact ⟨.format heads certify useList keepGrown, 0, 0, h.frame _ _, rfl, nofun, fun _ => rfl, rfl, rfl, fun _ => rfl⟩
  · exact ⟨.flushRecord, 0, 0, h.frame _ _, rfl, nofun, fun _ => rfl, rfl, rfl, nofun⟩

namespace MediaRow
section
variable {s : State} {b : BayId} {lba l n : Nat} {heads : Byte} {certify useList keepGrown : Bool}
  {command : Instr} {code : Byte} {blocks : Option Nat} {writes formats : Bool} {op : CmdOp}
  (m : MediaRow s b lba heads certify useList keepGrown command code blocks writes formats op l n) (h : s.calm)
include m h

/-- A command that is refused BUSY or ILLEGAL_REQUEST is answered, and nothing else. -/
theorem answered {r : CmdResult} (hr : s.mediaCommand b op l n = s.refuse b op.code r)
    (hc : r.completion = .busy ∨ r.completion = .illegalRequest) :
    exec command s = .next { s with link := { s.link with
      queue := s.link.queue ++ [.status (.bay b) r.completion r.detail 0 code] } } := by
  rw [m.taken, hr, s.refuse_answers b op.code r hc, s.conclude_answer h, m.opCode]

/-- A command that is refused with another code is answered, and writes the sense record. -/
theorem sensed {r : CmdResult} (hr : s.mediaCommand b op l n = (s.clearUnitChanged b r).refuse b op.code r)
    (hb : r.completion ≠ .busy) (hi : r.completion ≠ .illegalRequest) (ha : r.addr = none) :
    exec command s =
      .next (s.senseRefusal b code r (if r.completion = .unitChanged then false else (s.bay b).cart.unitChanged)) := by
  rw [m.taken, hr, s.refuse_senses b op.code r hb hi ha, s.conclude_senseRefusal h, m.opCode]

variable (hp : s.bayPresent b = true) (hs : (s.bay b).slot = none)
include hp hs

/-- Checks 3 to 6. -/
theorem cartRefusals :
    ((s.bay b).cart.state = .empty → exec command s =
      .next (s.senseRefusal b code (CmdResult.plain .noCartridge .none) (s.bay b).cart.unitChanged)) ∧
    ((s.bay b).cart.state = .bayFault → exec command s =
      .next (s.senseRefusal b code (CmdResult.plain .bayFault (.fault (s.bay b).cart.fault)) (s.bay b).cart.unitChanged)) ∧
    ((s.bay b).cart.state ∈ [.seated, .locking, .mounting, .formatting, .unmounting, .releasing, .released]
        ∨ (s.bay b).cart.state = .spinningUp ∧ s.autospinHigh = true → exec command s =
      .next (s.senseRefusal b code (CmdResult.plain .notReady (.cartState (s.bay b).cart.state))
        (s.bay b).cart.unitChanged)) ∧
    ((s.bay b).cart.state = .unformatted → formats = false → exec command s =
      .next (s.senseRefusal b code (CmdResult.plain .unformatted (.mount (s.bay b).cart.mountDetail))
        (s.bay b).cart.unitChanged)) := by
  refine ⟨fun he => ?_, fun he => ?_, fun he => ?_, fun he hf => ?_⟩
  · exact m.sensed h (State.mediaCommand_empty hp hs he op l n) nofun nofun rfl
  · exact m.sensed h (State.mediaCommand_checked hp hs (by simp [he]) (by simp [he]) (Bay.mediaChecks_bayFault he op l n))
      nofun nofun rfl
  · refine m.sensed h (State.mediaCommand_checked hp hs ?_ ?_ (Bay.mediaChecks_notReady op l n ?_)) nofun nofun rfl
    · intro hempty
      simp [hempty] at he
    · intro hspin
      simpa [hspin] using he
    · rcases he with he | ⟨he, -⟩
      · simp only [List.mem_cons] at he ⊢
        tauto
      · simp [he]
  · exact m.sensed h (State.mediaCommand_checked hp hs (by simp [he]) (by simp [he])
      (Bay.mediaChecks_unformatted he (m.isFormat.trans hf) l n)) nofun nofun rfl

variable (hl : (s.bay b).cart.state = .mounted ∨ (s.bay b).cart.state = .unformatted ∧ formats = true)
include hl

omit h in
/-- The refusal of checks 7 to 9, and of FORMAT's own, is that of the command. -/
theorem late {r : CmdResult} (hr : (s.bay b).lateChecks op l n = some r) :
    s.mediaCommand b op l n = (s.clearUnitChanged b r).refuse b op.code r := by
  rw [← m.isFormat] at hl
  refine State.mediaCommand_checked hp hs ?_ ?_ ((Bay.mediaChecks_late hl l n).trans hr)
  · rcases hl with hl | ⟨hl, -⟩ <;> simp [hl]
  · rcases hl with hl | ⟨hl, -⟩ <;> simp [hl]

theorem unitChanged (hu : (s.bay b).cart.unitChanged = true) :
    exec command s = .next (s.senseRefusal b code (CmdResult.plain .unitChanged .none) false) :=
  m.sensed h (m.late hp hs hl (Bay.lateChecks_unitChanged hu op l n)) nofun nofun rfl

variable (hu : (s.bay b).cart.unitChanged = false)
include hu

/-- A late refusal with another code than UNIT_CHANGED leaves the flag clear. -/
theorem lateSensed {r : CmdResult} (hr : (s.bay b).lateChecks op l n = some r) (hb : r.completion ≠ .busy)
    (hi : r.completion ≠ .illegalRequest) (ha : r.addr = none) : exec command s = .next (s.senseRefusal b code r false) := by
  rw [m.sensed h (m.late hp hs hl hr) hb hi ha, hu, ite_self]

theorem outOfRange {k : Nat} (hk : blocks = some k) (hc : (s.bay b).tu.capacity < lba + k) :
    exec command s = .next (s.senseRefusal b code
      { completion := .outOfRange, detail := .none, lba := some lba, addr := none } false) := by
  obtain ⟨hrange, rfl, rfl⟩ := m.range k hk
  exact m.lateSensed h hp hs hl hu (Bay.lateChecks_outOfRange hu hrange hc) nofun nofun rfl

theorem writeProtected (hk : ∀ k, blocks = some k → lba + k ≤ (s.bay b).tu.capacity) (hw : writes = true)
    (hwp : (s.bay b).cart.wpProtected = true) :
    exec command s = .next (s.senseRefusal b code (CmdResult.plain .writeProtected .none) false) := by
  refine m.lateSensed h hp hs hl hu (Bay.lateChecks_protected hu ?_ (m.protects.trans hw) hwp) nofun nofun rfl
  intro hrange
  rcases hblocks : blocks with _ | k
  · simp [m.noRange hblocks] at hrange
  · obtain ⟨-, rfl, rfl⟩ := m.range k hblocks
    exact hk _ hblocks

variable (hf : formats = true) (hwp : (s.bay b).cart.wpProtected = false)
include hf hwp

omit h hp hs hl in
/-- FORMAT's own checks decide the late ones of a cartridge that is not protected. -/
theorem ownChecks : (s.bay b).lateChecks op l n = (s.bay b).formatRefusal heads.toNat useList keepGrown := by
  rw [m.format hf, Bay.lateChecks_format hu hwp]

theorem formatSensed {c : Completion} {d : Detail}
    (hr : (s.bay b).formatRefusal heads.toNat useList keepGrown = some (CmdResult.plain c d)) (hb : c ≠ .busy)
    (hi : c ≠ .illegalRequest) : exec command s = .next (s.senseRefusal b code (CmdResult.plain c d) false) :=
  m.lateSensed h hp hs hl hu ((m.ownChecks hu hf hwp).trans hr) hb hi rfl

theorem formatAnswered {d : Detail}
    (hr : (s.bay b).formatRefusal heads.toNat useList keepGrown = some (CmdResult.plain .illegalRequest d)) :
    exec command s = .next { s with link := { s.link with
      queue := s.link.queue ++ [.status (.bay b) .illegalRequest d 0 code] } } := by
  have hlate := m.late hp hs hl ((m.ownChecks hu hf hwp).trans hr)
  rw [State.clearUnitChanged_other (r := CmdResult.plain .illegalRequest d) nofun] at hlate
  exact m.answered h hlate (.inr rfl)

end
end MediaRow

end Sys2Proof.Machine

namespace Sys2Proof
open Machine

/-- Settles O24: each of the seven commands is a line of `MediaRow`, and each refusal of it a branch of the checks. -/
theorem mediaCommandsAreRefusedInOrder : Obligations.MediaCommandsAreRefusedInOrder := by
  intro b lba count heads certify useList keepGrown s hears ⟨command, code, blocks, writes, formats⟩ hrow
    _ _ _ _ _ x answered sensed
  obtain ⟨op, l, n, m⟩ := mediaRow_of_mem hears hrow
  have h := hears.calm
  refine ⟨fun hp => m.answered h (State.mediaCommand_absent hp op l n) (.inr rfl),
    fun hp hs => m.answered h (State.mediaCommand_busy hp hs op l n) (.inl rfl), fun hp hs => ?_⟩
  obtain ⟨hempty, hfault, hnotReady, hunformatted⟩ := m.cartRefusals h hp hs
  refine ⟨hempty, hfault, hnotReady, hunformatted, fun hl =>
    ⟨m.unitChanged h hp hs hl, fun hu => ⟨?_, ?_, fun hf hwp => ?_⟩⟩⟩
  · exact fun k hk hc => m.outOfRange h hp hs hl hu hk hc
  · exact m.writeProtected h hp hs hl hu
  · refine ⟨fun hz => m.formatSensed h hp hs hl hu hf hwp (Bay.formatRefusal_zone hz _ _ _) nofun nofun, fun image hz => ?_⟩
    intro zones failed
    refine ⟨fun hul hn => ?_, fun hlist => ⟨fun h1 h2 => ?_, fun hh => ⟨fun hd => ?_, fun hd hn => ?_⟩⟩⟩
    · exact m.formatSensed h hp hs hl hu hf hwp (Bay.formatRefusal_list hz hul hn _ _) nofun nofun
    · exact m.formatAnswered h hp hs hl hu hf hwp (Bay.formatRefusal_heads hz hlist (by bv_omega) (by bv_omega) _)
    · exact m.formatAnswered h hp hs hl hu hf hwp (Bay.formatRefusal_layout hz hlist (by bv_omega) _ rfl hd)
    · exact m.formatSensed h hp hs hl hu hf hwp (Bay.formatRefusal_defects hz hlist (by bv_omega) hd hn) nofun nofun

end Sys2Proof

/-! Spare slots, the defect map and allocation (O57, O58, O59). -/

namespace Sys2Proof.Machine

/-! ## Spare slots (R22, R23) -/

theorem ZoneEntry.perCylinder_pos {heads : Nat} (z : ZoneEntry) (h : 0 < heads) : 0 < z.perCylinder heads :=
  Nat.mul_pos h z.spt.succ_pos

theorem ZoneEntry.isSpare_iff (z : ZoneEntry) (cyl : Nat) :
    z.isSpare cyl = true ↔ z.last - z.spare + 1 ≤ cyl ∧ cyl ≤ z.last := by
  simp [ZoneEntry.isSpare, ZoneEntry.firstSpare]

section
variable {heads : Nat} {z : ZoneEntry} (h : 0 < heads)
include h

/-- A slot of the pool lies on one of the zone's spare cylinders. -/
theorem slotAddr_isSpare (hz : z.spare ≤ z.last) {k : Nat} (hk : k < z.pool heads) :
    z.isSpare (slotAddr heads z k).cyl = true := by
  have hcyl : k / z.perCylinder heads < z.spare := (Nat.div_lt_iff_lt_mul (z.perCylinder_pos h)).2 hk
  rw [ZoneEntry.isSpare_iff]
  generalize hc : k / z.perCylinder heads = c at hcyl
  simp only [slotAddr, ZoneEntry.firstSpare, hc]
  omega

theorem slotAddr_head_lt (k : Nat) : (slotAddr heads z k).head < heads :=
  (Nat.div_lt_iff_lt_mul z.spt.succ_pos).2 (Nat.mod_lt k (z.perCylinder_pos h))

omit h in
theorem slotAddr_ps_le (k : Nat) : (slotAddr heads z k).ps ≤ z.spt :=
  Nat.le_of_lt_succ (Nat.mod_lt _ z.spt.succ_pos)

omit h in
/-- R23 inverts R22. -/
theorem slotNumber_slotAddr (k : Nat) : slotNumber heads z (slotAddr heads z k) = k := by
  have hcyl : z.firstSpare + k / z.perCylinder heads - z.firstSpare = k / z.perCylinder heads := Nat.add_sub_cancel_left ..
  rw [slotNumber, slotAddr, hcyl, Nat.add_assoc, Nat.div_add_mod', Nat.div_add_mod']

section
variable {x : PhysAddr} (hh : x.head < heads) (hp : x.ps ≤ z.spt)
include hh hp

omit h in
/-- The place of a sector in its cylinder. -/
theorem placeInCylinder_lt : x.head * (z.spt + 1) + x.ps < z.perCylinder heads := calc
  x.head * (z.spt + 1) + x.ps < (x.head + 1) * (z.spt + 1) := by rw [Nat.succ_mul]; omega
  _ ≤ z.perCylinder heads := Nat.mul_le_mul_right _ hh

omit h in
theorem slotNumber_lt_pool (hx : z.isSpare x.cyl = true) : slotNumber heads z x < z.pool heads := by
  rw [ZoneEntry.isSpare_iff] at hx
  have hcyl : x.cyl - z.firstSpare + 1 ≤ z.spare := by
    simp only [ZoneEntry.firstSpare]
    omega
  calc slotNumber heads z x
      < (x.cyl - z.firstSpare + 1) * z.perCylinder heads := by
        have := placeInCylinder_lt hh hp
        rw [slotNumber, Nat.succ_mul]
        omega
    _ ≤ z.pool heads := Nat.mul_le_mul_right _ hcyl

/-- R22 inverts R23. -/
theorem slotAddr_slotNumber (hx : z.isSpare x.cyl = true) : slotAddr heads z (slotNumber heads z x) = x := by
  rw [ZoneEntry.isSpare_iff] at hx
  have hplace := placeInCylinder_lt hh hp
  have hps : x.ps < z.spt + 1 := Nat.lt_succ_of_le hp
  have hdiv : slotNumber heads z x / z.perCylinder heads = x.cyl - z.firstSpare := by
    rw [slotNumber, Nat.add_assoc, Nat.mul_comm, Nat.mul_add_div (z.perCylinder_pos h), Nat.div_eq_of_lt hplace, Nat.add_zero]
  have hmod : slotNumber heads z x % z.perCylinder heads = x.head * (z.spt + 1) + x.ps := by
    rw [slotNumber, Nat.add_assoc, Nat.mul_comm, Nat.mul_add_mod, Nat.mod_eq_of_lt hplace]
  have hcyl : z.firstSpare + (x.cyl - z.firstSpare) = x.cyl := Nat.add_sub_cancel' hx.1
  rw [slotAddr, hdiv, hmod, hcyl, Nat.mul_comm x.head, Nat.mul_add_div z.spt.succ_pos, Nat.div_eq_of_lt hps, Nat.add_zero,
    Nat.mul_add_mod, Nat.mod_eq_of_lt hps]

end
end

/-! ## The defect map (R24, R27) -/

/-- Physical order is cylinder, then head, then physical sector. -/
theorem PhysAddr.before_iff (x y : PhysAddr) : x.before y = true ↔
    x.cyl < y.cyl ∨ x.cyl = y.cyl ∧ (x.head < y.head ∨ x.head = y.head ∧ x.ps < y.ps) := by
  simp [PhysAddr.before]

theorem PhysAddr.before_trans {x y z : PhysAddr} (hxy : x.before y = true) (hyz : y.before z = true) : x.before z = true := by
  rw [PhysAddr.before_iff] at *
  omega

/-- Of two addresses one comes before the other. -/
theorem PhysAddr.before_of_not_before {x y : PhysAddr} (hne : x ≠ y) (h : ¬ y.before x = true) : x.before y = true := by
  have hparts : ¬ (x.cyl = y.cyl ∧ x.head = y.head ∧ x.ps = y.ps) := by
    rintro ⟨hc, hh, hp⟩
    cases x
    cases y
    simp_all
  rw [PhysAddr.before_iff] at *
  omega

/-- The map in the strictly ascending order of R24. -/
abbrev Ascending (map : List DefectEntry) : Prop := map.Pairwise fun x y => x.addr.before y.addr = true

theorem insertEntry_perm (e : DefectEntry) (map : List DefectEntry) : (insertEntry e map).Perm (e :: map) := by
  induction map with
  | nil => rfl
  | cons x rest ih =>
    rw [insertEntry]
    split
    · rfl
    · exact (ih.cons x).trans (.swap e x rest)

theorem mem_insertEntry {e x : DefectEntry} {map : List DefectEntry} : x ∈ insertEntry e map ↔ x = e ∨ x ∈ map :=
  (insertEntry_perm e map).mem_iff.trans List.mem_cons

theorem insertEntry_ascending {e : DefectEntry} {map : List DefectEntry} (h : Ascending map)
    (hnew : ∀ x ∈ map, x.addr ≠ e.addr) :
    Ascending (insertEntry e map) := by
  induction map with
  | nil => exact List.pairwise_singleton _ e
  | cons x rest ih =>
    obtain ⟨hx, hrest⟩ := List.pairwise_cons.1 h
    obtain ⟨hne, hnew⟩ := List.forall_mem_cons.1 hnew
    rw [insertEntry]
    split
    next hex =>
      refine List.pairwise_cons.2 ⟨List.forall_mem_cons.2 ⟨hex, fun y hy => ?_⟩, h⟩
      exact PhysAddr.before_trans hex (hx y hy)
    next hex =>
      refine List.pairwise_cons.2 ⟨fun y hy => ?_, ih hrest hnew⟩
      rcases mem_insertEntry.1 hy with rfl | hy
      · exact PhysAddr.before_of_not_before hne hex
      · exact hx y hy

/-! ## Allocation (R29, R30, R34, R35) -/

/-- The candidate is the lowest slot of the pool at or above the pointer that holds no RETIRED entry. -/
theorem candidate_eq_some_iff {heads : Nat} {z : ZoneEntry} {map : List DefectEntry} {k : Nat} :
    candidate heads z map = some k ↔ z.ptr ≤ k ∧ k < z.pool heads ∧ isRetired map (slotAddr heads z k) = false ∧
      ∀ m, z.ptr ≤ m → m < k → isRetired map (slotAddr heads z m) = true := by
  simp only [candidate, List.find?_range_eq_some, List.mem_range, Bool.and_eq_true, decide_eq_true_eq, Bool.not_eq_true',
    Bool.and_eq_false_iff, decide_eq_false_iff_not, Bool.not_eq_false']
  constructor
  · rintro ⟨⟨hptr, hfree⟩, hk, hlow⟩
    exact ⟨hptr, hk, hfree, fun m hm hlt => (hlow m hlt).resolve_left (not_not_intro hm)⟩
  · rintro ⟨hptr, hk, hfree, hlow⟩
    exact ⟨⟨hptr, hfree⟩, hk, fun m hlt => (Decidable.em (z.ptr ≤ m)).elim (fun hm => .inr (hlow m hm hlt)) .inl⟩

/-- There is no candidate when the pool is exhausted. -/
theorem candidate_eq_none_iff {heads : Nat} {z : ZoneEntry} {map : List DefectEntry} :
    candidate heads z map = none ↔ ∀ k, z.ptr ≤ k → k < z.pool heads → isRetired map (slotAddr heads z k) = true := by
  simp only [candidate, List.find?_eq_none, List.mem_range, Bool.and_eq_true, decide_eq_true_eq, Bool.not_eq_true', not_and,
    Bool.not_eq_false]
  exact ⟨fun hall k hptr hk => hall k hk hptr, fun hall k hk hptr => hall k hptr hk⟩

theorem Tables.setPtr_zone (t : Tables) {n : Nat} (hn : n < t.zones.length) (ptr : Nat) :
    (t.setPtr n ptr).zone n = { t.zone n with ptr } := by
  simp [Tables.setPtr, Tables.zone, hn]

theorem Tables.setPtr_zone_ne (t : Tables) {n m : Nat} (hm : m ≠ n) (ptr : Nat) : (t.setPtr n ptr).zone m = t.zone m := by
  simp [Tables.setPtr, Tables.zone, List.getD, Ne.symm hm]

/-- A retired slot changes the map, and the pointer of its zone. -/
theorem Tables.retire_eq (t : Tables) (n k : Nat) : ∃ map, t.retire n k = ({ t with map } : Tables).setPtr n (k + 1) :=
  ⟨_, rfl⟩

/-- A placed block changes the map, and the pointer of its zone. -/
theorem Tables.place_eq (t : Tables) (n : Nat) (x : PhysAddr) (old : Option Nat) (k : Nat) :
    ∃ map, t.place n x old k = ({ t with map } : Tables).setPtr n (k + 1) := by
  cases old with
  | none => exact ⟨_, rfl⟩
  | some j => exact ⟨_, rfl⟩

end Sys2Proof.Machine

namespace Sys2Proof
open Machine

/-- Settles O57: division by the sectors of a cylinder, and then of a track, inverts the two products. -/
theorem slotNumbersInvertSlotAddresses : Obligations.SlotNumbersInvertSlotAddresses := by
  intro heads z h hz
  refine ⟨fun k hk => ⟨rfl, slotNumber_slotAddr k, slotAddr_isSpare h hz hk, slotAddr_head_lt h k, slotAddr_ps_le k⟩, ?_⟩
  exact fun x hx hh hp => ⟨rfl, slotNumber_lt_pool hh hp hx, slotAddr_slotNumber h hh hp hx⟩

/-- Settles O58: an insertion permutes the entry and the map, and stops at the first entry that the new one comes before. -/
theorem insertionKeepsTheMapAscending : Obligations.InsertionKeepsTheMapAscending := by
  intro e map h hnew
  exact ⟨insertEntry_ascending h hnew, fun _ => mem_insertEntry, (insertEntry_perm e map).length_eq⟩

/-- Settles O59: the search of the candidate, and the pointer that a retired and a placed slot leave. -/
theorem allocationTakesTheLowestUsableSlot : Obligations.AllocationTakesTheLowestUsableSlot := by
  intro heads z map retired
  refine ⟨fun k => candidate_eq_some_iff, candidate_eq_none_iff, fun t n k hn u hu => ?_⟩
  obtain ⟨map', rfl⟩ : ∃ map', u = ({ t with map := map' } : Tables).setPtr n (k + 1) := by
    rcases hu with rfl | ⟨x, old, rfl⟩
    · exact t.retire_eq n k
    · exact t.place_eq n x old k
  exact ⟨Tables.setPtr_zone _ hn _, fun m hm => Tables.setPtr_zone_ne _ hm _⟩

end Sys2Proof

/-! Removal of a cartridge, and the write-protect input (O47, O48). -/

namespace Sys2Proof.Machine

/-! ## Sensor events of a calm part -/

theorem State.calm.sensor {s : State} (h : s.calm) {b : BayId} (hp : s.bayPresent b = true) (level act : State → State) :
    s.baySensor b level act = (act (level s)).conclude :=
  s.baySensor_taken b level act (s.bayLive_of b h.1 hp) h.1.2

/-- Two changes of one bay are one. -/
theorem State.modBay_modBay (s : State) (b : BayId) (f g : Bay → Bay) :
    (s.modBay b f).modBay b g = s.modBay b fun y => g (f y) := by
  cases b <;> rfl

/-- Only what an update makes of the bay as it stands counts. -/
theorem State.modBay_congr {s : State} {b : BayId} {f g : Bay → Bay} (h : f (s.bay b) = g (s.bay b)) :
    s.modBay b f = s.modBay b g := by
  rw [State.modBay, h, ← State.modBay]

/-! ## Removal (R103) -/

/-- A bay whose power mode is UNMOUNTED already, after a removal. -/
def Bay.removed (x : Bay) : Bay := { x with
  tu := Translation.reset
  cart := { x.cart with
    state := .empty, mountDetail := .none, fault := .none, preventRemoval := false, unitChanged := false, eject := none
    lockAttempts := 0, settleTimer := none, lockConfirm := none, releaseConfirm := none }
  pos := if x.pos.state = .actFault ∧ x.pos.parked = true then { x.pos with state := .parked } else x.pos
  power := { x.power with unloadTimer := none, standbyTimer := none, entry := none, wake := none }
  attn := { x.attn with removed := { raised := true, payload := 0 } } }

/-- Entry to the power mode UNMOUNTED leaves that mode as it is. -/
theorem Power.left {x : Power} (h : x.mode = .unmounted) :
    ({ x with mode := .unmounted, unloadTimer := none, standbyTimer := none, entry := none, wake := none } : Power) =
      { x with unloadTimer := none, standbyTimer := none, entry := none, wake := none } := by
  rw [← h]

/-- A removal that ends no EJECT and lets no start-up release follow clears the bay, and that is all. -/
theorem State.removal_clears (s : State) (b : BayId) (hm : (s.bay b).power.mode = .unmounted)
    (he : ∀ e, (s.bay b).cart.eject = some e → e.commandWaits = false) (hs : (s.bay b).cart.startupRelease = false) :
    s.removal b = s.modBay b Bay.removed := by
  have hcleared : ∀ f : Bay → Bay, f (s.bay b) = (s.bay b).removed →
      (s.modBay b f).offerStartup b = s.modBay b Bay.removed := by
    intro f hf
    rw [State.modBay_congr hf, State.offerStartup, State.bay_modBay]
    exact if_neg (by simp [Bay.removed, hs])
  simp only [State.removal, State.leavePower, State.modPower, State.raise, State.modBay_modBay]
  rw [hcleared _ (by simp only [Power.left hm]; rfl)]
  split
  next e heject => rw [if_neg (by simp [he e heject])]
  next => rfl

/-! ## A change to protected (R38) -/

theorem State.discard_clean {s : State} {b : BayId} (h : (s.bay b).tu.dirty = false) (cause : Byte) : s.discard b cause = s := by
  simp [State.discard, h]

theorem State.discard_dirty {s : State} {b : BayId} (h : (s.bay b).tu.dirty = true) (cause : Byte) :
    s.discard b cause = s.modBay b fun x => { x with
      tu := { x.tu with dirty := false }
      attn := { x.attn with recordDiscarded := { raised := true, payload := cause } } } := by
  rw [State.discard, if_pos h, State.modTu, State.raise, State.modBay_modBay]
  rfl

theorem State.visitPhase_none {s : State} {b : BayId} (h : s.visiting b = false) : s.visitPhase b = none := by
  unfold State.visiting at h
  unfold State.visitPhase
  split at h <;> simp_all

/-- Outside a visit the change to protected is a discard. -/
theorem State.becomesProtected_idle {s : State} {b : BayId} (h : s.visiting b = false) :
    s.becomesProtected b = s.discard b discardWriteProtect := by
  rw [State.becomesProtected, State.visitPhase_none h]

/-- A change of the input records its level; to protected, it is followed by what that does. -/
theorem exec_writeProtectChange {s : State} (h : s.calm) {b : BayId} (hp : s.bayPresent b = true) (p : Bool) {u : State}
    (hu : u = s.modBay b fun x => { x with cart := { x.cart with wpProtected := p } }) :
    exec (.writeProtectChange b p) s = (if p then u.becomesProtected b else u).conclude := by
  subst hu
  show execWriteProtectChange b p s = _
  rw [execWriteProtectChange, h.sensor hp]
  rfl

end Sys2Proof.Machine

namespace Sys2Proof
open Machine

/-- Settles O47: a removal changes one bay only, whose readiness class stays that of its power mode. -/
theorem removalClearsTheBay : Obligations.RemovalClearsTheBay := by
  intro b s h hp hstate hm he hs
  have hleaves : (s.modCart b fun c => { c with cartridgeIn := false }).cartridgeLeaves b =
      (s.modCart b fun c => { c with cartridgeIn := false }).removal b := by
    rcases hstate with hstate | hstate <;> simp [State.cartridgeLeaves, hstate]
  show execPresentLost b s = _
  rw [execPresentLost, h.sensor hp, hleaves, State.removal_clears _ b (by simpa using hm) (by simpa using he) (by simpa using hs),
    State.modCart, State.modBay_modBay]
  exact State.conclude_modBay s b _ h (h.2.1.class b)

/-- Settles O48: outside a visit the input is its level and, to protected, a discard. -/
theorem writeProtectDiscardsADirtyRecord : Obligations.WriteProtectDiscardsADirtyRecord := by
  intro b s h hp hv level
  have hcalm : ∀ f : Bay → Bay, (∀ x, (f x).power = x.power) → (s.modBay b f).conclude = .next (s.modBay b f) :=
    fun f hf => State.conclude_calm _ (s.calm_modBay b f h (hf _))
  have hprotect : exec (.writeProtectChange b true) s = ((s.modBay b (level true)).discard b discardWriteProtect).conclude := by
    rw [exec_writeProtectChange h hp true rfl, if_pos rfl, State.becomesProtected_idle (by cases b <;> exact hv)]
  refine ⟨fun hd => ?_, fun hd => ?_, ?_⟩
  · rw [hprotect, State.discard_dirty (by rw [State.bay_modBay]; exact hd), State.modBay_modBay]
    exact hcalm _ fun _ => rfl
  · rw [hprotect, State.discard_clean (by rw [State.bay_modBay]; exact hd)]
    exact hcalm _ fun _ => rfl
  · rw [exec_writeProtectChange h hp false rfl]
    exact hcalm (level false) fun _ => rfl

end Sys2Proof

/-! Commands accepted in MOUNTED: the first block of READ and VERIFY, the abandoned sector of REASSIGN (O25, O27). -/

namespace Sys2Proof.Machine

/-! ## Acceptance (R133, R136, R161, R176) -/

/-- A command in a bay's slot makes an IDLE bay ACTIVE; the other modes stay (R161). -/
def Power.inUse (x : Power) : Power := { x with mode := if x.mode = .idle then .active else x.mode }

/-- A command has taken the bay's slot with the reservation of its STATUS, and the bay the power mode that goes with it. -/
def State.accepted (s : State) (b : BayId) (c : Cmd) : State :=
  (s.modLink fun l => { l with reservations := l.reservations + 1 }).modBay b fun y => { y with
    slot := some c, power := y.power.inUse }

@[simp] theorem State.accepted_bay (s : State) (b : BayId) (c : Cmd) :
    (s.accepted b c).bay b = { s.bay b with slot := some c, power := (s.bay b).power.inUse } := by
  rw [State.accepted, State.bay_modBay, State.modLink_bay]

theorem Power.inUse_idle {x : Power} (h : x.mode = .idle) : x.inUse = { x with mode := .active } := by
  rw [Power.inUse, if_pos h]

theorem Power.inUse_other {x : Power} (h : x.mode ≠ .idle) : x.inUse = x := by
  rw [Power.inUse, if_neg h]

/-- ACTIVE and IDLE have one readiness class (R168). -/
theorem Power.inUse_class {x : Power} (h : x.readiness = x.mode.readiness) : x.inUse.readiness = x.inUse.mode.readiness := by
  by_cases hm : x.mode = .idle
  · rw [Power.inUse_idle hm]
    exact h.trans (by rw [hm]; rfl)
  · rwa [Power.inUse_other hm]

/-- A bay that comes into use keeps its class, and the other bay its own. -/
theorem State.settled.class_inUse {s u : State} (h : s.settled) {b : BayId} (hb : (u.bay b).power = (s.bay b).power.inUse)
    (hother : u.bay (otherBay b) = s.bay (otherBay b)) (b' : BayId) :
    (u.bay b').power.readiness = (u.bay b').power.mode.readiness := by
  have hclass : (u.bay b).power.readiness = (u.bay b).power.mode.readiness := by
    rw [hb]
    exact Power.inUse_class (h.class b)
  have hclass' : (u.bay (otherBay b)).power.readiness = (u.bay (otherBay b)).power.mode.readiness := by
    rw [hother]
    exact h.class _
  cases b <;> cases b' <;> assumption

/-- An operation other than WAKE and FORMAT begins at once in IDLE, and in every mode where it needs no heads (R136, R161). -/
theorem State.takeInMode_begins (s : State) (b : BayId) {op : CmdOp} (hw : op ≠ .wake) (hf : op.isFormat = false)
    (hm : (s.bay b).power.mode = .idle ∨ op.needsHeads = false) :
    s.takeInMode b op = (s.modPower b Power.inUse).beginWork b := by
  have hother : (s.bay b).power.mode ≠ .idle → s.modPower b Power.inUse = s := by
    intro hne
    exact s.modBay_same b _ (by rw [Power.inUse_other hne])
  have hactive : (s.bay b).power.mode = .idle ∨ (s.bay b).power.mode = .active →
      s.setMode b .active = s.modPower b Power.inUse := by
    intro hmode
    rw [State.setMode, State.modPower, State.modPower]
    refine State.modBay_congr ?_
    rcases hmode with hmode | hmode
    · rw [Power.inUse_idle hmode]
    · rw [Power.inUse_other (by simp [hmode]), ← hmode]
  unfold State.takeInMode
  split
  next hmode => simp only [if_neg hw, hf, Bool.false_and, Bool.false_eq_true, if_false, hactive (.inl hmode)]
  next hmode => simp only [if_neg hw, hf, Bool.false_and, Bool.false_eq_true, if_false, hactive (.inr hmode)]
  next hmode => simp_all
  next hmode => simp_all
  next hmode => rw [hother (by simp [hmode])]

/-- A command taken with no standby entry under way begins its work at once. -/
theorem State.takeSlot_begins (s : State) (b : BayId) (c : Cmd) (he : (s.bay b).power.entry = none)
    (hu : (s.bay b).cart.state ≠ .unformatted ∨ c.op.needsHeads = false) (hw : c.op ≠ .wake) (hf : c.op.isFormat = false)
    (hm : (s.bay b).power.mode = .idle ∨ c.op.needsHeads = false) :
    (s.takeSlot b c).commandAccepted b c.op = (s.accepted b c).beginWork b := by
  have hbay : (s.takeSlot b c).bay b = { s.bay b with slot := some c } := by simp [State.takeSlot]
  have hheads : ¬ (((s.takeSlot b c).bay b).cart.state = .unformatted ∧ c.op.needsHeads = true ∧
      (!((s.takeSlot b c).bay b).pos.state.loaded) = true) := by
    rintro ⟨h1, h2, -⟩
    rw [hbay] at h1
    rcases hu with hu | hu
    · exact hu h1
    · simp [hu] at h2
  have hentry : ((s.takeSlot b c).bay b).power.entry = none := by rw [hbay]; exact he
  have hbegins := State.takeInMode_begins (s.takeSlot b c) b hw hf (by rw [hbay]; exact hm)
  rw [State.commandAccepted, if_neg hheads, hentry]
  refine hbegins.trans ?_
  cases b <;> rfl

/-! ## A bay in IDLE at rest -/

theorem State.readyAt.idle {s : State} {b : BayId} {t : Tables} {at_ : Track} (h : s.readyAt b t at_) :
    (s.bay b).power.mode = .idle := by
  obtain ⟨-, -, -, -, -, -, -, -, hmode, -⟩ := h
  exact hmode

theorem State.readyAt.tables {s : State} {b : BayId} {t : Tables} {at_ : Track} (h : s.readyAt b t at_) :
    (s.bay b).tu.tables = some t := by
  obtain ⟨-, -, -, -, -, -, -, -, -, -, -, htables, -⟩ := h
  exact htables

theorem State.readyAt.noReassign {s : State} {b : BayId} {t : Tables} {at_ : Track} (h : s.readyAt b t at_) :
    (s.bay b).reassign = none := by
  obtain ⟨-, -, -, hreassign, -⟩ := h
  exact hreassign

/-- A media command other than FORMAT that passes its checks in a MOUNTED bay in IDLE begins its work. -/
theorem State.mediaCommand_begins {s : State} {b : BayId} {t : Tables} {at_ : Track} (h : s.readyAt b t at_) {op : CmdOp}
    {lba n : Nat} (hw : op ≠ .wake) (hf : op.isFormat = false) (hr : op.makesRangeCheck = true → lba + n ≤ t.capacity)
    (hp : op.makesProtectCheck = true → (s.bay b).cart.wpProtected = false) :
    s.mediaCommand b op lba n = (s.accepted b (Cmd.fresh op lba n s.dmt.caps)).beginWork b := by
  obtain ⟨hpresent, hslot, -, -, -, hcart, hunit, -, hmode, hentry, -, htables, -⟩ := h
  have hcapacity : (s.bay b).tu.capacity = t.capacity := by simp [Translation.capacity, htables]
  have hrange : (op.makesRangeCheck && decide ((s.bay b).tu.capacity < lba + n)) = false := by
    rw [hcapacity]
    simpa using hr
  have hprotect : (op.makesProtectCheck && (s.bay b).cart.wpProtected) = false := by simpa using hp
  have hown : (s.bay b).ownChecks op = none := by
    cases op with
    | format => cases hf
    | _ => rfl
  have hopen : ∀ u : State, u.openFormat b op = u := by
    intro u
    cases op with
    | format => cases hf
    | _ => rfl
  have hchecks : (s.bay b).mediaChecks op lba n = none := by
    rw [Bay.mediaChecks_late (.inl hcart)]
    simp [Bay.lateChecks, hunit, hrange, hprotect, hown]
  rw [State.mediaCommand, if_neg (by simp [hpresent]), if_neg (by simp [hslot]), if_neg (by simp [hcart]),
    if_neg (by simp [hcart]), hchecks]
  simp only [hopen]
  exact s.takeSlot_begins b (Cmd.fresh op lba n s.dmt.caps) hentry (.inl (by simp [hcart])) hw hf (.inl hmode)

/-! ## A first sector with a buffer slot (R75, R76, R115, R137) -/

/-- A READ or VERIFY takes the buffer slot of its next block and goes to its holding sector. -/
theorem State.takeBlock_reads {s : State} {b : BayId} {c : Cmd} {t : Tables} {x : Sector} (hc : (s.bay b).slot = some c)
    (ht : (s.bay b).tu.tables = some t) (hx : t.translate (c.lba + c.done) = some x) (hm : s.mayAllocate b = true) {kind : JobKind}
    (hk : c.op = .read ∧ kind = .mediaRead ∨ c.op = .verify ∧ kind = .mediaVerify) :
    s.takeBlock b = (s.allocate b .mediaData x.lba).approach b (Job.start kind x [s.lowestFree]) := by
  rcases hk with ⟨ho, rfl⟩ | ⟨ho, rfl⟩ <;> simp [State.takeBlock, hc, ht, hx, ho, hm]

/-- A REASSIGN that passes the checks of R32 takes a buffer slot for the old data and goes to the sector it abandons (R33). -/
theorem State.startReassign_reads {s : State} {b : BayId} {c : Cmd} {t : Tables} {r : Reassign}
    (ht : (s.bay b).tu.tables = some t) (hr : t.reassignOf c.lba false 0 = some r) (hp : (s.bay b).cart.wpProtected = false)
    (hl : t.map.length < 256) (hn : (candidate t.heads (t.zone r.zone) t.map).isSome = true) (hm : s.mayAllocate b = true) :
    s.startReassign b c = ((s.allocate b .mediaData (some r.lba)).setReassign b (some { r with slot := s.lowestFree })).approach b
      (Job.start .reassignRead (t.sectorAt r.zone (t.abandoned r) r.target.isSome (some r.lba)) [s.lowestFree]) := by
  have hroom : ¬ Config.maxDefects ≤ t.map.length := Nat.not_le.2 hl
  have hpool : (candidate t.heads (t.zone r.zone) t.map).isNone = false := by
    rw [← Option.not_isSome, hn, Bool.not_true]
  have hpasses : t.reassignRefusal r.zone = none := by simp [Tables.reassignRefusal, hroom, hpool]
  simp only [State.startReassign, ht, hr, hp, Bool.false_eq_true, if_false, hpasses, State.readAbandoned, hm, if_true]

theorem State.accepted_mayAllocate (s : State) (b : BayId) (c : Cmd) : (s.accepted b c).mayAllocate b = s.mayAllocate b := by
  cases b <;> rfl

theorem State.accepted_lowestFree (s : State) (b : BayId) (c : Cmd) : (s.accepted b c).lowestFree = s.lowestFree := by
  cases b <;> rfl

/-- The bay with a command accepted whose first sector operation has a buffer slot and begins with a seek: `r` is the reassign that
is under way with it. -/
def State.firstSeek (s : State) (b : BayId) (c : Cmd) (r : Option Reassign) (j : Job) (row : SeekRow) : State :=
  { s with
    slots := s.slots.set s.lowestFree (SlotRec.taken b .mediaData j.sector.lba)
    link := { s.link with reservations := s.link.reservations + 1 } }.modBay b fun y => { y with
      slot := some c
      power := { y.power with mode := .active }
      reassign := r
      job := some j
      pos := y.pos.seekStarted j.sector.track row }

/-- The heads of an accepted command leave another cylinder for that of its first sector. -/
theorem State.approach_accepted {s : State} {b : BayId} {t : Tables} {at_ : Track} (h : s.readyAt b t at_) (c : Cmd)
    (r : Option Reassign) (kind : JobKind) (x : Sector) {row : SeekRow} (hc : at_.cyl ≠ x.addr.cyl)
    (hrow : s.profile.find? (fun k => decide ((s.bay b).pos.distance x.track ≤ k.bound)) = some row) :
    (((s.accepted b c).allocate b .mediaData x.lba).setReassign b r).approach b (Job.start kind x [s.lowestFree]) =
      s.firstSeek b c r (Job.start kind x [s.lowestFree]) row := by
  have hactive : (s.bay b).power.inUse = { (s.bay b).power with mode := .active } := Power.inUse_idle h.idle
  obtain ⟨-, -, -, -, -, -, -, -, -, -, -, -, -, hpos, htarget, -, -, -, -, hvisit, hwait⟩ := h
  rw [State.approach_seek _ b _ at_ row (by cases b <;> exact hpos) (by cases b <;> exact htarget) hc
    (by cases b <;> exact hvisit) (by cases b <;> exact hwait) (by cases b <;> exact hrow), State.firstSeek]
  cases b <;> simp only [State.bay] at hactive <;>
    simp only [State.modBay, State.setBay, State.bay, State.setReassign, State.allocate, State.modSlot, State.accepted,
      State.modLink, hactive] <;> rfl

/-- The event in which a command is accepted with a first seek ends there. -/
theorem State.conclude_firstSeek {s : State} (h : s.calm) {b : BayId} {t : Tables} {at_ : Track} (hb : s.readyAt b t at_) (c : Cmd)
    (r : Option Reassign) (j : Job) (row : SeekRow) :
    (s.firstSeek b c r j row).conclude = .next (s.firstSeek b c r j row) := by
  have hbay : ((s.firstSeek b c r j row).bay b).power = (s.bay b).power.inUse := by
    rw [State.firstSeek, State.bay_modBay, Power.inUse_idle hb.idle]
    cases b <;> rfl
  have hother : (s.firstSeek b c r j row).bay (otherBay b) = s.bay (otherBay b) := by cases b <;> rfl
  refine State.conclude_calm _ (State.calm_of h ?_ ?_ ?_ ?_ ?_ ?_ ?_ (h.2.1.class_inUse hbay hother))
  all_goals cases b <;> rfl

/-- READ and VERIFY, accepted. -/
theorem State.mediaCommand_firstBlock {s : State} (h : s.calm) {b : BayId} {t : Tables} {at_ : Track} (hb : s.readyAt b t at_)
    {lba n : Nat} (hn : lba + n ≤ t.capacity) {x : Sector} (hx : t.translate lba = some x) (hc : at_.cyl ≠ x.addr.cyl)
    (hm : s.mayAllocate b = true) {row : SeekRow}
    (hrow : s.profile.find? (fun r => decide ((s.bay b).pos.distance x.track ≤ r.bound)) = some row) {op : CmdOp} {kind : JobKind}
    (hk : op = .read ∧ kind = .mediaRead ∨ op = .verify ∧ kind = .mediaVerify) :
    (s.mediaCommand b op lba n).conclude = .next (s.firstSeek b (Cmd.fresh op lba n s.dmt.caps) none
      (Job.start kind x [s.lowestFree]) row) := by
  have hreassign := hb.noReassign
  set c := Cmd.fresh op lba n s.dmt.caps with hcmd
  have hreads : (s.accepted b c).beginWork b = (s.accepted b c).takeBlock b := by
    rcases hk with ⟨rfl, -⟩ | ⟨rfl, -⟩ <;> simp [State.beginWork, hcmd, Cmd.fresh]
  have hsame : ((s.accepted b c).allocate b .mediaData x.lba).setReassign b none = (s.accepted b c).allocate b .mediaData x.lba :=
    State.modBay_same _ b _ (by cases b <;> simp only [State.bay] at hreassign <;> rw [← hreassign] <;> rfl)
  rw [State.mediaCommand_begins hb (op := op) ?_ ?_ (fun _ => hn) ?_, hreads,
    State.takeBlock_reads (c := c) (t := t) (x := x) (by simp) (by simpa using hb.tables) hx
      (by rwa [State.accepted_mayAllocate]) hk, State.accepted_lowestFree, ← hsame,
    State.approach_accepted hb c none kind x hc hrow, State.conclude_firstSeek h hb]
  all_goals rcases hk with ⟨rfl, -⟩ | ⟨rfl, -⟩ <;> simp [CmdOp.isFormat, CmdOp.makesProtectCheck]

/-- REASSIGN, accepted. -/
theorem State.mediaCommand_reassign {s : State} (h : s.calm) {b : BayId} {t : Tables} {at_ : Track} (hb : s.readyAt b t at_)
    {lba : Nat} (hn : lba + 1 ≤ t.capacity) (hp : (s.bay b).cart.wpProtected = false) {r : Reassign}
    (hr : t.reassignOf lba false 0 = some r) (hc : at_.cyl ≠ (t.abandoned r).cyl) (hl : t.map.length < 256)
    (hs : (candidate t.heads (t.zone r.zone) t.map).isSome = true) (hm : s.mayAllocate b = true) {x : Sector}
    (hx : x = t.sectorAt r.zone (t.abandoned r) r.target.isSome (some r.lba)) {row : SeekRow}
    (hrow : s.profile.find? (fun k => decide ((s.bay b).pos.distance x.track ≤ k.bound)) = some row) :
    (s.mediaCommand b .reassign lba 1).conclude = .next (s.firstSeek b (Cmd.fresh .reassign lba 1 s.dmt.caps)
      (some { r with slot := s.lowestFree }) (Job.start .reassignRead x [s.lowestFree]) row) := by
  subst hx
  set c := Cmd.fresh .reassign lba 1 s.dmt.caps with hcmd
  have hreads : (s.accepted b c).beginWork b = (s.accepted b c).startReassign b c := by simp [State.beginWork, hcmd, Cmd.fresh]
  rw [State.mediaCommand_begins hb (op := .reassign) nofun rfl (fun _ => hn) (fun _ => hp), hreads,
    State.startReassign_reads (t := t) (by simpa using hb.tables) hr (by simpa using hp) hl hs
      (by rwa [State.accepted_mayAllocate]),
    State.accepted_lowestFree]
  have happroach := State.approach_accepted hb c (some { r with slot := s.lowestFree }) .reassignRead _ hc hrow
  exact (congrArg State.conclude happroach).trans (State.conclude_firstSeek h hb _ _ _ _)

end Sys2Proof.Machine

namespace Sys2Proof
open Machine

/-- Settles O25: the first block of the command takes its buffer slot and the heads go to its holding sector. -/
theorem readAndVerifyTakeTheirFirstBlock : Obligations.ReadAndVerifyTakeTheirFirstBlock := by
  intro b lba count t at_ x row s hears hb hn hx hc hm hrow taken
  have hreassign := hb.noReassign
  have htaken : ∀ op kind, s.firstSeek b (Cmd.fresh op lba.toNat (countOf count) s.dmt.caps) none
      (Job.start kind x [s.lowestFree]) row = taken op kind := by
    intro op kind
    refine State.modBay_congr ?_
    cases b <;> simp only [State.bay] at hreassign ⊢ <;> rw [← hreassign] <;> rfl
  have hexec : ∀ op kind, op = .read ∧ kind = .mediaRead ∨ op = .verify ∧ kind = .mediaVerify →
      (s.mediaCommand b op lba.toNat (countOf count)).conclude = .next (taken op kind) := by
    intro op kind hk
    rw [State.mediaCommand_firstBlock hears.calm hb hn hx hc hm hrow hk, htaken]
  exact ⟨(hears.frame _ _).trans (hexec .read .mediaRead (.inl ⟨rfl, rfl⟩)),
    (hears.frame _ _).trans (hexec .verify .mediaVerify (.inr ⟨rfl, rfl⟩))⟩

/-- Settles O27: the sector that a reassign abandons is the one that its first operation reads. -/
theorem reassignReadsTheAbandonedSector : Obligations.ReassignReadsTheAbandonedSector := by
  intro b lba t at_ zone home old row s hears hb hp hn hhome hold hc hl hs hm hrow
  subst hold
  have hr : t.reassignOf lba.toNat false 0 = some
      { lba := lba.toNat, zone, home, target := t.targetAt home, auto := false, attempts := 0, candidate := 0, zeros := false,
        slot := 0 } := by
    simp [Tables.reassignOf, hhome]
  exact (hears.frame _ _).trans (State.mediaCommand_reassign hears.calm hb hn hp hr hc hl hs hm rfl hrow)

end Sys2Proof

/-! The frames of the report commands (O33). -/

namespace Sys2Proof.Machine

/-! ## Descriptors that join the queue (R176) -/

/-- A command has taken its slot with the reservation of its STATUS, and the frames of its report join the queue as far as it has
room; the rest stay pending. -/
def State.queued (s : State) (target : BayField) (frames : List ReportSource) : State :=
  let room := 16 - (s.link.queue.length + (s.link.reservations + 1))
  let descs := frames.map fun x => Desc.report target x true
  { s with link := { s.link with
      queue := s.link.queue ++ descs.take room, offered := descs.drop room, reservations := s.link.reservations + 1 } }

/-- Frames stay pending only where they find no room. -/
theorem State.queued_full (s : State) (target : BayField) (frames : List ReportSource) :
    (s.queued target frames).link.offered = [] ∨
      Config.dataInRoom < (s.queued target frames).link.queue.length + (s.queued target frames).link.reservations := by
  simp only [State.queued, List.drop_eq_nil_iff, List.length_append, List.length_take, Config.dataInRoom]
  omega

/-- An event that queues the frames of a report, and leaves the readiness classes in step, ends with that. -/
theorem State.conclude_queued {s : State} (h : s.calm) (u : State) (target : BayField) (frames : List ReportSource)
    (hl : u.link = (s.queued target frames).link) (h1 : u.resetHeld = s.resetHeld) (h2 : u.powerLoss = s.powerLoss)
    (h3 : u.signals = s.signals) (hc : ∀ b, (u.bay b).power.readiness = (u.bay b).power.mode.readiness) :
    u.conclude = .next u := by
  have hfull := s.queued_full target frames
  rw [← hl] at hfull
  exact State.conclude_offered s u h h1 h2 h3 (by rw [hl]; rfl) (by rw [hl]; rfl) (by rw [hl]; rfl) hc hfull

/-- With nothing pending, no descriptors that join change nothing. -/
theorem State.joined_nothing {s : State} (h : s.link.offered = []) :
    ({ s with link := { s.link with queue := s.link.queue ++ [], offered := [] } } : State) = s := by
  rw [List.append_nil, ← h]

/-- The frames of a report are offered in the event of acceptance (notes/assumptions/13.md): as many join as the queue has room
for. -/
theorem State.offerReports_joins (u : State) (target : BayField) (c : Cmd) (ho : u.link.offered = []) :
    u.offerReports target c =
      let descs := (u.reportSources target c).map fun x => Desc.report target x true
      let room := 16 - (u.link.queue.length + u.link.reservations)
      { u.modTarget target fun c' => { c' with framesLeft := (u.reportSources target c).length } with
        link := { u.link with queue := u.link.queue ++ descs.take room, offered := descs.drop room } } := by
  have hlink : ∀ f, (u.modTarget target f).link = u.link := by
    intro f
    cases target with
    | bay b => exact State.modBay_link u b _
    | device => rfl
  rw [State.offerReports_fold]
  generalize (u.reportSources target c).map (fun x => Desc.report target x true) = descs
  generalize hu : u.modTarget target _ = w
  rw [← hlink, hu] at ho ⊢
  cases descs with
  | nil =>
    simp only [List.foldl_nil, List.take_nil, List.drop_nil]
    exact (State.joined_nothing ho).symm
  | cons d rest =>
    rw [State.offer_all _ _ (List.cons_ne_nil d rest), ho]
    rfl

/-- The frames of a table image of `n` bytes: 512 bytes a frame (R187). -/
abbrev tableParts (id : TableId) (n : Nat) : List ReportSource := (List.range ((n + 511) / 512)).map (ReportSource.table id)

theorem State.reportSources_table (s : State) (target : BayField) {c : Cmd} {id : TableId} (hc : c.op = .readTable id) :
    s.reportSources target c = tableParts id (s.tableImage target id).length := by
  cases target <;> simp [State.reportSources, hc, imageFrames]

/-! ## Reports aimed at DEVICE (R187) -/

/-- A report aimed at DEVICE, with the device slot free, takes the slot and queues its frames. -/
theorem State.reportDevice_joins {s : State} (h : s.calm) (hd : s.deviceSlot = none) (op : CmdOp) (frames : List ReportSource)
    (hf : s.reportSources .device (Cmd.fresh op 0 0 s.dmt.caps) = frames) :
    (s.reportDevice op).conclude = .next { s.queued .device frames with
      deviceSlot := some { Cmd.fresh op 0 0 s.dmt.caps with framesLeft := frames.length } } := by
  have hreport : s.reportDevice op = { s.queued .device frames with
      deviceSlot := some { Cmd.fresh op 0 0 s.dmt.caps with framesLeft := frames.length } } := by
    subst hf
    rw [State.reportDevice, if_neg (by simp [hd]), State.offerReports_joins (s.takeDeviceSlot _) _ _ h.2.1.2.1]
    rfl
  rw [hreport]
  exact State.conclude_queued h _ .device frames rfl rfl rfl rfl h.2.1.class

/-! ## Reports aimed at a bay (R40, R41, R108, R187) -/

/-- The operations that send report frames of a bay. -/
abbrev CmdOp.reports (op : CmdOp) : Prop :=
  op = .reportCartridge ∨ op = .reportCapacity ∨ op = .reportDefects ∨ ∃ id, op = .readTable id

/-- A report needs no heads, and begins by offering its frames. -/
theorem CmdOp.reports.begins {c : Cmd} (h : c.op.reports) :
    c.op.needsHeads = false ∧ c.op ≠ .wake ∧ c.op.isFormat = false ∧
      ∀ (u : State) (b : BayId), (u.bay b).slot = some c → u.beginWork b = u.offerReports (.bay b) c := by
  rcases h with h | h | h | ⟨id, h⟩ <;> rw [h] <;>
    exact ⟨rfl, nofun, rfl, fun u b hs => by simp [State.beginWork, hs, h]⟩

/-- A bay after a report command has taken its slot, with the unit-changed flag as told. -/
def Bay.reporting (x : Bay) (c : Cmd) (unitChanged : Bool) : Bay := { x with
  slot := some c
  cart := { x.cart with unitChanged := unitChanged }
  power := x.power.inUse }

/-- A report command that a bay accepts with no standby entry under way queues its frames. -/
theorem State.report_joins {s : State} (h : s.calm) {b : BayId} (he : (s.bay b).power.entry = none) {c : Cmd} (hc : c.op.reports)
    (unitChanged : Bool) {frames : List ReportSource}
    (hf : (s.modBay b fun y => y.reporting c unitChanged).reportSources (.bay b) c = frames) :
    (((s.modCart b fun k => { k with unitChanged := unitChanged }).takeSlot b c).commandAccepted b c.op).conclude =
      .next ((s.queued (.bay b) frames).modBay b fun y => y.reporting { c with framesLeft := frames.length } unitChanged) := by
  obtain ⟨hheads, hwake, hformat, hbegins⟩ := hc.begins
  set u := (s.modCart b fun k => { k with unitChanged := unitChanged }).accepted b c with hu
  have hframes : u.reportSources (.bay b) c = frames := by
    rw [← hf]
    cases b <;> rfl
  have hqueued : u.offerReports (.bay b) c =
      (s.queued (.bay b) frames).modBay b fun y => y.reporting { c with framesLeft := frames.length } unitChanged := by
    rw [State.offerReports_joins u _ _ (by rw [hu]; cases b <;> exact h.2.1.2.1), hframes]
    cases b <;> rfl
  rw [State.takeSlot_begins _ b c (by simpa using he) (.inr hheads) hwake hformat (.inr hheads), hbegins _ b (by simp), ← hu,
    hqueued]
  refine State.conclude_queued h _ (.bay b) frames ?_ ?_ ?_ ?_ (h.2.1.class_inUse (b := b) ?_ ?_)
  all_goals cases b <;> rfl

/-- A report that leaves the unit-changed flag as it is. -/
theorem State.report_joins_same {s : State} (h : s.calm) {b : BayId} (he : (s.bay b).power.entry = none) {c : Cmd}
    (hc : c.op.reports) {frames : List ReportSource}
    (hf : (s.modBay b fun y => y.reporting c (s.bay b).cart.unitChanged).reportSources (.bay b) c = frames) :
    ((s.takeSlot b c).commandAccepted b c.op).conclude = .next ((s.queued (.bay b) frames).modBay b fun y =>
      y.reporting { c with framesLeft := frames.length } (s.bay b).cart.unitChanged) := by
  have hsame : (s.modCart b fun k => { k with unitChanged := (s.bay b).cart.unitChanged }) = s := State.modBay_same s b _ rfl
  rw [← State.report_joins h he hc _ hf, hsame]

/-- REPORT CARTRIDGE. -/
theorem State.takeReportCartridge_joins {s : State} (h : s.calm) {b : BayId} (hp : s.bayPresent b = true)
    (hs : (s.bay b).slot = none) (he : (s.bay b).power.entry = none) :
    (s.takeReportCartridge b).conclude =
      .next ((s.queued (.bay b) [.bytes (cartridgePayload (s.bay b) (s.bay b).cart.unitChanged)]).modBay b fun y => y.reporting
        { Cmd.fresh .reportCartridge 0 0 s.dmt.caps with framesLeft := 1, unitWas := (s.bay b).cart.unitChanged } false) := by
  set c : Cmd := { Cmd.fresh .reportCartridge 0 0 s.dmt.caps with unitWas := (s.bay b).cart.unitChanged } with hc
  have htakes : s.takeReportCartridge b =
      ((s.modCart b fun k => { k with unitChanged := false }).takeSlot b c).commandAccepted b c.op := by
    rw [State.takeReportCartridge, if_neg (by simp [hp]), if_neg (by simp [hs])]
    cases b <;> rfl
  rw [htakes]
  exact State.report_joins h he (.inl rfl) false (by cases b <;> rfl)

/-- REPORT CAPACITY and REPORT DEFECTS of a MOUNTED bay. -/
theorem State.tableReport_joins {s : State} (h : s.calm) {b : BayId} (hp : s.bayPresent b = true)
    (hs : (s.bay b).slot = none) (he : (s.bay b).power.entry = none) (hm : (s.bay b).cart.state = .mounted) {op : CmdOp}
    (ho : op.reports) {frames : List ReportSource}
    (hf : (s.modBay b fun y => y.reporting (Cmd.fresh op 0 0 s.dmt.caps) (s.bay b).cart.unitChanged).reportSources (.bay b)
      (Cmd.fresh op 0 0 s.dmt.caps) = frames) :
    (s.tableReport b op).conclude = .next ((s.queued (.bay b) frames).modBay b fun y =>
      y.reporting { Cmd.fresh op 0 0 s.dmt.caps with framesLeft := frames.length } (s.bay b).cart.unitChanged) := by
  have hpasses : s.mountedRefusal b = none := by simp [State.mountedRefusal, hp, hs, hm]
  rw [State.tableReport, hpasses]
  exact State.report_joins_same h he (c := Cmd.fresh op 0 0 s.dmt.caps) ho hf

/-- READ TABLE of a staged table. -/
theorem State.readBayTable_joins {s : State} (h : s.calm) {b : BayId} (hp : s.bayPresent b = true)
    (hs : (s.bay b).slot = none) (he : (s.bay b).power.entry = none) (id : TableId) (body : List Byte) (missing : Detail) :
    (s.readBayTable b id (some body) missing).conclude =
      let frames := tableParts id (s.tableImage (.bay b) id).length
      .next ((s.queued (.bay b) frames).modBay b fun y => y.reporting
        { Cmd.fresh (.readTable id) 0 0 s.dmt.caps with framesLeft := frames.length } (s.bay b).cart.unitChanged) := by
  rw [State.readBayTable, if_neg (by simp [hp]), if_neg (by simp [hs]), if_neg nofun]
  refine State.report_joins_same h he (c := Cmd.fresh (.readTable id) 0 0 s.dmt.caps) (.inr (.inr (.inr ⟨id, rfl⟩))) ?_
  rw [State.reportSources_table _ (.bay b) rfl]
  cases b <;> cases id <;> rfl

/-- READ TABLE of a table that is not staged. -/
theorem State.readBayTable_notStaged {s : State} (h : s.calm) {b : BayId} (hp : s.bayPresent b = true)
    (hs : (s.bay b).slot = none) (id : TableId) (missing : Detail) :
    (s.readBayTable b id none missing).conclude =
      .next (s.senseRefusal b (CmdOp.readTable id).code (CmdResult.plain .notStaged missing) (s.bay b).cart.unitChanged) := by
  have hrefuses := s.refuse_senses b (CmdOp.readTable id).code (CmdResult.plain .notStaged missing) nofun nofun rfl
  rw [State.clearUnitChanged_other (r := CmdResult.plain .notStaged missing) nofun, if_neg nofun] at hrefuses
  rw [State.readBayTable, if_neg (by simp [hp]), if_neg (by simp [hs]), if_pos Option.isNone_none, hrefuses,
    s.conclude_senseRefusal h]

theorem withCrc_length (body : List Byte) : (withCrc body).length = body.length + 2 := by
  simp [withCrc, beBytes_length]

/-- The bytes of a staged table that are sent at zero change no length (R181). -/
theorem State.tableImage_zone_length {s : State} {b : BayId} {body : List Byte} (h : (s.bay b).tu.stagedZone = some body) :
    (s.tableImage (.bay b) .zone).length = (withCrc body).length := by
  simp [State.tableImage, h, withCrc_length]

theorem State.tableImage_list_length {s : State} {b : BayId} {body : List Byte} (h : (s.bay b).tu.stagedList = some body) :
    (s.tableImage (.bay b) .defectList).length = (withCrc body).length := by
  simp [State.tableImage, h, withCrc_length]

end Sys2Proof.Machine

namespace Sys2Proof
open Machine

/-- Settles O33: each report is a command whose frames are offered in the event in which it takes its slot. -/
theorem reportsJoinTheQueue : Obligations.ReportsJoinTheQueue := by
  intro s hears room queued parts
  have h := hears.calm
  refine ⟨fun hd => ?_, fun b hp hs he => ?_⟩
  · have hdevice : ∀ command op frames, exec command s = (s.reportDevice op).conclude →
        s.reportSources .device (Cmd.fresh op 0 0 s.dmt.caps) = frames → exec command s = .next { queued .device frames with
          deviceSlot := some { Cmd.fresh op 0 0 s.dmt.caps with framesLeft := frames.length } } :=
      fun _ op frames hexec hf => hexec.trans (State.reportDevice_joins h hd op frames hf)
    simp only [List.forall_mem_cons]
    refine ⟨?_, ?_, ?_, fun _ hx => absurd hx List.not_mem_nil⟩
    · exact hdevice .readTableMode (.readTable .mode) _ (hears.frame _ _) (s.reportSources_table .device rfl)
    · exact hdevice .readTableProfile (.readTable .profile) _ (hears.frame _ _) (s.reportSources_table .device rfl)
    · exact hdevice .identify .identify _ (hears.frame _ _) rfl
  · intro taken changed
    have hstaged : ∀ command id staged missing, exec command s = (s.readBayTable b id staged missing).conclude →
        (∀ body, staged = some body → (s.tableImage (.bay b) id).length = (withCrc body).length) →
        (∀ body, staged = some body → exec command s =
            .next (taken (.readTable id) (parts id (withCrc body)) false changed)) ∧
          (staged = none → exec command s =
            .next (s.senseRefusal b 0x41 (CmdResult.plain .notStaged missing) (s.bay b).cart.unitChanged)) := by
      intro command id staged missing hexec hlength
      refine ⟨fun body hbody => ?_, fun hnone => ?_⟩
      · rw [hexec, hbody, State.readBayTable_joins h hp hs he, hlength body hbody]
        rfl
      · rw [hexec, hnone, State.readBayTable_notStaged h hp hs]
        rfl
    refine ⟨(hears.frame _ _).trans (State.takeReportCartridge_joins h hp hs he), fun t hm ht => ⟨?_, ?_⟩, ?_⟩
    · refine (hears.frame _ _).trans (State.tableReport_joins h hp hs he hm (.inr (.inl rfl)) ?_)
      simp [State.reportSources, Bay.reporting, Cmd.fresh, ht]
    · refine (hears.frame _ _).trans (State.tableReport_joins h hp hs he hm (.inr (.inr (.inl rfl))) ?_)
      simp [State.reportSources, Bay.reporting, Cmd.fresh, ht]
    · simp only [List.forall_mem_cons]
      refine ⟨?_, ?_, fun _ hx => absurd hx List.not_mem_nil⟩
      · exact hstaged (.readTableZone b) .zone _ _ (hears.frame _ _) fun _ => State.tableImage_zone_length
      · exact hstaged (.readTableDefectList b) .defectList _ _ (hears.frame _ _) fun _ => State.tableImage_list_length

end Sys2Proof

/-! What the spin-up allowance and the power-fail latch depend on, and what leaves it as it is (O4, O5). -/

namespace Sys2Proof.Machine

/-! ## What the allowance and the latch see -/

/-- What the invariants of the spin-up allowance and of the power-fail latch see of a part: the arbiter, the spindle states,
the BAYS strap and the latch (R49, R60, R169, R192). -/
structure SpinView where
  holder : Option BayId
  waiter : Option BayId
  spinA : SpinState
  spinB : SpinState
  twoBays : Bool
  powerLoss : Bool

/-- The part as the allowance and the latch see it. -/
def State.spinView (s : State) : SpinView where
  holder := s.allowHolder
  waiter := s.allowWaiter
  spinA := s.bayA.spindle.state
  spinB := s.bayB.spindle.state
  twoBays := s.twoBays
  powerLoss := s.powerLoss

/-! ## Updates that it does not see -/

/-- An update of a bay that keeps its spindle state. -/
@[simp] theorem State.modBay_spinView (s : State) (b : BayId) (f : Bay → Bay)
    (h : (f (s.bay b)).spindle.state = (s.bay b).spindle.state) : (s.modBay b f).spinView = s.spinView := by
  cases b <;> simp only [State.bay] at h <;> simp [State.spinView, State.modBay, State.setBay, State.bay, h]

@[simp] theorem State.modSpindle_spinView (s : State) (b : BayId) (f : Spindle → Spindle)
    (h : (f (s.bay b).spindle).state = (s.bay b).spindle.state) : (s.modSpindle b f).spinView = s.spinView :=
  s.modBay_spinView b _ h

section
variable (s : State) (b : BayId)

/-! ### Shared operations -/

@[simp] theorem State.modPos_spinView (f : Positioner → Positioner) : (s.modPos b f).spinView = s.spinView :=
  by simp [State.modPos]
@[simp] theorem State.modCart_spinView (f : Cartridge → Cartridge) : (s.modCart b f).spinView = s.spinView :=
  by simp [State.modCart]
@[simp] theorem State.modTu_spinView (f : Translation → Translation) : (s.modTu b f).spinView = s.spinView :=
  by simp [State.modTu]
@[simp] theorem State.modPower_spinView (f : Power → Power) : (s.modPower b f).spinView = s.spinView := by simp [State.modPower]
@[simp] theorem State.modCmd_spinView (f : Cmd → Cmd) : (s.modCmd b f).spinView = s.spinView := by simp [State.modCmd]
@[simp] theorem State.modJob_spinView (f : Job → Job) : (s.modJob b f).spinView = s.spinView := by simp [State.modJob]
@[simp] theorem State.setJob_spinView (j : Option Job) : (s.setJob b j).spinView = s.spinView := by simp [State.setJob]
@[simp] theorem State.modChan_spinView (f : Channel → Channel) : (s.modChan f).spinView = s.spinView := rfl
@[simp] theorem State.modLink_spinView (f : Link → Link) : (s.modLink f).spinView = s.spinView := rfl
@[simp] theorem State.tell_spinView (m : Signal) : (s.tell m).spinView = s.spinView := rfl
@[simp] theorem State.raise_spinView (k : AttnKind) (payload : Byte) : (s.raise b k payload).spinView = s.spinView :=
  by simp [State.raise]
@[simp] theorem State.writeSense_spinView (command : Byte) (count : Nat) (r : CmdResult) :
    (s.writeSense b command count r).spinView = s.spinView :=
  by simp [State.writeSense]
@[simp] theorem State.countRecovered_spinView : (s.countRecovered b).spinView = s.spinView := by simp [State.countRecovered]
@[simp] theorem State.modSlot_spinView (k : Nat) (f : SlotRec → SlotRec) : (s.modSlot k f).spinView = s.spinView := rfl
@[simp] theorem State.allocate_spinView (purpose : Purpose) (lba : Option Nat) :
    (s.allocate b purpose lba).spinView = s.spinView :=
  rfl
@[simp] theorem State.freeSlot_spinView (k : Nat) : (s.freeSlot k).spinView = s.spinView := by
  fun_cases State.freeSlot s k <;> simp
@[simp] theorem State.freeWhere_spinView (p : SlotRec → Bool) : (s.freeWhere b p).spinView = s.spinView := rfl
@[simp] theorem State.joinPending_spinView : (s.joinPending).spinView = s.spinView := rfl
@[simp] theorem State.offer_spinView (d : Desc) : (s.offer d).spinView = s.spinView := rfl
@[simp] theorem State.enqueue_spinView (d : Desc) : (s.enqueue d).spinView = s.spinView := rfl
@[simp] theorem State.dropDescs_spinView (p : Desc → Bool) : (s.dropDescs p).spinView = s.spinView := rfl
@[simp] theorem State.restartIdleTimers_spinView : (s.restartIdleTimers b).spinView = s.spinView :=
  by simp [State.restartIdleTimers]

/-- Changes made one after another. -/
theorem State.foldl_spinView {α : Type} (f : State → α → State) (h : ∀ s x, (f s x).spinView = s.spinView) (l : List α) :
    ∀ s : State, (l.foldl f s).spinView = s.spinView := by
  induction l with
  | nil => exact fun _ => rfl
  | cons x rest ih => exact fun s => (ih _).trans (h s x)

/-! ### Frames that begin -/

@[simp] theorem State.beginFrame_spinView : (s.beginFrame).spinView = s.spinView := by
  simp only [State.beginFrame]
  (repeat' split) <;> simp
@[simp] theorem State.kick_spinView : (s.kick).spinView = s.spinView := by
  fun_cases State.kick s <;> simp

/-! ### The Data Channel -/

@[simp] theorem State.grantChannel_spinView : (s.grantChannel b).spinView = s.spinView := by
  fun_cases State.grantChannel s b <;> simp
@[simp] theorem State.requestChannel_spinView : (s.requestChannel b).spinView = s.spinView := by
  fun_cases State.requestChannel s b <;> simp
@[simp] theorem State.releaseChannel_spinView : (s.releaseChannel b).spinView = s.spinView := by
  fun_cases State.releaseChannel s b <;> simp
@[simp] theorem State.withdrawChannel_spinView : (s.withdrawChannel b).spinView = s.spinView := by
  fun_cases State.withdrawChannel s b <;> simp
@[simp] theorem State.modVisit_spinView (f : Visit → Visit) : (s.modVisit f).spinView = s.spinView := rfl
@[simp] theorem State.endSector_spinView (m : Signal) : (s.endSector b m).spinView = s.spinView := rfl
@[simp] theorem State.afterFailedTry_spinView : (s.afterFailedTry b).spinView = s.spinView := by
  fun_cases State.afterFailedTry s b <;> simp +zetaDelta
@[simp] theorem State.countTry_spinView : (s.countTry b).spinView = s.spinView := by simp [State.countTry]
@[simp] theorem State.slotBackToFull_spinView : (s.slotBackToFull b).spinView = s.spinView := by
  fun_cases State.slotBackToFull s b <;> simp
@[simp] theorem State.tearField_spinView : (s.tearField b).spinView = s.spinView := by
  fun_cases State.tearField s b <;> simp
@[simp] theorem State.leaveTrack_spinView : (s.leaveTrack b).spinView = s.spinView := by
  simp [State.leaveTrack, apply_ite State.spinView]
@[simp] theorem State.endProtected_spinView : (s.endProtected b).spinView = s.spinView := by simp [State.endProtected]
@[simp] theorem State.openGate_spinView (j : Job) : (s.openGate b j).spinView = s.spinView := by
  simp only [State.openGate]
  (repeat' split) <;> simp
@[simp] theorem State.openTrack_spinView (j : Job) : (s.openTrack b j).spinView = s.spinView := by
  fun_cases State.openTrack s b j <;> simp
@[simp] theorem State.channelSample_spinView (indexFlag : Bool) : (s.channelSample b indexFlag).spinView = s.spinView := by
  fun_cases State.channelSample s b indexFlag <;> simp +zetaDelta

/-! ### The end of a command -/

@[simp] theorem State.takeSlot_spinView (c : Cmd) : (s.takeSlot b c).spinView = s.spinView := by simp [State.takeSlot]
@[simp] theorem State.refuse_spinView (code : Byte) (r : CmdResult) : (s.refuse b code r).spinView = s.spinView := by
  simp [State.refuse, apply_ite State.spinView]
@[simp] theorem State.answer_spinView (target : BayField) (c : Completion) (d : Detail) (code : Byte) :
    (s.answer target c d code).spinView = s.spinView :=
  rfl
@[simp] theorem State.dropJob_spinView : (s.dropJob b).spinView = s.spinView := by
  fun_cases State.dropJob s b <;> simp +zetaDelta
@[simp] theorem State.dropCommandJob_spinView : (s.dropCommandJob b).spinView = s.spinView := by
  fun_cases State.dropCommandJob s b <;> simp
@[simp] theorem State.freeCommandSlots_spinView (c : Cmd) (r : CmdResult) : (s.freeCommandSlots b c r).spinView = s.spinView := by
  simp only [State.freeCommandSlots]
  (repeat' split) <;> simp
@[simp] theorem State.dropReports_spinView (target : BayField) : (s.dropReports target).spinView = s.spinView := rfl
@[simp] theorem State.releaseStaging_spinView (target : BayField) : (s.releaseStaging target).spinView = s.spinView := by
  unfold State.releaseStaging
  split <;> rfl
@[simp] theorem State.postStatus_spinView (r : CmdResult) : (s.postStatus b r).spinView = s.spinView := by
  fun_cases State.postStatus s b r <;> simp +zetaDelta [apply_ite State.spinView]
@[simp] theorem State.finishCmd_spinView (r : CmdResult) : (s.finishCmd b r).spinView = s.spinView := by
  fun_cases State.finishCmd s b r <;> simp +zetaDelta [apply_ite State.spinView]
@[simp] theorem State.failCmd_spinView (r : CmdResult) : (s.failCmd b r).spinView = s.spinView := by
  fun_cases State.failCmd s b r <;> simp
@[simp] theorem State.finishDevice_spinView (c : Completion) (d : Detail) : (s.finishDevice c d).spinView = s.spinView := by
  have hfreed : ({ s with deviceSlot := none } : State).spinView = s.spinView := rfl
  fun_cases State.finishDevice s c d <;> simp +zetaDelta [hfreed]
@[simp] theorem State.finishTarget_spinView (target : BayField) (c : Completion) (d : Detail) :
    (s.finishTarget target c d).spinView = s.spinView := by
  fun_cases State.finishTarget s target c d <;> simp

/-! ### The Positioner -/

@[simp] theorem State.jobLosesHeads_spinView : (s.jobLosesHeads b).spinView = s.spinView := by
  fun_cases State.jobLosesHeads s b <;> simp
@[simp] theorem State.answerUnloaded_spinView : (s.answerUnloaded b).spinView = s.spinView := by
  simp [State.answerUnloaded, apply_ite State.spinView]
@[simp] theorem State.enterUnloading_spinView (keep : Bool) : (s.enterUnloading b keep).spinView = s.spinView := by
  simp [State.enterUnloading, apply_ite State.spinView]
@[simp] theorem State.enterRetracting_spinView : (s.enterRetracting b).spinView = s.spinView := by simp [State.enterRetracting]
@[simp] theorem State.enterActFault_spinView (d : ActDetail) : (s.enterActFault b d).spinView = s.spinView :=
  by simp [State.enterActFault]
@[simp] theorem State.unloadOrder_spinView : (s.unloadOrder b).spinView = s.spinView := by
  fun_cases State.unloadOrder s b <;> simp +zetaDelta [apply_ite State.spinView]
@[simp] theorem State.retractOrder_spinView : (s.retractOrder b).spinView = s.spinView := by
  fun_cases State.retractOrder s b <;> simp
@[simp] theorem State.enterLoading_spinView : (s.enterLoading b).spinView = s.spinView := by simp [State.enterLoading]
@[simp] theorem State.loadFromParked_spinView (fresh : Bool) (seek : Option Track) :
    (s.loadFromParked b fresh seek).spinView = s.spinView := by
  fun_cases State.loadFromParked s b fresh seek <;> simp
@[simp] theorem State.startSeek_spinView (t : Track) : (s.startSeek b t).spinView = s.spinView := by simp [State.startSeek]
@[simp] theorem State.startHeadChange_spinView (t : Track) : (s.startHeadChange b t).spinView = s.spinView :=
  by simp [State.startHeadChange]
@[simp] theorem State.seekFromFollowing_spinView (t : Track) (owned : Bool) :
    (s.seekFromFollowing b t owned).spinView = s.spinView := by
  fun_cases State.seekFromFollowing s b t owned <;> simp +zetaDelta
@[simp] theorem State.holdSeek_spinView (t : Track) (owned : Bool) : (s.holdSeek b t owned).spinView = s.spinView := by
  fun_cases State.holdSeek s b t owned <;> simp +zetaDelta
@[simp] theorem State.seekOrder_spinView (t : Track) (owned : Bool) : (s.seekOrder b t owned).spinView = s.spinView := by
  fun_cases State.seekOrder s b t owned <;> simp
@[simp] theorem State.loadOrder_spinView (fresh : Bool) (seek : Option Track) :
    (s.loadOrder b fresh seek).spinView = s.spinView := by
  fun_cases State.loadOrder s b fresh seek <;> simp +zetaDelta
@[simp] theorem State.takeHeldLoad_spinView : (s.takeHeldLoad b).spinView = s.spinView := by
  fun_cases State.takeHeldLoad s b <;> simp
@[simp] theorem State.enterPendingFault_spinView : (s.enterPendingFault b).spinView = s.spinView := by
  fun_cases State.enterPendingFault s b <;> simp
@[simp] theorem State.onParked_spinView : (s.onParked b).spinView = s.spinView := by
  fun_cases State.onParked s b <;> simp +zetaDelta [apply_ite State.spinView]
@[simp] theorem State.stepParked_spinView : (s.stepParked b).spinView = s.spinView := by
  fun_cases State.stepParked s b <;> simp
@[simp] theorem State.enterRecalibrating_spinView (givingUp : Bool) : (s.enterRecalibrating b givingUp).spinView = s.spinView :=
  by simp [State.enterRecalibrating]
@[simp] theorem State.seekFailure_spinView (cause : SeekCause) : (s.seekFailure b cause).spinView = s.spinView :=
  by simp [State.seekFailure]
@[simp] theorem State.takeHeldSeek_spinView : (s.takeHeldSeek b).spinView = s.spinView := by
  fun_cases State.takeHeldSeek s b <;> simp
@[simp] theorem State.enterFollowing_spinView (t : Track) (x : Sample) (failed : Bool) :
    (s.enterFollowing b t x failed).spinView = s.spinView := by
  simp only [State.enterFollowing]
  (repeat' split) <;> simp
@[simp] theorem State.recalibrated_spinView (x : Sample) : (s.recalibrated b x).spinView = s.spinView := by
  fun_cases State.recalibrated s b x <;> simp +zetaDelta
@[simp] theorem State.offCylinder_spinView : (s.offCylinder b).spinView = s.spinView := by simp [State.offCylinder]
@[simp] theorem State.lostServo_spinView : (s.lostServo b).spinView = s.spinView := by simp [State.lostServo]
@[simp] theorem State.enterCalibrating_spinView : (s.enterCalibrating b).spinView = s.spinView :=
  by simp [State.enterCalibrating]
@[simp] theorem State.loadFails_spinView (d : ActDetail) : (s.loadFails b d).spinView = s.spinView := by
  fun_cases State.loadFails s b d <;> simp +zetaDelta
@[simp] theorem State.closingSeek_spinView : (s.closingSeek b).spinView = s.spinView := by
  fun_cases State.closingSeek s b <;> simp
@[simp] theorem State.gainSample_spinView (x : Sample) : (s.gainSample b x).spinView = s.spinView := by
  fun_cases State.gainSample s b x <;> simp
@[simp] theorem State.biasSample_spinView (x : Sample) : (s.biasSample b x).spinView = s.spinView := by
  fun_cases State.biasSample s b x <;> simp
@[simp] theorem State.recordSample_spinView (x : Sample) : (s.recordSample b x).spinView = s.spinView :=
  by simp [State.recordSample]
@[simp] theorem State.loadingSample_spinView (x : Sample) : (s.loadingSample b x).spinView = s.spinView := by
  fun_cases State.loadingSample s b x <;> simp
@[simp] theorem State.seekingSample_spinView (x : Sample) : (s.seekingSample b x).spinView = s.spinView := by
  fun_cases State.seekingSample s b x <;> simp
@[simp] theorem State.settlingSample_spinView (x : Sample) : (s.settlingSample b x).spinView = s.spinView := by
  fun_cases State.settlingSample s b x <;> simp +zetaDelta
@[simp] theorem State.followingSample_spinView (x : Sample) : (s.followingSample b x).spinView = s.spinView := by
  fun_cases State.followingSample s b x <;> simp +zetaDelta
@[simp] theorem State.actOnSample_spinView (x : Sample) : (s.actOnSample b x).spinView = s.spinView := by
  fun_cases State.actOnSample s b x <;> simp

/-! ### Blocks and reassigns -/

@[simp] theorem State.atTrackNow_spinView (j : Job) : (s.atTrackNow b j).spinView = s.spinView := by
  fun_cases State.atTrackNow s b j <;> simp +zetaDelta
@[simp] theorem State.approach_spinView (j : Job) : (s.approach b j).spinView = s.spinView := by
  fun_cases State.approach s b j <;> simp
@[simp] theorem State.takeBlock_spinView : (s.takeBlock b).spinView = s.spinView := by
  fun_cases State.takeBlock s b <;> simp
@[simp] theorem State.nextBlock_spinView : (s.nextBlock b).spinView = s.spinView := by
  fun_cases State.nextBlock s b <;> simp
@[simp] theorem State.blockGood_spinView (c : Cmd) (j : Job) (recovered : Bool) :
    (s.blockGood b c j recovered).spinView = s.spinView := by
  simp only [State.blockGood]
  (repeat' split) <;> simp
@[simp] theorem State.blockFailed_spinView (j : Job) (r : SectorResult) : (s.blockFailed b j r).spinView = s.spinView :=
  by simp [State.blockFailed]
@[simp] theorem State.setReassign_spinView (r : Option Reassign) : (s.setReassign b r).spinView = s.spinView :=
  by simp [State.setReassign]
@[simp] theorem State.reassignFails_spinView (r : Reassign) (code : Completion) :
    (s.reassignFails b r code).spinView = s.spinView := by
  fun_cases State.reassignFails s b r code <;> simp
@[simp] theorem State.reassignEnds_spinView (r : Reassign) (j : Job) (result : SectorResult) :
    (s.reassignEnds b r j result).spinView = s.spinView :=
  by simp [State.reassignEnds]
@[simp] theorem State.reassignStopped_spinView (r : Reassign) (cause : StopCause) :
    (s.reassignStopped b r cause).spinView = s.spinView := by
  fun_cases State.reassignStopped s b r cause <;> simp
@[simp] theorem State.attemptSpare_spinView (r : Reassign) : (s.attemptSpare b r).spinView = s.spinView := by
  fun_cases State.attemptSpare s b r <;> simp
@[simp] theorem State.readAbandoned_spinView (r : Reassign) : (s.readAbandoned b r).spinView = s.spinView := by
  fun_cases State.readAbandoned s b r <;> simp
@[simp] theorem State.startReassign_spinView (c : Cmd) : (s.startReassign b c).spinView = s.spinView := by
  fun_cases State.startReassign s b c <;> simp
@[simp] theorem State.startAuto_spinView (j : Job) : (s.startAuto b j).spinView = s.spinView := by
  fun_cases State.startAuto s b j <;> simp
@[simp] theorem State.oldDataInHand_spinView (r : Reassign) (zeros : Bool) :
    (s.oldDataInHand b r zeros).spinView = s.spinView := by
  have hfilled : ∀ f, (((s.modSlot r.slot f).setJob b none).setReassign b (some { r with zeros })).spinView = s.spinView := by
    simp
  fun_cases State.oldDataInHand s b r zeros
  · exact (State.reassignStopped_spinView ..).trans (hfilled _)
  · exact (State.attemptSpare_spinView ..).trans (hfilled _)
@[simp] theorem State.changeTables_spinView (t : Tables) : (s.changeTables b t).spinView = s.spinView :=
  by simp [State.changeTables]
@[simp] theorem State.sparePlaced_spinView (r : Reassign) (t : Tables) : (s.sparePlaced b r t).spinView = s.spinView := by
  fun_cases State.sparePlaced s b r t <;> simp +zetaDelta
@[simp] theorem State.spareFailed_spinView (r : Reassign) (t : Tables) : (s.spareFailed b r t).spinView = s.spinView := by
  fun_cases State.spareFailed s b r t <;> simp +zetaDelta
@[simp] theorem State.spareResult_spinView (r : Reassign) (j : Job) (result : SectorResult) :
    (s.spareResult b r j result).spinView = s.spinView := by
  fun_cases State.spareResult s b r j result <;> simp
@[simp] theorem State.oldReadResult_spinView (r : Reassign) (j : Job) (result : SectorResult) :
    (s.oldReadResult b r j result).spinView = s.spinView := by
  fun_cases State.oldReadResult s b r j result <;> simp
@[simp] theorem State.blockResult_spinView (j : Job) (r : SectorResult) : (s.blockResult b j r).spinView = s.spinView := by
  fun_cases State.blockResult s b j r <;> simp

/-! ### Heads that leave -/

@[simp] theorem State.headsLeave_spinView : (s.headsLeave b).spinView = s.spinView := by
  fun_cases State.headsLeave s b <;> simp

/-! ### The Cartridge Handler and Bay Power Control -/

@[simp] theorem State.setMode_spinView (m : PowerMode) : (s.setMode b m).spinView = s.spinView := by simp [State.setMode]
@[simp] theorem State.leavePower_spinView : (s.leavePower b).spinView = s.spinView := by simp [State.leavePower]
@[simp] theorem State.endEntry_spinView : (s.endEntry b).spinView = s.spinView := by simp [State.endEntry]
@[simp] theorem State.ejectPhase_spinView (phase : EjectPhase) : (s.ejectPhase b phase).spinView = s.spinView :=
  by simp [State.ejectPhase]
@[simp] theorem State.enterUnmounting_spinView : (s.enterUnmounting b).spinView = s.spinView := by
  simp [State.enterUnmounting, apply_ite State.spinView]
@[simp] theorem State.ejectDone_spinView : (s.ejectDone b).spinView = s.spinView := by
  fun_cases State.ejectDone s b <;> simp +zetaDelta
@[simp] theorem State.releaseConfirmed_spinView : (s.releaseConfirmed b).spinView = s.spinView :=
  by simp [State.releaseConfirmed]
@[simp] theorem State.driveRelease_spinView : (s.driveRelease b).spinView = s.spinView := by simp [State.driveRelease]
@[simp] theorem State.issueRelease_spinView (attempts : Nat) : (s.issueRelease b attempts).spinView = s.spinView := by
  fun_cases State.issueRelease s b attempts <;> simp +zetaDelta
@[simp] theorem State.freeRecordSlots_spinView : (s.freeRecordSlots b).spinView = s.spinView := rfl
@[simp] theorem State.enterMounting_spinView : (s.enterMounting b).spinView = s.spinView := by simp [State.enterMounting]
@[simp] theorem State.mountWaits_spinView : (s.mountWaits b).spinView = s.spinView := by
  fun_cases State.mountWaits s b <;> simp +zetaDelta
@[simp] theorem State.mounted_spinView (t : Tables) : (s.mounted b t).spinView = s.spinView := by simp [State.mounted]
@[simp] theorem State.unformatted_spinView (d : MountDetail) : (s.unformatted b d).spinView = s.spinView :=
  by simp [State.unformatted]
@[simp] theorem State.endMountRead_spinView (j : Job) (failed : Option MountDetail) :
    (s.endMountRead b j failed).spinView = s.spinView := by
  fun_cases State.endMountRead s b j failed <;> simp +zetaDelta
@[simp] theorem State.mountSector_spinView (j : Job) (r : SectorResult) : (s.mountSector b j r).spinView = s.spinView := by
  fun_cases State.mountSector s b j r <;> simp
@[simp] theorem State.standbyUnload_spinView : (s.standbyUnload b).spinView = s.spinView := by simp [State.standbyUnload]
@[simp] theorem State.standbyStopped_spinView : (s.standbyStopped b).spinView = s.spinView := by simp [State.standbyStopped]
@[simp] theorem State.startsWorking_spinView : (s.startsWorking b).spinView = s.spinView := by simp [State.startsWorking]
@[simp] theorem State.dropFlush_spinView : (s.dropFlush b).spinView = s.spinView := by simp [State.dropFlush]
@[simp] theorem State.backToMounted_spinView : (s.backToMounted b).spinView = s.spinView := by simp [State.backToMounted]
@[simp] theorem State.discard_spinView (cause : Byte) : (s.discard b cause).spinView = s.spinView := by
  fun_cases State.discard s b cause <;> simp
@[simp] theorem State.ejectDiscarded_spinView : (s.ejectDiscarded b).spinView = s.spinView := by simp [State.ejectDiscarded]
@[simp] theorem State.flushHalted_spinView (f : Flush) : (s.flushHalted b f).spinView = s.spinView := by
  fun_cases State.flushHalted s b f <;> simp +zetaDelta
@[simp] theorem State.buildFlush_spinView (f : Flush) (t : Tables) (slots : List Nat) :
    (s.buildFlush b f t slots).spinView = s.spinView := by
  simp only [State.buildFlush]
  rw [State.foldl_spinView _ fun s k => s.modSlot_spinView _ _, State.modBay_spinView _ _ _ rfl]
@[simp] theorem State.faultCommand_spinView (d : FaultDetail) (releasing : Bool) :
    (s.faultCommand b d releasing).spinView = s.spinView := by
  fun_cases State.faultCommand s b d releasing <;> simp
@[simp] theorem State.offerStartup_spinView : (s.offerStartup b).spinView = s.spinView := by
  fun_cases State.offerStartup s b <;> simp
@[simp] theorem State.removal_spinView : (s.removal b).spinView = s.spinView := by
  fun_cases State.removal s b <;> simp +zetaDelta
@[simp] theorem State.stepRelease_spinView : (s.stepRelease b).spinView = s.spinView := by
  fun_cases State.stepRelease s b <;> simp
@[simp] theorem State.stepFault_spinView : (s.stepFault b).spinView = s.spinView := by
  fun_cases State.stepFault s b <;> simp

/-! ### FORMAT -/

@[simp] theorem State.setFormat_spinView (f : Format) : (s.setFormat b f).spinView = s.spinView := by simp [State.setFormat]
@[simp] theorem State.formatFails_spinView (f : Format) (r : CmdResult) : (s.formatFails b f r).spinView = s.spinView :=
  by simp [State.formatFails]
@[simp] theorem State.formatStopped_spinView (f : Format) : (s.formatStopped b f).spinView = s.spinView :=
  by simp [State.formatStopped]
@[simp] theorem State.formatDone_spinView (t : Tables) : (s.formatDone b t).spinView = s.spinView := by simp [State.formatDone]
@[simp] theorem State.formatTrack_spinView (f : Format) : (s.formatTrack b f).spinView = s.spinView :=
  by simp [State.formatTrack]
@[simp] theorem State.formatBegin_spinView (f : Format) : (s.formatBegin b f).spinView = s.spinView :=
  by simp [State.formatBegin]
@[simp] theorem State.formatRecord_spinView (f : Format) (d : Disposing) : (s.formatRecord b f d).spinView = s.spinView :=
  by simp [State.formatRecord]
@[simp] theorem State.formatDispose_spinView (f : Format) : (s.formatDispose b f).spinView = s.spinView := by
  fun_cases State.formatDispose s b f <;> simp
@[simp] theorem State.formatCertify_spinView (f : Format) (slots : List Nat) :
    (s.formatCertify b f slots).spinView = s.spinView := by
  rw [State.formatCertify, State.approach_spinView, State.setFormat_spinView,
    State.foldl_spinView _ fun s k => s.modSlot_spinView _ _]
@[simp] theorem State.trackWritten_spinView (f : Format) : (s.trackWritten b f).spinView = s.spinView := by
  fun_cases State.trackWritten s b f <;> simp +zetaDelta
@[simp] theorem State.certified_spinView (f : Format) : (s.certified b f).spinView = s.spinView := by simp [State.certified]
@[simp] theorem State.nextCertRead_spinView (f : Format) (j : Job) : (s.nextCertRead b f j).spinView = s.spinView := by
  fun_cases State.nextCertRead s b f j <;> simp
@[simp] theorem State.certResult_spinView (f : Format) (j : Job) (outcome : Option EccClass) :
    (s.certResult b f j outcome).spinView = s.spinView := by
  fun_cases State.certResult s b f j outcome <;> simp
@[simp] theorem State.buildFormat_spinView (t : Tables) (slots : List Nat) : (s.buildFormat t slots).spinView = s.spinView := by
  rw [State.buildFormat, State.foldl_spinView _ fun s k => s.modSlot_spinView _ _]
@[simp] theorem State.formatRecordSector_spinView (f : Format) (j : Job) (r : SectorResult) :
    (s.formatRecordSector b f j r).spinView = s.spinView := by
  fun_cases State.formatRecordSector s b f j r <;> simp
@[simp] theorem State.formatSector_spinView (f : Format) (j : Job) (r : SectorResult) :
    (s.formatSector b f j r).spinView = s.spinView := by
  fun_cases State.formatSector s b f j r <;> simp

/-! ### Stopped commands -/

@[simp] theorem State.endStopped_spinView (c : Cmd) (cause : StopCause) : (s.endStopped b c cause).spinView = s.spinView := by
  fun_cases State.endStopped s b c cause <;> simp
@[simp] theorem State.tryStop_spinView : (s.tryStop b).spinView = s.spinView := by
  fun_cases State.tryStop s b <;> simp
@[simp] theorem State.requestStop_spinView (cause : StopCause) : (s.requestStop b cause).spinView = s.spinView :=
  by simp [State.requestStop]
@[simp] theorem State.haltFlush_spinView : (s.haltFlush b).spinView = s.spinView := by
  fun_cases State.haltFlush s b <;> simp
@[simp] theorem State.stopEjectFlush_spinView : (s.stopEjectFlush b).spinView = s.spinView := by
  fun_cases State.stopEjectFlush s b <;> simp
@[simp] theorem State.detachEject_spinView : (s.detachEject b).spinView = s.spinView := by simp [State.detachEject]
@[simp] theorem State.endSilently_spinView : (s.endSilently b).spinView = s.spinView := by
  fun_cases State.endSilently s b <;> simp +zetaDelta

/-! ### The Link Interface -/

@[simp] theorem State.modTarget_spinView (target : BayField) (f : Cmd → Cmd) :
    (s.modTarget target f).spinView = s.spinView := by
  cases target with
  | bay b => exact s.modCmd_spinView b f
  | device => rfl
@[simp] theorem State.offerReports_spinView (target : BayField) (c : Cmd) : (s.offerReports target c).spinView = s.spinView := by
  simp only [State.offerReports]
  rw [State.foldl_spinView _ fun s x => s.offer_spinView _, State.modTarget_spinView]
@[simp] theorem State.takeSectorFrame_spinView (c : Cmd) (declared : Nat) (payload : List LinkByte) (ended : Detail) :
    (s.takeSectorFrame b c declared payload ended).spinView = s.spinView := by
  fun_cases State.takeSectorFrame s b c declared payload ended <;> simp +zetaDelta [apply_ite State.spinView]
@[simp] theorem State.imageComplete_spinView (x : Staging) : (s.imageComplete x).spinView = s.spinView := by
  have hdmt : ∀ d, ({ s with dmt := d } : State).spinView = s.spinView := fun _ => rfl
  have hprofile : ∀ p, ({ s with profile := p } : State).spinView = s.spinView := fun _ => rfl
  fun_cases State.imageComplete s x <;> simp [hdmt, hprofile]
@[simp] theorem State.takeImageFrame_spinView (x : Staging) (declared : Nat) (payload : List LinkByte) (ended : Detail) :
    (s.takeImageFrame x declared payload ended).spinView = s.spinView := by
  have hstaged : ∀ x, ({ s with staging := x } : State).spinView = s.spinView := fun _ => rfl
  fun_cases State.takeImageFrame s x declared payload ended <;> simp +zetaDelta [hstaged]
@[simp] theorem State.takeLastFrame_spinView (x : Staging) (declared : Nat) (payload : List LinkByte) (ended : Detail) :
    (s.takeLastFrame x declared payload ended).spinView = s.spinView := by
  fun_cases State.takeLastFrame s x declared payload ended <;> simp
@[simp] theorem State.holdFrame_spinView (declared : Nat) (payload : List LinkByte) :
    (s.holdFrame b declared payload).spinView = s.spinView :=
  rfl
@[simp] theorem State.takeDataOut_spinView (target : BayField) (declared : Nat) (payload : List LinkByte) (late : Bool)
    (ended : Detail) : (s.takeDataOut target declared payload late ended).spinView = s.spinView := by
  fun_cases State.takeDataOut s target declared payload late ended <;> simp
@[simp] theorem State.dropHeld_spinView : (s.dropHeld).spinView = s.spinView := rfl
@[simp] theorem State.cutHeld_spinView : (s.cutHeld).spinView = s.spinView := by
  fun_cases State.cutHeld s <;> simp
@[simp] theorem State.dropFrameSlot_spinView : (s.dropFrameSlot).spinView = s.spinView := by
  fun_cases State.dropFrameSlot s <;> simp
@[simp] theorem State.frameSpent_spinView : (s.frameSpent).spinView = s.spinView := rfl
@[simp] theorem State.stoppedLoadEnds_spinView : (s.stoppedLoadEnds b).spinView = s.spinView := by
  fun_cases State.stoppedLoadEnds s b <;> simp
@[simp] theorem State.inboundEnds_spinView (early : Bool) : (s.inboundEnds early).spinView = s.spinView := by
  fun_cases State.inboundEnds s early <;> simp
@[simp] theorem State.beginInbound_spinView (x : LinkByte) : (s.beginInbound x).spinView = s.spinView := rfl
@[simp] theorem State.takeByte_spinView (f : InFrame) (x : LinkByte) (slot : Option Nat) :
    (s.takeByte f x slot).spinView = s.spinView :=
  rfl
@[simp] theorem State.strobed_spinView (f : InFrame) (x : LinkByte) : (s.strobed f x).spinView = s.spinView := by
  fun_cases State.strobed s f x <;> simp
@[simp] theorem State.stepByte_spinView : (s.stepByte).spinView = s.spinView := by
  fun_cases State.stepByte s <;> simp
@[simp] theorem State.stepHeld_spinView : (s.stepHeld b).spinView = s.spinView := by
  fun_cases State.stepHeld s b <;> simp
@[simp] theorem State.heard_spinView (lfrm : Bool) (strobe : Option LinkByte) : (s.heard lfrm strobe).spinView = s.spinView := by
  fun_cases State.heard s lfrm strobe <;> simp
@[simp] theorem State.receive_spinView (lfrm : Bool) (strobe : Option LinkByte) :
    (s.receive lfrm strobe).spinView = s.spinView := by
  fun_cases State.receive s lfrm strobe <;> simp
@[simp] theorem State.clearOut_spinView : (s.clearOut).spinView = s.spinView := rfl
@[simp] theorem State.readDrained_spinView : (s.readDrained b).spinView = s.spinView := by
  fun_cases State.readDrained s b <;> simp
@[simp] theorem State.reportSent_spinView (target : BayField) : (s.reportSent target).spinView = s.spinView := by
  fun_cases State.reportSent s target <;> simp +zetaDelta
@[simp] theorem State.frameSent_spinView (f : OutFrame) : (s.frameSent f).spinView = s.spinView := by
  fun_cases State.frameSent s f <;> simp +zetaDelta
@[simp] theorem State.readLinkError_spinView : (s.readLinkError b).spinView = s.spinView := by
  fun_cases State.readLinkError s b <;> simp +zetaDelta
@[simp] theorem State.abandonFrame_spinView (f : OutFrame) : (s.abandonFrame f).spinView = s.spinView := by
  fun_cases State.abandonFrame s f <;> simp +zetaDelta

/-! ### Acceptance and delivery -/

@[simp] theorem State.clearUnitChanged_spinView (r : CmdResult) : (s.clearUnitChanged b r).spinView = s.spinView := by
  fun_cases State.clearUnitChanged s b r <;> simp
@[simp] theorem State.openFormat_spinView (op : CmdOp) : (s.openFormat b op).spinView = s.spinView := by
  fun_cases State.openFormat s b op <;> simp
@[simp] theorem State.buildImage_spinView (before : Nat) : (s.buildImage b before).spinView = s.spinView := by
  fun_cases State.buildImage s b before <;> simp
@[simp] theorem State.stepChannel_spinView : (s.stepChannel b).spinView = s.spinView := by
  fun_cases State.stepChannel s b <;> simp
@[simp] theorem State.reload_spinView (j : Job) : (s.reload b j).spinView = s.spinView := by
  fun_cases State.reload s b j <;> simp
@[simp] theorem State.onReady_spinView : (s.onReady b).spinView = s.spinView := by
  fun_cases State.onReady s b <;> simp
@[simp] theorem State.onSpeedLost_spinView : (s.onSpeedLost b).spinView = s.spinView := by
  fun_cases State.onSpeedLost s b <;> simp
@[simp] theorem State.waitForReady_spinView (j : Job) : (s.waitForReady b j).spinView = s.spinView := by
  fun_cases State.waitForReady s b j <;> simp
@[simp] theorem State.onLoadFailed_spinView : (s.onLoadFailed b).spinView = s.spinView := by
  fun_cases State.onLoadFailed s b <;> simp
@[simp] theorem State.reloadNow_spinView : (s.reloadNow b).spinView = s.spinView := by
  fun_cases State.reloadNow s b <;> simp
@[simp] theorem State.onSeekUnloaded_spinView : (s.onSeekUnloaded b).spinView = s.spinView := by
  fun_cases State.onSeekUnloaded s b <;> simp
@[simp] theorem State.onSlotFreed_spinView : (s.onSlotFreed b).spinView = s.spinView := by
  simp only [State.onSlotFreed]
  (repeat' split) <;> simp
@[simp] theorem State.onCertified_spinView (outcome : Option EccClass) : (s.onCertified b outcome).spinView = s.spinView := by
  fun_cases State.onCertified s b outcome <;> simp
@[simp] theorem State.refreshReadiness_spinView : (s.refreshReadiness b).spinView = s.spinView := by
  fun_cases State.refreshReadiness s b <;> simp
@[simp] theorem State.closeEvent_spinView : (s.closeEvent).spinView = s.spinView := by simp [State.closeEvent]

/-! ### Events -/

@[simp] theorem State.frameOver_spinView : (s.frameOver).spinView = s.spinView := rfl

/-! ### Cartridge events -/

@[simp] theorem State.openEject_spinView (source : EjectSource) (phase : EjectPhase) :
    (s.openEject b source phase).spinView = s.spinView :=
  by simp [State.openEject]
@[simp] theorem State.ejectAtOnce_spinView (source : EjectSource) : (s.ejectAtOnce b source).spinView = s.spinView := by
  fun_cases State.ejectAtOnce s b source <;> simp
@[simp] theorem State.cancelMount_spinView (source : EjectSource) : (s.cancelMount b source).spinView = s.spinView := by
  fun_cases State.cancelMount s b source <;> simp +zetaDelta
@[simp] theorem State.ejectMounted_spinView (source : EjectSource) : (s.ejectMounted b source).spinView = s.spinView := by
  fun_cases State.ejectMounted s b source <;> simp
@[simp] theorem State.ejectUnformatted_spinView (source : EjectSource) : (s.ejectUnformatted b source).spinView = s.spinView := by
  fun_cases State.ejectUnformatted s b source <;> simp
@[simp] theorem State.cartridgeArrives_spinView : (s.cartridgeArrives b).spinView = s.spinView := by
  fun_cases State.cartridgeArrives s b <;> simp
@[simp] theorem State.becomesProtected_spinView : (s.becomesProtected b).spinView = s.spinView := by
  fun_cases State.becomesProtected s b <;> simp +zetaDelta

/-! ### Bay commands -/

@[simp] theorem State.takePrevent_spinView : (s.takePrevent b).spinView = s.spinView := by
  fun_cases State.takePrevent s b <;> simp
@[simp] theorem State.takeAllow_spinView : (s.takeAllow b).spinView = s.spinView := by
  fun_cases State.takeAllow s b <;> simp
@[simp] theorem State.takeRequestSense_spinView : (s.takeRequestSense b).spinView = s.spinView := by
  fun_cases State.takeRequestSense s b <;> simp
@[simp] theorem State.takePeek_spinView : (s.takePeek b).spinView = s.spinView := by
  fun_cases State.takePeek s b <;> simp

/-! ### Data Channel events -/

@[simp] theorem State.idField_spinView (v : Visit) (j : Job) (x : IdField) : (s.idField v j x).spinView = s.spinView := by
  fun_cases State.idField s v j x <;> simp +zetaDelta
@[simp] theorem State.deliverSector_spinView (j : Job) (ecc : EccClass) (data : List Byte) :
    (s.deliverSector b j ecc data).spinView = s.spinView := by
  simp only [State.deliverSector]
  (repeat' split) <;> simp
@[simp] theorem State.fillCertSlot_spinView (j : Job) (ecc : EccClass) (data : List Byte) :
    (s.fillCertSlot b j ecc data).spinView = s.spinView := by
  fun_cases State.fillCertSlot s b j ecc data <;> simp
@[simp] theorem State.fieldClassed_spinView (j : Job) (ecc : EccClass) (data : List Byte) :
    (s.fieldClassed b j ecc data).spinView = s.spinView := by
  fun_cases State.fieldClassed s b j ecc data <;> simp +zetaDelta
@[simp] theorem State.fieldWritten_spinView (j : Job) : (s.fieldWritten b j).spinView = s.spinView := by
  simp only [State.fieldWritten]
  (repeat' split) <;> simp
@[simp] theorem State.trackPut_spinView : (s.trackPut b).spinView = s.spinView := rfl

/-! ### Table commands -/

@[simp] theorem State.takeDeviceSlot_spinView (c : Cmd) : (s.takeDeviceSlot c).spinView = s.spinView := rfl
@[simp] theorem State.reportDevice_spinView (op : CmdOp) : (s.reportDevice op).spinView = s.spinView := by
  fun_cases State.reportDevice s op <;> simp

/-! ### Link events -/

@[simp] theorem State.linkResetBay_spinView : (s.linkResetBay b).spinView = s.spinView := by
  fun_cases State.linkResetBay s b <;> simp +zetaDelta

/-! ### Positioner events -/

@[simp] theorem State.takeSample_spinView (w : ServoWord) : (s.takeSample b w).spinView = s.spinView :=
  by simp [State.takeSample]
@[simp] theorem State.recalibrationFails_spinView : (s.recalibrationFails b).spinView = s.spinView := by
  fun_cases State.recalibrationFails s b <;> simp
@[simp] theorem State.parkSensor_spinView (parked : Bool) : (s.parkSensor b parked).spinView = s.spinView := by
  fun_cases State.parkSensor s b parked <;> simp +zetaDelta

/-! ### Idle timers -/

@[simp] theorem State.unloadTimerExpires_spinView : (s.unloadTimerExpires b).spinView = s.spinView := by
  fun_cases State.unloadTimerExpires s b <;> simp +zetaDelta
end
end Sys2Proof.Machine

namespace Sys2Proof.Machine

@[simp] theorem State.fillSlots_spinView (n : Nat) (s : State) (b : BayId) : (State.fillSlots n s b).spinView = s.spinView := by
  induction n generalizing s with
  | zero => rfl
  | succ n ih =>
    unfold State.fillSlots
    split
    · split <;> simp [ih]
    · rfl

@[simp] theorem State.abortEject_spinView (s : State) (b : BayId) : (s.abortEject b).2.spinView = s.spinView := by
  fun_cases State.abortEject s b <;> simp

@[simp] theorem State.abortDevice_spinView (s : State) : s.abortDevice.2.spinView = s.spinView := by
  fun_cases State.abortDevice s
  · rfl
  · simp
  · exact State.dropDescs_spinView _ _
  · simp

@[simp] theorem State.abortBay_spinView (s : State) (b : BayId) : (s.abortBay b).spinView = s.spinView := by
  fun_cases State.abortBay s b <;> simp

@[simp] theorem State.takeAbort_spinView (s : State) (target : BayField) : (s.takeAbort target).spinView = s.spinView := by
  fun_cases State.takeAbort s target <;> simp

@[simp] theorem State.loadDeviceTable_spinView (s : State) (id : TableId) (length : BitVec 16) :
    (s.loadDeviceTable id length).spinView = s.spinView := by
  have hstaged : ∀ x, ({ s with staging := x } : State).spinView = s.spinView := fun _ => rfl
  fun_cases State.loadDeviceTable s id length <;> simp [hstaged]

@[simp] theorem State.linkResetLink_spinView (s : State) : s.linkResetLink.spinView = s.spinView := by
  rw [State.linkResetLink, State.finishDevice_spinView]
  exact s.dropFrameSlot_spinView

/-! ## The arbiter and the spindles -/

/-- The state of a bay's spindle. -/
def SpinView.spin (v : SpinView) : BayId → SpinState
  | .bayA => v.spinA
  | .bayB => v.spinB

/-- A bay's spindle enters a state. -/
def SpinView.enter (v : SpinView) (b : BayId) (x : SpinState) : SpinView :=
  match b with
  | .bayA => { v with spinA := x }
  | .bayB => { v with spinB := x }

/-- A bay is granted the allowance (R50). -/
def SpinView.grant (v : SpinView) (b : BayId) : SpinView := { v.enter b .accelerating with holder := some b }

/-- A bay that held the allowance gives it back (R49). -/
def SpinView.release (v : SpinView) (b : BayId) : SpinView :=
  if v.holder = some b then
    match v.waiter with
    | some w => ({ v with holder := none, waiter := none } : SpinView).grant w
    | none => { v with holder := none }
  else v

/-- A bay is present (R192). -/
def SpinView.present (v : SpinView) : BayId → Bool
  | .bayA => true
  | .bayB => v.twoBays

/-- A spindle that has no part in the arbiter. -/
abbrev SpinState.aside (x : SpinState) : Prop := x ≠ .accelerating ∧ x ≠ .waitAllowance

/-- The arbiter and the spindles agree (`State.allowanceKept`). -/
structure SpinView.Agrees (v : SpinView) : Prop where
  holder : ∀ b, v.holder = some b ↔ v.spin b = .accelerating
  waiter : ∀ b, v.waiter = some b ↔ v.spin b = .waitAllowance
  waits : v.waiter.isSome = true → v.holder.isSome = true
  absent : v.twoBays = false → v.spinB = .stopped

theorem State.spinView_spin (s : State) (b : BayId) : s.spinView.spin b = (s.bay b).spindle.state := by cases b <;> rfl

theorem State.spinView_present (s : State) (b : BayId) : s.spinView.present b = s.bayPresent b := by cases b <;> rfl

theorem State.allowanceKept_iff (s : State) : s.allowanceKept ↔ s.spinView.Agrees := by
  have hspin := s.spinView_spin
  refine ⟨fun ⟨hholder, hwaiter, hwaits, habsent⟩ => ⟨fun b => ?_, fun b => ?_, hwaits, habsent⟩,
    fun ⟨hholder, hwaiter, hwaits, habsent⟩ => ⟨fun b => ?_, fun b => ?_, hwaits, habsent⟩⟩
  · rw [hspin]; exact hholder b
  · rw [hspin]; exact hwaiter b
  · rw [← hspin]; exact hholder b
  · rw [← hspin]; exact hwaiter b

/-! ### What the arbiter does with a spindle -/

theorem BayId.forall_iff {p : BayId → Prop} : (∀ b, p b) ↔ p .bayA ∧ p .bayB :=
  ⟨fun h => ⟨h _, h _⟩, fun ⟨ha, hb⟩ b => by cases b <;> assumption⟩

theorem SpinView.agrees_iff (v : SpinView) : v.Agrees ↔
    ((v.holder = some .bayA ↔ v.spinA = .accelerating) ∧ (v.holder = some .bayB ↔ v.spinB = .accelerating)) ∧
    ((v.waiter = some .bayA ↔ v.spinA = .waitAllowance) ∧ (v.waiter = some .bayB ↔ v.spinB = .waitAllowance)) ∧
    (v.waiter.isSome = true → v.holder.isSome = true) ∧ (v.twoBays = false → v.spinB = .stopped) := by
  refine ⟨fun ⟨h1, h2, h3, h4⟩ => ⟨⟨h1 .bayA, h1 .bayB⟩, ⟨h2 .bayA, h2 .bayB⟩, h3, h4⟩,
    fun ⟨h1, h2, h3, h4⟩ => ⟨?_, ?_, h3, h4⟩⟩
  · exact BayId.forall_iff.2 h1
  · exact BayId.forall_iff.2 h2

/-- The strap and the latch stand, and an arbiter in agreement with the spindles stays so. -/
structure SpinView.Keeps (u v : SpinView) : Prop where
  twoBays : v.twoBays = u.twoBays
  powerLoss : v.powerLoss = u.powerLoss
  agrees : u.Agrees → v.Agrees

theorem SpinView.Keeps.refl (u : SpinView) : u.Keeps u := ⟨rfl, rfl, id⟩

theorem SpinView.Keeps.trans {u v w : SpinView} (h : u.Keeps v) (h' : v.Keeps w) : u.Keeps w :=
  ⟨h'.twoBays.trans h.twoBays, h'.powerLoss.trans h.powerLoss, h'.agrees ∘ h.agrees⟩

/-! ### Moves of a spindle -/

section
variable {v : SpinView} {b : BayId} {x : SpinState}

/-- A spindle outside the arbiter moves to another state outside it. -/
theorem SpinView.keeps_enter (hb : (v.spin b).aside) (hx : x.aside) (hp : v.present b = true ∨ x = .stopped) :
    v.Keeps (v.enter b x) := by
  refine ⟨by cases b <;> rfl, by cases b <;> rfl, ?_⟩
  simp only [SpinView.agrees_iff]
  cases b <;> grind [SpinView.enter, SpinView.spin, SpinView.present]

/-- A free allowance is granted. -/
theorem SpinView.keeps_grant (hh : v.holder = none) (hp : v.present b = true) : v.Keeps (v.grant b) := by
  refine ⟨by cases b <;> rfl, by cases b <;> rfl, ?_⟩
  simp only [SpinView.agrees_iff]
  cases b <;> grind [SpinView.enter, SpinView.spin, SpinView.present, SpinView.grant]

/-- A request waits while another bay holds the allowance. -/
theorem SpinView.keeps_wait (hh : v.holder.isSome = true) (hb : (v.spin b).aside) (hp : v.present b = true) :
    v.Keeps { v.enter b .waitAllowance with waiter := some b } := by
  refine ⟨by cases b <;> rfl, by cases b <;> rfl, ?_⟩
  simp only [SpinView.agrees_iff]
  obtain ⟨a, ha⟩ := Option.isSome_iff_exists.1 hh
  cases b <;> cases a <;> grind [SpinView.enter, SpinView.spin, SpinView.present]

/-- A spindle that does not wait leaves for a state outside the arbiter, and gives back the allowance if it held it. -/
theorem SpinView.keeps_enter_release (hb : v.spin b ≠ .waitAllowance) (hx : x.aside) (hp : v.present b = true) :
    v.Keeps ((v.enter b x).release b) := by
  have hframe : ∀ w : SpinView, (w.release b).twoBays = w.twoBays ∧ (w.release b).powerLoss = w.powerLoss := by
    intro w
    fun_cases SpinView.release w b
    case case1 a _ => cases a <;> exact ⟨rfl, rfl⟩
    all_goals exact ⟨rfl, rfl⟩
  refine ⟨(hframe _).1.trans (by cases b <;> rfl), (hframe _).2.trans (by cases b <;> rfl), ?_⟩
  simp only [SpinView.agrees_iff]
  cases hw : v.waiter with
  | none => cases b <;> grind [SpinView.enter, SpinView.spin, SpinView.present, SpinView.release]
  | some w => cases b <;> cases w <;> grind [SpinView.enter, SpinView.spin, SpinView.present, SpinView.release, SpinView.grant]

/-- The waiter withdraws and stands STOPPED. -/
theorem SpinView.keeps_withdraw (hb : v.spin b = .waitAllowance) :
    v.Keeps { v.enter b .stopped with waiter := if v.waiter = some b then none else v.waiter } := by
  refine ⟨by cases b <;> rfl, by cases b <;> rfl, ?_⟩
  simp only [SpinView.agrees_iff]
  cases b <;> grind [SpinView.enter, SpinView.spin]

end

/-! ### What the operations of the Spindle Controller enter -/

section
variable (s : State) (b : BayId)

theorem State.modSpindle_enters (f : Spindle → Spindle) :
    (s.modSpindle b f).spinView = s.spinView.enter b (f (s.bay b).spindle).state := by
  cases b <;> rfl

theorem State.grantAllowance_enters : (s.grantAllowance b).spinView = s.spinView.grant b := by
  cases b <;> rfl

theorem State.requestAllowance_enters : (s.requestAllowance b).spinView =
    if s.spinView.holder.isSome then { s.spinView.enter b .waitAllowance with waiter := some b } else s.spinView.grant b := by
  show _ = if s.allowHolder.isSome then _ else _
  fun_cases State.requestAllowance s b
  next hh => rw [if_neg (by simp [hh])]; exact s.grantAllowance_enters b
  next a hh => rw [if_pos (by simp [hh])]; cases b <;> rfl

theorem State.releaseAllowance_enters : (s.releaseAllowance b).spinView = s.spinView.release b := by
  show _ = if s.allowHolder = some b then (match s.allowWaiter with | some w => _ | none => _) else _
  fun_cases State.releaseAllowance s b
  next hh w hw => rw [if_pos hh, hw]; exact State.grantAllowance_enters _ w
  next hh hw => simp [State.spinView, hh, hw]
  next hh => rw [if_neg hh]

theorem State.withdrawAllowance_enters : (s.withdrawAllowance b).spinView =
    { s.spinView with waiter := if s.spinView.waiter = some b then none else s.spinView.waiter } := by
  show _ = ({ s.spinView with waiter := if s.allowWaiter = some b then none else s.allowWaiter } : SpinView)
  fun_cases State.withdrawAllowance s b
  next hw => rw [if_pos hw]; rfl
  next hw => rw [if_neg hw]; rfl

theorem State.enterBraking_enters : (s.enterBraking b).spinView = s.spinView.enter b .braking :=
  s.modSpindle_enters b _

theorem State.enterStopped_enters : (s.enterStopped b).spinView = s.spinView.enter b .stopped := by
  fun_cases State.enterStopped s b <;> exact s.modSpindle_enters b _

theorem State.enterSpinFailed_enters (d : SpinDetail) :
    (s.enterSpinFailed b d).spinView = (s.spinView.enter b .spinFailed).release b := by
  rw [State.enterSpinFailed, State.retractOrder_spinView, State.tell_spinView, State.releaseAllowance_enters,
    State.modSpindle_enters]

theorem State.enterSpeedFault_enters : (s.enterSpeedFault b).spinView = s.spinView.enter b .speedFault := by
  rw [State.enterSpeedFault, State.tell_spinView, State.headsLeave_spinView, State.modSpindle_enters]

theorem State.enterAtSpeed_enters : (s.enterAtSpeed b).spinView = s.spinView.enter b .atSpeed := by
  simp only [State.enterAtSpeed, apply_ite State.spinView, State.tell_spinView, ite_self, State.modSpindle_enters]

end

/-! ### Starts and stops -/

section
variable {u : SpinView} {s : State} (h : u.Keeps s.spinView) (b : BayId)
include h

theorem State.takeStart_keeps (hs : (s.bay b).spindle.state = .stopped) (hp : s.bayPresent b = true) (k : PurgeKind) :
    u.Keeps (s.takeStart b k).spinView := by
  rw [State.takeStart, State.requestAllowance_enters, State.modSpindle_spinView _ _ _ rfl]
  rw [← State.spinView_spin] at hs
  rw [← State.spinView_present] at hp
  split
  next hh => exact h.trans (SpinView.keeps_wait hh (by simp [SpinState.aside, hs]) hp)
  next hh => exact h.trans (SpinView.keeps_grant (by simpa using hh) hp)

theorem State.startPending_keeps : u.Keeps (s.startPending b).spinView := by
  fun_cases State.startPending s b
  next k _ hp =>
    simp only [Spindle.atRest, Bool.and_eq_true, beq_iff_eq] at hp
    exact State.takeStart_keeps h b hp.2.1 hp.1 k
  all_goals exact h

/-- A start request keeps the arbiter in agreement: only a STOPPED spindle of a present bay asks for the allowance (R47). -/
@[simp] theorem State.startRequest_keeps (k : PurgeKind) : u.Keeps (s.startRequest b k).spinView := by
  unfold State.startRequest
  split
  next hp =>
    fun_cases State.takeStartRequest s b k
    case case2 hs _ => exact State.takeStart_keeps h b hs hp k
    all_goals simpa
  next => exact h

/-- A stop request keeps the arbiter in agreement: ACCELERATING gives the allowance back, WAIT_ALLOWANCE withdraws (R48). -/
@[simp] theorem State.stopRequest_keeps : u.Keeps (s.stopRequest b).spinView := by
  unfold State.stopRequest
  split
  next hp =>
    have hspin := s.spinView_spin b
    rw [← State.spinView_present] at hp
    have hbrakes : (s.bay b).spindle.state.aside → u.Keeps (((s.enterBraking b).modSpindle b fun x =>
        { x with stopWaiting := true }).headsLeave b).spinView := by
      intro hs
      rw [State.headsLeave_spinView, State.modSpindle_spinView _ _ _ rfl, State.enterBraking_enters]
      exact h.trans (SpinView.keeps_enter (by rwa [hspin]) ⟨nofun, nofun⟩ (.inl hp))
    fun_cases State.takeStopRequest s b
    case case3 hs =>
      rw [State.enterStopped_enters, State.withdrawAllowance_enters]
      have hstops := SpinView.keeps_withdraw (hspin.trans hs)
      cases b <;> exact h.trans hstops
    case case4 hs =>
      rw [State.releaseAllowance_enters, State.headsLeave_spinView, State.modSpindle_spinView _ _ _ rfl,
        State.enterBraking_enters]
      exact h.trans (SpinView.keeps_enter_release (by rw [hspin, hs]; nofun) ⟨nofun, nofun⟩ hp)
    case case5 hs | case6 hs | case7 hs => exact hbrakes (by rw [hs]; exact ⟨nofun, nofun⟩)
    all_goals simpa
  next => exact h

/-- Entry to SPIN_FAILED from a state that does not wait for the allowance (R57, R58). -/
theorem State.enterSpinFailed_keeps (hs : (s.bay b).spindle.state ≠ .waitAllowance) (hp : s.bayPresent b = true)
    (d : SpinDetail) : u.Keeps (s.enterSpinFailed b d).spinView := by
  rw [State.enterSpinFailed_enters]
  rw [← State.spinView_spin] at hs
  rw [← State.spinView_present] at hp
  exact h.trans (SpinView.keeps_enter_release hs ⟨nofun, nofun⟩ hp)

/-- Entry to STOPPED from a state outside the arbiter. -/
theorem State.enterStopped_keeps (hs : (s.bay b).spindle.state.aside) : u.Keeps (s.enterStopped b).spinView := by
  rw [State.enterStopped_enters]
  rw [← State.spinView_spin] at hs
  exact h.trans (SpinView.keeps_enter hs ⟨nofun, nofun⟩ (.inr rfl))

end

/-! ### Index edges -/

@[simp] theorem Spindle.measured_state (x : Spindle) (elapsed : Nat) : (x.measured elapsed).state = x.state := by
  simp only [Spindle.measured]
  split <;> rfl

@[simp] theorem Spindle.edgeTimers_state (x : Spindle) : x.edgeTimers.state = x.state := by
  fun_cases Spindle.edgeTimers x <;> rfl

section
variable {u : SpinView} {s : State} (h : u.Keeps s.spinView) (b : BayId) (hp : s.bayPresent b = true)
include h hp

/-- The end of a revolution: ACCELERATING gives the allowance back, and the other spinning states stay outside the arbiter
(R51 to R56). -/
theorem State.endRevolution_keeps : u.Keeps (s.endRevolution b).spinView := by
  have hspin := s.spinView_spin b
  rw [← State.spinView_present] at hp
  have henter : (s.bay b).spindle.state.aside → ∀ x : SpinState, x.aside → u.Keeps (s.spinView.enter b x) :=
    fun hs x hx => h.trans (SpinView.keeps_enter (by rwa [hspin]) hx (.inl hp))
  fun_cases State.endRevolution s b
  case case1 hs =>
    fun_cases State.endAccelerating s b
    next =>
      rw [State.releaseAllowance_enters, State.modSpindle_enters]
      exact h.trans (SpinView.keeps_enter_release (by rw [hspin, hs]; nofun) ⟨nofun, nofun⟩ hp)
    next => exact h
  case case2 hs | case3 hs =>
    fun_cases State.endTowardSpeed s b
    next =>
      simp +zetaDelta only [State.enterAtSpeed_enters, State.modSpindle_spinView]
      exact henter (by rw [hs]; exact ⟨nofun, nofun⟩) _ ⟨nofun, nofun⟩
    next => simpa +zetaDelta
  case case4 hs =>
    fun_cases State.endAtSpeed s b
    next =>
      simp +zetaDelta only [State.enterSpeedFault_enters, State.modSpindle_spinView]
      exact henter (by rw [hs]; exact ⟨nofun, nofun⟩) _ ⟨nofun, nofun⟩
    all_goals simpa +zetaDelta
  all_goals exact h

theorem State.takeEdge_keeps (elapsed : Nat) : u.Keeps (s.takeEdge b elapsed).spinView := by
  have hmeasured : u.Keeps (s.modSpindle b fun x => (x.measured elapsed).edgeTimers).spinView := by simpa
  have hended := State.endRevolution_keeps hmeasured b (by simpa)
  have hedge : ∀ t : State, u.Keeps t.spinView → (t.bay b).spindle.state = .stopped → t.bayPresent b = true →
      u.Keeps (t.enterBraking b).spinView := by
    intro t ht hs hpt
    rw [State.enterBraking_enters]
    rw [← State.spinView_spin] at hs
    rw [← State.spinView_present] at hpt
    exact ht.trans (SpinView.keeps_enter (by rw [hs]; exact ⟨nofun, nofun⟩) ⟨nofun, nofun⟩ (.inl hpt))
  have hstopped : (s.bay b).spindle.state = .stopped →
      (s.modSpindle b fun x => (x.measured elapsed).edgeTimers).endRevolution b =
        s.modSpindle b fun x => (x.measured elapsed).edgeTimers := by
    intro hs
    simp [State.endRevolution, hs]
  simp only [State.takeEdge]
  split
  next hs =>
    rw [hstopped hs, ite_self]
    exact hedge _ hmeasured (by simpa) (by simpa)
  next => split <;> assumption

end
end Sys2Proof.Machine

namespace Sys2Proof.Machine

/-! ### What the operations above the Spindle Controller do to it -/

section
variable {u : SpinView} {s : State} (h : u.Keeps s.spinView) (b : BayId)
include h

@[simp] theorem State.enterSpinningUp_keeps : u.Keeps (s.enterSpinningUp b).spinView := by
  fun_cases State.enterSpinningUp s b <;> simp +zetaDelta [h]
@[simp] theorem State.lockConfirmed_keeps : u.Keeps (s.lockConfirmed b).spinView := by
  fun_cases State.lockConfirmed s b <;> simp +zetaDelta [h]
@[simp] theorem State.issueLock_keeps (attempts : Nat) : u.Keeps (s.issueLock b attempts).spinView := by
  fun_cases State.issueLock s b attempts <;> simp +zetaDelta [h]
@[simp] theorem State.standbyBrake_keeps : u.Keeps (s.standbyBrake b).spinView := by
  simp [State.standbyBrake, h]
@[simp] theorem State.stepStandby_keeps : u.Keeps (s.stepStandby b).spinView := by
  fun_cases State.stepStandby s b <;> simp +zetaDelta [h]
@[simp] theorem State.beginWake_keeps (waiting : Bool) : u.Keeps (s.beginWake b waiting).spinView := by
  simp only [State.beginWake]
  (repeat' split) <;> simp [h]
@[simp] theorem State.waitForWake_keeps : u.Keeps (s.waitForWake b).spinView := by
  fun_cases State.waitForWake s b <;> simp +zetaDelta [h]
@[simp] theorem State.endEntryFor_keeps (c : Cmd) : u.Keeps (s.endEntryFor b c).spinView := by
  fun_cases State.endEntryFor s b c <;> simp +zetaDelta [h]
@[simp] theorem State.afterStandbyFlush_keeps (failed : Option (Completion × SenseAddr)) :
    u.Keeps (s.afterStandbyFlush b failed).spinView := by
  fun_cases State.afterStandbyFlush s b failed <;> simp +zetaDelta [apply_ite State.spinView, h]
@[simp] theorem State.startFlush_keeps (requester : FlushFor) (caps : Caps) :
    u.Keeps (s.startFlush b requester caps).spinView := by
  fun_cases State.startFlush s b requester caps <;> simp +zetaDelta [h]
@[simp] theorem State.flushFailed_keeps (f : Flush) (r : Completion) (x : SenseAddr) :
    u.Keeps (s.flushFailed b f r x).spinView := by
  fun_cases State.flushFailed s b f r x <;> simp +zetaDelta [h]
@[simp] theorem State.flushSucceeded_keeps (f : Flush) : u.Keeps (s.flushSucceeded b f).spinView := by
  fun_cases State.flushSucceeded s b f <;> simp +zetaDelta [h]
@[simp] theorem State.flushSector_keeps (j : Job) (r : SectorResult) : u.Keeps (s.flushSector b j r).spinView := by
  fun_cases State.flushSector s b j r <;> simp [h]
@[simp] theorem State.stepUnmount_keeps : u.Keeps (s.stepUnmount b).spinView := by
  fun_cases State.stepUnmount s b <;> simp [h]
@[simp] theorem State.bayFault_keeps (d : FaultDetail) : u.Keeps (s.bayFault b d).spinView := by
  fun_cases State.bayFault s b d <;> simp +zetaDelta [h]
@[simp] theorem State.lockFault_keeps : u.Keeps (s.lockFault b).spinView := by
  simp [State.lockFault, h]
@[simp] theorem State.stepStartup_keeps : u.Keeps (s.stepStartup b).spinView := by
  fun_cases State.stepStartup s b <;> simp [h]
@[simp] theorem State.flushCommand_keeps (c : Cmd) : u.Keeps (s.flushCommand b c).spinView := by
  fun_cases State.flushCommand s b c <;> simp +zetaDelta [h]
@[simp] theorem State.beginWork_keeps : u.Keeps (s.beginWork b).spinView := by
  fun_cases State.beginWork s b <;> simp [h]
@[simp] theorem State.takeInMode_keeps (op : CmdOp) : u.Keeps (s.takeInMode b op).spinView := by
  fun_cases State.takeInMode s b op <;> simp +zetaDelta [apply_ite State.spinView, h]
@[simp] theorem State.commandAccepted_keeps (op : CmdOp) : u.Keeps (s.commandAccepted b op).spinView := by
  fun_cases State.commandAccepted s b op <;> simp +zetaDelta [h]
@[simp] theorem State.mediaCommand_keeps (op : CmdOp) (lba count : Nat) : u.Keeps (s.mediaCommand b op lba count).spinView := by
  fun_cases State.mediaCommand s b op lba count <;> simp [h]
@[simp] theorem State.mountIsOver_keeps : u.Keeps (s.mountIsOver b).spinView := by
  fun_cases State.mountIsOver s b <;> simp [h]
@[simp] theorem State.stepCommand_keeps : u.Keeps (s.stepCommand b).spinView := by
  fun_cases State.stepCommand s b <;> simp [h]
@[simp] theorem State.stepCart_keeps : u.Keeps (s.stepCart b).spinView := by
  fun_cases State.stepCart s b <;> simp [h]
@[simp] theorem State.goOn_keeps : u.Keeps (s.goOn b).spinView := by
  simp only [State.goOn]
  refine State.stepCart_keeps (State.stepStandby_keeps ?_ b) b
  rw [State.stepChannel_spinView, State.buildImage_spinView, State.fillSlots_spinView]
  exact State.stepCommand_keeps (by simpa) b
@[simp] theorem State.wakeEnds_keeps : u.Keeps (s.wakeEnds b).spinView := by
  fun_cases State.wakeEnds s b <;> simp +zetaDelta [h]
@[simp] theorem State.onLoaded_keeps : u.Keeps (s.onLoaded b).spinView := by
  simp only [State.onLoaded]
  (repeat' split) <;> simp [h]
@[simp] theorem State.onSector_keeps (r : SectorResult) : u.Keeps (s.onSector b r).spinView := by
  fun_cases State.onSector s b r <;> simp [h]
@[simp] theorem State.takeEject_keeps (source : EjectSource) : u.Keeps (s.takeEject b source).spinView := by
  fun_cases State.takeEject s b source <;> simp [h]
@[simp] theorem State.cartridgeLeaves_keeps : u.Keeps (s.cartridgeLeaves b).spinView := by
  fun_cases State.cartridgeLeaves s b <;> simp [h]
@[simp] theorem State.lockOpens_keeps : u.Keeps (s.lockOpens b).spinView := by
  fun_cases State.lockOpens s b <;> simp +zetaDelta [apply_ite State.spinView, h]
@[simp] theorem State.buttonPressed_keeps : u.Keeps (s.buttonPressed b).spinView := by
  fun_cases State.buttonPressed s b <;> simp [h]
@[simp] theorem State.lockUnconfirmed_keeps : u.Keeps (s.lockUnconfirmed b).spinView := by
  fun_cases State.lockUnconfirmed s b <;> simp +zetaDelta [h]
@[simp] theorem State.releaseUnconfirmed_keeps : u.Keeps (s.releaseUnconfirmed b).spinView := by
  fun_cases State.releaseUnconfirmed s b <;> simp +zetaDelta [h]
@[simp] theorem State.takeEjectCommand_keeps (force : Bool) : u.Keeps (s.takeEjectCommand b force).spinView := by
  fun_cases State.takeEjectCommand s b force <;> simp +zetaDelta [h]
@[simp] theorem State.takeReportCartridge_keeps : u.Keeps (s.takeReportCartridge b).spinView := by
  fun_cases State.takeReportCartridge s b <;> simp [h]
@[simp] theorem State.tableReport_keeps (op : CmdOp) : u.Keeps (s.tableReport b op).spinView := by
  fun_cases State.tableReport s b op <;> simp [h]
@[simp] theorem State.enterStandby_keeps (source : EntrySource) : u.Keeps (s.enterStandby b source).spinView := by
  fun_cases State.enterStandby s b source <;> simp +zetaDelta [h]
@[simp] theorem State.takeStandbyNow_keeps : u.Keeps (s.takeStandbyNow b).spinView := by
  fun_cases State.takeStandbyNow s b <;> simp +zetaDelta [h]
@[simp] theorem State.takeWake_keeps : u.Keeps (s.takeWake b).spinView := by
  fun_cases State.takeWake s b <;> simp [h]
@[simp] theorem State.loadBayTable_keeps (id : TableId) (length : BitVec 16) : u.Keeps (s.loadBayTable b id length).spinView := by
  have hstaged : ∀ x, u.Keeps ({ s with staging := x } : State).spinView := fun _ => h
  fun_cases State.loadBayTable s b id length <;> simp [h, hstaged]
@[simp] theorem State.readBayTable_keeps (id : TableId) (staged : Option (List Byte)) (missing : Detail) :
    u.Keeps (s.readBayTable b id staged missing).spinView := by
  fun_cases State.readBayTable s b id staged missing <;> simp [h]
@[simp] theorem State.hostCommand_keeps (i : Instr) : u.Keeps (s.hostCommand i).spinView := by
  fun_cases State.hostCommand s i <;> simp [h]
@[simp] theorem State.takeFrame_keeps (frame : Inbound) (ended : Detail) : u.Keeps (s.takeFrame frame ended).spinView := by
  fun_cases State.takeFrame s frame ended <;> simp [h]
@[simp] theorem State.standbyTimerExpires_keeps : u.Keeps (s.standbyTimerExpires b).spinView := by
  simp [State.standbyTimerExpires, h]

/-! ### An event -/

theorem State.deliver_keeps (m : Signal) : u.Keeps (s.deliver m).spinView := by
  fun_cases State.deliver s m
  case case4 b => exact State.startPending_keeps h b
  all_goals simp [h]

omit h in
theorem settle_keeps (n : Nat) : ∀ {s : State}, u.Keeps s.spinView → u.Keeps (settle n s).spinView := by
  induction n with
  | zero => exact id
  | succ n ih =>
    intro s h
    unfold settle
    split
    · exact h
    next m rest _ => exact ih (State.deliver_keeps (s := { s with signals := rest }) h m)

/-- The end of an event delivers its messages. -/
theorem State.conclude_keeps {t : State} (ht : s.conclude = .next t) : u.Keeps t.spinView := by
  rcases State.conclude_next ht with ⟨-, rfl⟩ | ⟨-, -, rfl⟩
  · exact h
  · rw [State.closeEvent_spinView]
    exact settle_keeps _ h

theorem State.endInbound_keeps (early : Bool) {f : State → State}
    (hf : ∀ {s : State}, u.Keeps s.spinView → u.Keeps (f s).spinView) : u.Keeps (s.endInbound early f).spinView := by
  rw [State.endInbound, State.inboundEnds_spinView]
  exact hf (by simpa)

theorem State.ldirCuts_keeps (dir : LinkDir) (inbound : Inbound) : u.Keeps (s.ldirCuts dir inbound).spinView := by
  unfold State.ldirCuts
  split
  · split
    · split <;> simpa
    · exact h
  · split
    · simpa
    · split
      · exact State.endInbound_keeps h true fun h => State.takeFrame_keeps h _ _
      · split
        · simpa
        · split
          · exact State.takeFrame_keeps (by simpa) _ _
          · exact h

/-! ### Which events are taken -/

section
variable {t : State}

theorem State.frame_keeps {i : Instr} {f : State → State} (ht : s.frame i f = .next t)
    (hf : ∀ {s : State}, u.Keeps s.spinView → u.Keeps (f s).spinView) : u.Keeps t.spinView := by
  unfold State.frame at ht
  split at ht
  · exact State.conclude_keeps (hf (by simpa)) ht
  · split at ht
    · exact State.conclude_keeps (State.endInbound_keeps h false hf) ht
    · split at ht <;> cases ht <;> simpa

theorem State.bayEvent_keeps {f : State → State} (ht : s.bayEvent b f = .next t)
    (hf : s.bayPresent b = true → u.Keeps (f s).spinView) : u.Keeps t.spinView := by
  unfold State.bayEvent at ht
  split at ht
  next hlive => exact State.conclude_keeps (hf (by simp_all [State.bayLive])) ht
  next => cases ht; exact h

theorem State.bayAct_keeps {f : State → State} (ht : s.bayAct b f = .next t)
    (hf : s.bayPresent b = true → u.Keeps (f s).spinView) : u.Keeps t.spinView := by
  unfold State.bayAct at ht
  split at ht
  next hlive => exact State.conclude_keeps (hf (by simp_all [State.bayLive])) ht
  next => cases ht; exact h

theorem State.baySensor_keeps {level act : State → State} (ht : s.baySensor b level act = .next t)
    (hl : u.Keeps (level s).spinView) (hact : u.Keeps (act (level s)).spinView) : u.Keeps t.spinView := by
  unfold State.baySensor at ht
  split at ht
  · refine State.conclude_keeps ?_ ht
    split <;> assumption
  · cases ht; exact h

theorem State.visitEvent_keeps {f : Visit → Job → State} (ht : s.visitEvent f = .next t)
    (hf : ∀ v j, u.Keeps (f v j).spinView) : u.Keeps t.spinView := by
  unfold State.visitEvent at ht
  split at ht
  · split at ht
    · split at ht
      · cases ht; exact h
      · exact State.conclude_keeps (hf _ _) ht
    · cases ht; exact h
  · cases ht; exact h

/-! ### The events -/

omit b in
theorem execLinkReset_keeps (ht : execLinkReset s = .next t) : u.Keeps t.spinView := by
  unfold execLinkReset at ht
  split at ht
  · cases ht; exact h
  · split at ht
    · cases ht; simpa
    · exact State.conclude_keeps (by simpa) ht

omit b in
theorem execLdirChange_keeps {dir : LinkDir} {inbound : Inbound} (ht : execLdirChange dir inbound s = .next t) :
    u.Keeps t.spinView := by
  simp only [execLdirChange] at ht
  split at ht
  · cases ht; exact h
  · split at ht
    · exact State.conclude_keeps (by simpa using State.ldirCuts_keeps h dir inbound) ht
    · cases ht; simpa

omit b in
theorem execLinkTimeout_keeps {inbound : Inbound} (ht : execLinkTimeout inbound s = .next t) : u.Keeps t.spinView := by
  unfold execLinkTimeout at ht
  split at ht
  · split at ht
    · exact State.conclude_keeps (by simpa) ht
    · cases ht; exact h
  · split at ht
    · exact State.conclude_keeps (State.endInbound_keeps h true fun h => State.takeFrame_keeps h _ _) ht
    · split at ht
      · exact State.conclude_keeps (State.takeFrame_keeps (by simpa) _ _) ht
      · cases ht; exact h

omit b in
theorem execOutboundFrameSent_keeps (ht : execOutboundFrameSent s = .next t) : u.Keeps t.spinView := by
  unfold execOutboundFrameSent at ht
  split at ht
  · split at ht
    · exact State.conclude_keeps (by simpa) ht
    · cases ht; exact h
  · cases ht; exact h

theorem execServoSample_keeps {w : ServoWord} (ht : execServoSample b w s = .next t) : u.Keeps t.spinView := by
  have hhanded : u.Keeps ({ s with servo := s.servo.handedOver b } : State).spinView := h
  simp only [execServoSample] at ht
  split at ht
  · cases ht; exact h
  · split at ht
    · cases ht; simpa
    · exact State.conclude_keeps (by simpa) ht

/-- The expiry of a timer that a state supervises brings SPIN_FAILED. -/
theorem State.bayAct_spinFails {c : State → Bool} {d : SpinDetail}
    (ht : s.bayAct b (fun s => if c s then s.enterSpinFailed b d else s) = .next t)
    (hc : c s = true → (s.bay b).spindle.state ≠ .waitAllowance) : u.Keeps t.spinView := by
  refine State.bayAct_keeps h b ht fun hp => ?_
  split
  next hdue => exact State.enterSpinFailed_keeps h b (hc hdue) hp d
  next => exact h

/-- The end of a watch or of a stop brings STOPPED. -/
theorem State.bayAct_stops {c : State → Bool} (ht : s.bayAct b (fun s => if c s then s.enterStopped b else s) = .next t)
    (hc : c s = true → (s.bay b).spindle.state.aside) : u.Keeps t.spinView := by
  refine State.bayAct_keeps h b ht fun hp => ?_
  split
  next hdue => exact State.enterStopped_keeps h b (hc hdue)
  next => exact h

omit b in
/-- Every command and event but END_OF_RESET and the power-fail latch leaves the latch alone and keeps an arbiter that agrees
with the spindles so. -/
theorem exec_keeps {i : Instr} (hreset : ∀ pins, i ≠ .endOfReset pins) (hlatch : i ≠ .powerFailLatch)
    (ht : exec i s = .next t) : u.Keeps t.spinView := by
  have hhost : exec i s = s.frame i (fun s => s.hostCommand i) → u.Keeps t.spinView := fun he =>
    State.frame_keeps h (he.symm.trans ht) fun h => State.hostCommand_keeps h i
  cases i
  case endOfReset pins => exact absurd rfl (hreset pins)
  case powerFailLatch => exact absurd rfl hlatch
  case resetAsserted => cases ht; exact h
  case linkReset => exact execLinkReset_keeps h ht
  case linkResetRelease => exact State.conclude_keeps (by simpa) ht
  case ldirChange => exact execLdirChange_keeps h ht
  case inboundFrameError frame =>
    change execInboundFrameError frame s = _ at ht
    unfold execInboundFrameError at ht
    split at ht
    · exact State.frame_keeps h ht fun h => State.takeFrame_keeps h _ _
    · cases ht; exact h
  case dataOutFrame target declared payload =>
    exact State.frame_keeps h (show execDataOutFrame target declared payload s = _ from ht) fun h => by simpa
  case outboundFrameSent => exact execOutboundFrameSent_keeps h ht
  case linkTimeout => exact execLinkTimeout_keeps h ht
  case indexEdge b elapsed =>
    exact State.bayEvent_keeps h b (show execIndexEdge b elapsed s = _ from ht)
      fun hp => State.takeEdge_keeps h b hp elapsed
  case powerOnWatchEnd b =>
    exact State.bayAct_stops h b (show execPowerOnWatchEnd b s = _ from ht) fun hc => by simp_all [SpinState.aside]
  case stopTimerExpiry b => exact State.bayAct_stops h b (show execStopTimerExpiry b s = _ from ht) fun hc => by grind
  case firstIndexTimerExpiry b =>
    exact State.bayAct_spinFails h b (show execFirstIndexTimerExpiry b s = _ from ht) fun hc => by simp_all
  case gapTimerExpiry b =>
    exact State.bayAct_spinFails h b (show execGapTimerExpiry b s = _ from ht)
      fun hc hs => by simp [hs, SpinState.spinning] at hc
  case spinUpTimerExpiry b =>
    exact State.bayAct_spinFails h b (show execSpinUpTimerExpiry b s = _ from ht) fun hc hs => by simp [hs] at hc
  case recoveryTimerExpiry b =>
    exact State.bayAct_spinFails h b (show execRecoveryTimerExpiry b s = _ from ht) fun hc hs => by simp [hs] at hc
  case brakeTimerExpiry b =>
    exact State.bayAct_spinFails h b (show execBrakeTimerExpiry b s = _ from ht) fun hc hs => by simp [hs] at hc
  case servoSample b w => exact execServoSample_keeps h b ht
  case loadTimerExpiry b =>
    exact State.bayAct_keeps h b (show execLoadTimerExpiry b s = _ from ht) fun _ => by split <;> simpa
  case seekTimerExpiry b =>
    exact State.bayAct_keeps h b (show execSeekTimerExpiry b s = _ from ht) fun _ => by split <;> simpa
  case recalibrateTimerExpiry b =>
    exact State.bayAct_keeps h b (show execRecalibrateTimerExpiry b s = _ from ht) fun _ => by split <;> simpa
  case positionerUnloadTimerExpiry b =>
    exact State.bayAct_keeps h b (show execPositionerUnloadTimerExpiry b s = _ from ht) fun _ => by split <;> simpa
  case retractTimerExpiry b =>
    exact State.bayEvent_keeps h b (show execRetractTimerExpiry b s = _ from ht) fun _ => by split <;> simpa
  case parkSensorChange b parked =>
    exact State.bayEvent_keeps h b (show execParkSensorChange b parked s = _ from ht) fun _ => by simpa
  case presentAccepted b =>
    exact State.baySensor_keeps h b (show execPresentAccepted b s = _ from ht) (by simpa) (by simpa)
  case presentLost b =>
    exact State.baySensor_keeps h b (show execPresentLost b s = _ from ht) (by simpa) (by simp [h])
  case writeProtectChange b p =>
    exact State.baySensor_keeps h b (show execWriteProtectChange b p s = _ from ht) (by simpa) (by split <;> simpa)
  case lockSenseEngaged b =>
    exact State.baySensor_keeps h b (show execLockSenseEngaged b s = _ from ht) (by simpa) (by split <;> simp [h])
  case lockSenseOpen b =>
    exact State.baySensor_keeps h b (show execLockSenseOpen b s = _ from ht) (by simpa) (by simp [h])
  case ejectButtonPress level =>
    change execEjectButtonPress level s = _ at ht
    simp only [execEjectButtonPress] at ht
    exact State.baySensor_keeps h level.bay ht (by simpa) (by split <;> simp [h])
  case settleTimerExpiry b =>
    exact State.bayAct_keeps h b (show execSettleTimerExpiry b s = _ from ht) fun _ => by split <;> simp [h]
  case pulseEnd b => exact State.bayAct_keeps h b (show execPulseEnd b s = _ from ht) fun _ => by simpa
  case lockConfirmExpiry b =>
    exact State.bayAct_keeps h b (show execLockConfirmExpiry b s = _ from ht) fun _ => by split <;> simp [h]
  case releaseConfirmExpiry b =>
    exact State.bayAct_keeps h b (show execReleaseConfirmExpiry b s = _ from ht) fun _ => by split <;> simp [h]
  case idFieldRead field =>
    exact State.visitEvent_keeps h (show execIdFieldRead field s = _ from ht) fun v j => by split <;> simpa
  case idSearchAttemptEnd =>
    exact State.visitEvent_keeps h (show execIdSearchAttemptEnd s = _ from ht) fun v j => by split <;> simpa
  case dataFieldRead data check =>
    exact State.visitEvent_keeps h (show execDataFieldRead data check s = _ from ht) fun v j => by split <;> simpa
  case dataFieldWritten =>
    exact State.visitEvent_keeps h (show execDataFieldWritten s = _ from ht) fun v j => by split <;> simpa
  case formatTrackWritten =>
    exact State.visitEvent_keeps h (show execFormatTrackWritten s = _ from ht) fun v j => by split <;> simpa
  case visitFieldCountEnd =>
    refine State.visitEvent_keeps h (show execVisitFieldCountEnd s = _ from ht) fun v j => ?_
    simp only []
    split
    · split <;> simpa
    all_goals simpa
  case idleUnloadTimerExpiry b =>
    refine State.bayAct_keeps h b (show execIdleUnloadTimerExpiry b s = _ from ht) fun _ => ?_
    split
    · split <;> simp [h]
    · exact h
  case standbyTimerExpiry b =>
    exact State.bayAct_keeps h b (show execStandbyTimerExpiry b s = _ from ht) fun _ => by split <;> simp [h]
  case ledFlashToggle b =>
    exact State.bayAct_keeps h b (show execLedFlashToggle b s = _ from ht) fun _ => by split <;> simpa
  all_goals exact hhost rfl

end
end
end Sys2Proof.Machine

namespace Sys2Proof.Machine

/-- The state in which a withheld frame arrives (R176). -/
def State.unwithheld (s : State) : State := s.modLink fun l => { l with withheld := none }

/-- A step runs the command at the front of the queue or a withheld frame, or a microsecond passes. -/
theorem step_next {s t : State} (ht : step s = .next t) :
    (∃ i rest, s.pending = i :: rest ∧ exec i { s with pending := rest } = .next t) ∨
    (∃ i, s.link.withheld = some i ∧ s.unwithheld.takesFrame = true ∧ exec i s.unwithheld = .next t) ∨ t = s.tick := by
  unfold step at ht
  split at ht
  next i rest hp => exact .inl ⟨i, rest, hp, ht⟩
  next =>
    simp only [idle] at ht
    split at ht
    next i hw =>
      split at ht
      next htakes => exact .inr (.inl ⟨i, hw, htakes, ht⟩)
      next => cases ht; exact .inr (.inr rfl)
    next => cases ht; exact .inr (.inr rfl)

@[simp] theorem State.count_spinView (s : State) (x : Inputs) : (s.count x).spinView = s.spinView := by
  unfold State.count
  split
  · rfl
  · obtain ⟨⟨slots, inFrame, spent, reservations, timer, hreceive⟩, -⟩ := s.receive_spec x.lfrm x.strobe
    rw [hreceive]
    cases htwo : s.twoBays <;> simp [State.spinView, Bay.tick, Spindle.tick, htwo]

theorem State.tick_spinView (s : State) : s.tick.spinView = s.spinView := s.count_spinView _

/-- The power-fail latch frees the arbiter and leaves no spindle in it. -/
theorem State.latchPowerFail_agrees {s : State} (h : s.spinView.Agrees) : s.latchPowerFail.spinView.Agrees := by
  have habsent := h.absent
  cases htwo : s.twoBays <;>
    simp_all [State.latchPowerFail, State.spinView, SpinView.agrees_iff, Bay.powerFail, Spindle.powerFail]

/-- At the end of RESET the arbiter is free and every spindle stands STOPPED (R44). -/
theorem startState_agrees (pins : Pins) : (startState pins).spinView.Agrees := by
  cases htwo : pins.twoBays <;>
    simp [startState, State.spinView, SpinView.agrees_iff, startBay, Bay.reset, Spindle.reset, State.reset, htwo]

theorem execEndOfReset_agrees {s t : State} {pins : Pins} (h : s.spinView.Agrees)
    (ht : execEndOfReset pins s = .next t) : t.spinView.Agrees := by
  have hstart := startState_agrees pins
  simp only [execEndOfReset] at ht
  split at ht
  · refine (State.conclude_keeps (SpinView.Keeps.refl _) ht).agrees ?_
    split
    · exact State.latchPowerFail_agrees hstart
    · exact hstart
  · cases ht; exact h

theorem execPowerFailLatch_agrees {s t : State} (h : s.spinView.Agrees)
    (ht : execPowerFailLatch s = .next t) : t.spinView.Agrees := by
  unfold execPowerFailLatch at ht
  split at ht <;> cases ht
  · exact h
  · exact State.latchPowerFail_agrees h

theorem exec_agrees {i : Instr} {s t : State} (h : s.spinView.Agrees) (ht : exec i s = .next t) : t.spinView.Agrees := by
  by_cases hreset : ∃ pins, i = .endOfReset pins
  · obtain ⟨pins, rfl⟩ := hreset
    exact execEndOfReset_agrees h ht
  · by_cases hlatch : i = .powerFailLatch
    · subst hlatch
      exact execPowerFailLatch_agrees h ht
    · exact (exec_keeps (SpinView.Keeps.refl _) (fun pins hi => hreset ⟨pins, hi⟩) hlatch ht).agrees h

end Sys2Proof.Machine

namespace Sys2Proof
open Machine

/-- Settles O4: every operation keeps the view that the arbiter has of the spindles in agreement (`exec_keeps`), each move of a
spindle in or out of the arbiter being one of the moves of a view. -/
theorem stepKeepsAllowance : Obligations.StepKeepsAllowance := by
  intro s t h ht
  rw [State.allowanceKept_iff] at h ⊢
  obtain ⟨i, rest, -, ht⟩ | ⟨i, -, -, ht⟩ | rfl := step_next ht
  · exact exec_agrees (s := { s with pending := rest }) h ht
  · exact exec_agrees (s := s.unwithheld) h ht
  · rwa [State.tick_spinView]

end Sys2Proof

namespace Sys2Proof.Machine

/-! ## The latched part -/

/-- What the power-fail latch leaves of a present bay (R60, R85, R113, R169). -/
structure Bay.Down (x : Bay) : Prop where
  slot : x.slot = none
  job : x.job = none
  coasts : x.spindle.state = .coasting
  drive : x.spindle.drive = 0
  lockPulse : x.cart.lockPulse = false
  releasePulse : x.cart.releasePulse = false
  heads : x.pos.state = .parked ∨ x.pos.state = .retracting ∨ x.pos.state = .actFault

/-- What the power-fail latch leaves of the Link Interface (R180). -/
structure Link.Down (l : Link) : Prop where
  inFrame : l.inFrame = none
  outFrame : l.outFrame = none
  queue : l.queue = []
  offered : l.offered = []
  reservations : l.reservations = 0

/-- What the power-fail latch leaves of the Data Channel (R126). -/
structure Channel.Down (c : Channel) : Prop where
  holder : c.holder = none
  waiter : c.waiter = none
  visit : c.visit = none
  gate : c.gate = false

/-- A part with the latch set, as the latch leaves it (`State.poweredDown`). -/
structure State.Down (s : State) : Prop where
  powerLoss : s.powerLoss = true
  deviceSlot : s.deviceSlot = none
  link : s.link.Down
  allowHolder : s.allowHolder = none
  allowWaiter : s.allowWaiter = none
  chan : s.chan.Down
  bays : ∀ b, s.bayPresent b = true → (s.bay b).Down

theorem State.poweredDown_iff (s : State) : s.poweredDown ↔ (s.powerLoss = true → s.Down) := by
  refine ⟨fun h hl => ?_, fun h hl => ?_⟩
  · obtain ⟨hdev, hin, hout, hq, ho, hr, hah, haw, hch, hcw, hcv, hcg, hbays⟩ := h hl
    refine ⟨hl, hdev, ⟨hin, hout, hq, ho, hr⟩, hah, haw, ⟨hch, hcw, hcv, hcg⟩, fun b hb => ?_⟩
    obtain ⟨hslot, hjob, hstate, hdrive, hlock, hrelease, hheads⟩ := hbays b hb
    exact ⟨hslot, hjob, hstate, hdrive, hlock, hrelease, hheads⟩
  · obtain ⟨-, hdev, hlink, hah, haw, hchan, hbays⟩ := h hl
    refine ⟨hdev, hlink.inFrame, hlink.outFrame, hlink.queue, hlink.offered, hlink.reservations, hah, haw, hchan.holder,
      hchan.waiter, hchan.visit, hchan.gate, fun b hb => ?_⟩
    have hbay := hbays b hb
    exact ⟨hbay.slot, hbay.job, hbay.coasts, hbay.drive, hbay.lockPulse, hbay.releasePulse, hbay.heads⟩

/-! ### The latch itself -/

theorem Positioner.powerFail_heads (p : Positioner) :
    p.powerFail.state = .parked ∨ p.powerFail.state = .retracting ∨ p.powerFail.state = .actFault := by
  fun_cases Positioner.powerFail p
  · simp [*]
  · simp [*]
  all_goals cases p.parked <;> simp

theorem Bay.powerFail_down (x : Bay) : x.powerFail.Down := ⟨rfl, rfl, rfl, rfl, rfl, rfl, x.pos.powerFail_heads⟩

theorem State.latchPowerFail_down (s : State) : s.latchPowerFail.Down := by
  refine ⟨rfl, rfl, ⟨rfl, rfl, rfl, rfl, rfl⟩, rfl, rfl, ⟨rfl, rfl, rfl, rfl⟩, fun b hb => ?_⟩
  cases b with
  | bayA => exact s.bayA.powerFail_down
  | bayB =>
    have htwo : s.twoBays = true := hb
    simpa [State.latchPowerFail, State.bay, htwo] using s.bayB.powerFail_down

/-! ### Updates of a latched part -/

section
variable {s t : State} {b : BayId} (h : s.Down)
include h

theorem State.Down.signals (x : List Signal) : ({ s with signals := x } : State).Down :=
  ⟨h.powerLoss, h.deviceSlot, h.link, h.allowHolder, h.allowWaiter, h.chan, h.bays⟩

theorem State.Down.tell (m : Signal) : (s.tell m).Down := h.signals _

theorem State.Down.modLink {f : Link → Link} (hf : (f s.link).Down) : (s.modLink f).Down :=
  ⟨h.powerLoss, h.deviceSlot, hf, h.allowHolder, h.allowWaiter, h.chan, h.bays⟩

theorem State.Down.modBay {f : Bay → Bay} (hf : (s.bay b).Down → (f (s.bay b)).Down) : (s.modBay b f).Down := by
  have hbays : ∀ b', (s.modBay b f).bayPresent b' = true → ((s.modBay b f).bay b').Down := by
    intro b' hb
    rw [State.modBay_bayPresent] at hb
    by_cases hb' : b' = b
    · subst hb'
      rw [State.bay_modBay]
      exact hf (h.bays b' hb)
    · rw [State.bay_modBay_ne s hb']
      exact h.bays b' hb
  cases b <;> exact ⟨h.powerLoss, h.deviceSlot, h.link, h.allowHolder, h.allowWaiter, h.chan, hbays⟩

theorem State.Down.modSpindle {f : Spindle → Spindle}
    (hf : ∀ x : Spindle, x.state = .coasting → x.drive = 0 → (f x).state = .coasting ∧ (f x).drive = 0) :
    (s.modSpindle b f).Down :=
  h.modBay fun hb =>
    have hx := hf _ hb.coasts hb.drive
    ⟨hb.slot, hb.job, hx.1, hx.2, hb.lockPulse, hb.releasePulse, hb.heads⟩

theorem State.Down.modCart {f : Cartridge → Cartridge}
    (hf : ∀ c, (f c).lockPulse = c.lockPulse ∧ (f c).releasePulse = c.releasePulse) : (s.modCart b f).Down :=
  h.modBay fun hb =>
    have hc := hf (s.bay b).cart
    ⟨hb.slot, hb.job, hb.coasts, hb.drive, hc.1.trans hb.lockPulse, hc.2.trans hb.releasePulse, hb.heads⟩

/-- The heads take a state that the latch allows. -/
theorem State.Down.modPos {f : Positioner → Positioner}
    (hf : (f (s.bay b).pos).state = (s.bay b).pos.state ∨ (f (s.bay b).pos).state = .parked ∨
      (f (s.bay b).pos).state = .actFault) : (s.modPos b f).Down := by
  refine h.modBay fun hb => ⟨hb.slot, hb.job, hb.coasts, hb.drive, hb.lockPulse, hb.releasePulse, ?_⟩
  obtain hf | hf | hf := hf
  · exact hf ▸ hb.heads
  · exact .inl hf
  · exact .inr (.inr hf)

theorem State.Down.conclude (ht : s.conclude = .next t) : t.Down := by
  rw [State.conclude_dead s (by simp [State.running, h.powerLoss])] at ht
  cases ht
  exact h.signals []

/-! ### What a latched part takes -/

theorem State.Down.linkDead : s.linkAlive = false := by simp [State.linkAlive, h.powerLoss]

theorem State.Down.takesFrame : s.takesFrame = false := by simp [State.takesFrame, State.frameMayBegin, h.linkDead]

theorem State.Down.frameUnderWay : s.frameUnderWay = false := by simp [State.frameUnderWay, h.linkDead]

theorem State.Down.frame (i : Instr) (f : State → State) : s.frame i f = .next s := by
  simp [State.frame, h.takesFrame, h.frameUnderWay, State.frameMayBegin, h.linkDead]

theorem State.Down.bayAct (f : State → State) : s.bayAct b f = .next s := by simp [State.bayAct, h.powerLoss]

theorem State.Down.visitEvent (f : Visit → Job → State) : s.visitEvent f = .next s := by
  simp [State.visitEvent, h.chan.visit]

theorem State.Down.bayEvent {f : State → State} (ht : s.bayEvent b f = .next t)
    (hf : s.bayPresent b = true → (f s).Down) : t.Down := by
  unfold State.bayEvent at ht
  split at ht
  next hlive => exact (hf (by simp_all [State.bayLive])).conclude ht
  next => cases ht; exact h

theorem State.Down.baySensor {level act : State → State} (ht : s.baySensor b level act = .next t)
    (hl : (level s).Down) : t.Down := by
  unfold State.baySensor at ht
  rw [if_pos h.powerLoss] at ht
  split at ht
  · exact hl.conclude ht
  · cases ht; exact h

/-! ### The Positioner after the latch (R85, R170) -/

theorem State.Down.enterActFault (d : ActDetail) : (s.enterActFault b d).Down :=
  (h.modPos (.inr (.inr rfl))).tell _

theorem State.Down.enterPendingFault : (s.enterPendingFault b).Down := by
  unfold State.enterPendingFault
  split
  · exact h.enterActFault _
  · exact h

theorem State.Down.answerUnloaded : (s.answerUnloaded b).Down := by
  unfold State.answerUnloaded
  have hclosed := h.modPos (b := b) (f := fun p => { p with
    loadOpen := false, seekFor := .nobody, heldSeek := none, heldSeekOwned := false, reloadTarget := none, givingUp := false
    again := .nothing }) (.inl rfl)
  have hload := hclosed.tell (.loadFailed b)
  have hseek : ∀ {x : State}, x.Down → (x.tell (.seekUnloaded b)).Down := fun hx => hx.tell _
  dsimp only
  (repeat' split) <;> simp only [hclosed, hload, hseek]

/-- A load order to parked heads is refused after the latch. -/
theorem State.Down.loadFromParked (fresh : Bool) (seek : Option Track) : (s.loadFromParked b fresh seek).Down := by
  rw [State.loadFromParked, if_neg (by simp [h.powerLoss])]
  exact (h.modPos (.inl rfl)).tell _

theorem State.Down.takeHeldLoad (hp : (s.bay b).pos.state = .parked) : (s.takeHeldLoad b).Down := by
  unfold State.takeHeldLoad
  split
  next x _ =>
    have htaken : (s.modPos b fun p => { p with heldLoad := none }).Down := h.modPos (.inl rfl)
    rw [State.loadOrder]
    simp only [State.modPos_pos, hp]
    exact htaken.loadFromParked _ _
  next => exact h

omit h in
@[simp] theorem State.answerUnloaded_heads : ((s.answerUnloaded b).bay b).pos.state = (s.bay b).pos.state := by
  unfold State.answerUnloaded
  dsimp only
  (repeat' split) <;> simp

/-- Heads that reach PARKED after the latch stay there, or enter the fault that is pending. -/
theorem State.Down.onParked (hb : s.bayPresent b = true) : (s.onParked b).Down := by
  have hload : (s.bay b).mayLoad = false := by simp [Bay.mayLoad, Spindle.ready, (h.bays b hb).coasts]
  have hparked : ∀ p : Positioner → Positioner, (p (s.bay b).pos).state = .parked →
      ((s.modPos b p).tell (.poke b)).Down ∧ (((s.modPos b p).tell (.poke b)).bay b).pos.state = .parked :=
    fun p hp => ⟨(h.modPos (.inr (.inl hp))).tell _, by simp [hp]⟩
  simp only [State.onParked, h.powerLoss, hload, if_true, Bool.false_eq_true, if_false]
  split
  · exact State.Down.enterPendingFault (hparked _ (by rfl)).1
  · split
    · exact State.Down.takeHeldLoad (hparked _ (by rfl)).1 (hparked _ (by rfl)).2
    all_goals
      exact State.Down.takeHeldLoad (State.Down.answerUnloaded (hparked _ (by rfl)).1)
        (State.answerUnloaded_heads.trans (hparked _ (by rfl)).2)

theorem State.Down.parkSensor (hb : s.bayPresent b = true) (parked : Bool) : (s.parkSensor b parked).Down := by
  have hsensed : (s.modPos b fun p => { p with parked := parked }).Down := h.modPos (.inl rfl)
  simp only [State.parkSensor, h.powerLoss, Bool.or_true, if_true]
  split
  case h_1 | h_2 =>
    split
    · exact hsensed.onParked (by simpa)
    · exact hsensed
  case h_4 => exact hsensed.tell _
  all_goals exact hsensed

/-! ### The Spindle Controller after the latch (R60) -/

omit h in
theorem Spindle.measured_drive (x : Spindle) (elapsed : Nat) : (x.measured elapsed).drive = x.drive := by
  simp only [Spindle.measured]
  split <;> rfl

omit h in
theorem Spindle.edgeTimers_drive (x : Spindle) : x.edgeTimers.drive = x.drive := by
  fun_cases Spindle.edgeTimers x <;> rfl

/-- An edge of a coasting spindle is measured and causes nothing else. -/
theorem State.Down.takeEdge (hb : s.bayPresent b = true) (elapsed : Nat) : (s.takeEdge b elapsed).Down := by
  have hmeasured : (s.modSpindle b fun x => (x.measured elapsed).edgeTimers).Down :=
    h.modSpindle fun x hs hd => ⟨by simpa, by rw [Spindle.edgeTimers_drive, Spindle.measured_drive, hd]⟩
  have hcoasts := (h.bays b hb).coasts
  have hrevolution : (s.modSpindle b fun x => (x.measured elapsed).edgeTimers).endRevolution b =
      s.modSpindle b fun x => (x.measured elapsed).edgeTimers := by
    rw [State.endRevolution, (hmeasured.bays b (by simpa)).coasts]
  simpa only [State.takeEdge, hrevolution, ite_self, hcoasts, reduceCtorEq, if_false] using hmeasured

/-! ### Commands and events -/

theorem State.Down.recordSample (x : Sample) : (s.recordSample b x).Down := by
  unfold State.recordSample
  exact h.modPos (.inl rfl)

theorem execServoSample_down {w : ServoWord} (ht : execServoSample b w s = .next t) : t.Down := by
  have hhanded : ({ s with servo := s.servo.handedOver b } : State).Down :=
    ⟨h.powerLoss, h.deviceSlot, h.link, h.allowHolder, h.allowWaiter, h.chan, h.bays⟩
  have hlatched : (s.resetHeld || s.powerLoss) = true := by simp [h.powerLoss]
  simp only [execServoSample, if_pos hlatched] at ht
  split at ht <;> cases ht
  · exact h
  · exact hhanded.recordSample _

omit b in
theorem execResetAsserted_down (ht : execResetAsserted s = .next t) : t.Down := by
  cases ht
  refine ⟨h.powerLoss, h.deviceSlot, { h.link with inFrame := rfl, outFrame := rfl }, h.allowHolder, h.allowWaiter,
    { h.chan with gate := rfl }, fun b hb => ?_⟩
  cases b with
  | bayA => exact { h.bays .bayA rfl with lockPulse := rfl, releasePulse := rfl }
  | bayB => exact { h.bays .bayB hb with lockPulse := rfl, releasePulse := rfl }

omit b in
theorem execLdirChange_down {dir : LinkDir} {inbound : Inbound} (ht : execLdirChange dir inbound s = .next t) : t.Down := by
  simp only [execLdirChange, h.linkDead, Bool.false_eq_true, if_false] at ht
  split at ht <;> cases ht
  · exact h
  · exact h.modLink { h.link with }

omit b in
theorem execLinkReset_down (ht : execLinkReset s = .next t) : t.Down := by
  simp only [execLinkReset, h.powerLoss, Bool.or_true, if_true] at ht
  split at ht <;> cases ht
  · exact h
  · exact h.modLink { h.link with }

omit b in
theorem execLinkTimeout_down {inbound : Inbound} (ht : execLinkTimeout inbound s = .next t) : t.Down := by
  simp only [execLinkTimeout, h.link.outFrame, h.frameUnderWay, h.takesFrame, Bool.false_and, Bool.false_eq_true, if_false] at ht
  cases ht
  exact h

omit b in
/-- A command or event other than END_OF_RESET finds the part latched and leaves it so: frames, timers and visits are no events,
the sensors and the sample are recorded, and the Positioner follows its retract. -/
theorem exec_down {i : Instr} (hreset : ∀ pins, i ≠ .endOfReset pins) (ht : exec i s = .next t) : t.Down := by
  have hsame : exec i s = .next s → t.Down := fun he => by cases he.symm.trans ht; exact h
  cases i
  case endOfReset pins => exact absurd rfl (hreset pins)
  case powerFailLatch => exact hsame (if_pos (by simp [h.powerLoss]))
  case resetAsserted => exact execResetAsserted_down h ht
  case linkReset => exact execLinkReset_down h ht
  case linkResetRelease => exact (h.modLink { h.link with }).conclude ht
  case ldirChange dir inbound => exact execLdirChange_down h ht
  case inboundFrameError frame => exact hsame ((ite_congr rfl (fun _ => h.frame _ _) fun _ => rfl).trans (ite_self _))
  case outboundFrameSent =>
    refine hsame (show execOutboundFrameSent s = _ from ?_)
    rw [execOutboundFrameSent, h.link.outFrame]
  case linkTimeout inbound => exact execLinkTimeout_down h ht
  case indexEdge b elapsed => exact h.bayEvent (show execIndexEdge b elapsed s = _ from ht) fun hb => h.takeEdge hb elapsed
  case servoSample b w => exact execServoSample_down h ht
  case retractTimerExpiry b =>
    refine h.bayEvent (show execRetractTimerExpiry b s = _ from ht) fun _ => ?_
    split
    · exact h.enterActFault _
    · exact h
  case parkSensorChange b parked =>
    exact h.bayEvent (show execParkSensorChange b parked s = _ from ht) fun hb => h.parkSensor hb parked
  case presentAccepted b => exact h.baySensor (show execPresentAccepted b s = _ from ht) (h.modCart fun _ => ⟨rfl, rfl⟩)
  case presentLost b => exact h.baySensor (show execPresentLost b s = _ from ht) (h.modCart fun _ => ⟨rfl, rfl⟩)
  case writeProtectChange b p =>
    exact h.baySensor (show execWriteProtectChange b p s = _ from ht) (h.modCart fun _ => ⟨rfl, rfl⟩)
  case lockSenseEngaged b => exact h.baySensor (show execLockSenseEngaged b s = _ from ht) (h.modCart fun _ => ⟨rfl, rfl⟩)
  case lockSenseOpen b => exact h.baySensor (show execLockSenseOpen b s = _ from ht) (h.modCart fun _ => ⟨rfl, rfl⟩)
  case ejectButtonPress level =>
    change execEjectButtonPress level s = _ at ht
    simp only [execEjectButtonPress] at ht
    exact h.baySensor ht (h.modCart fun _ => ⟨rfl, rfl⟩)
  case pulseEnd b => exact hsame (show execPulseEnd b s = _ from h.bayAct _)
  case idFieldRead | idSearchAttemptEnd | dataFieldRead | dataFieldWritten | formatTrackWritten | visitFieldCountEnd =>
    exact hsame (h.visitEvent _)
  case powerOnWatchEnd | firstIndexTimerExpiry | gapTimerExpiry | spinUpTimerExpiry | recoveryTimerExpiry | brakeTimerExpiry
      | stopTimerExpiry | loadTimerExpiry | seekTimerExpiry | recalibrateTimerExpiry | positionerUnloadTimerExpiry
      | settleTimerExpiry | lockConfirmExpiry | releaseConfirmExpiry | idleUnloadTimerExpiry | standbyTimerExpiry
      | ledFlashToggle =>
    exact hsame (h.bayAct _)
  all_goals exact hsame (h.frame _ _)

omit b in
/-- A microsecond of a latched part counts timers, and no frame begins or goes on in it. -/
theorem State.Down.tick : s.tick.Down := by
  have hbay : ∀ x : Bay, x.Down → x.tick.Down := fun x hx => { hx with }
  have hcount : (s.count (inputsAt s.hostTurns)).Down := by
    obtain ⟨spent, hreceive⟩ := (s.receive_spec (inputsAt s.hostTurns).lfrm (inputsAt s.hostTurns).strobe).2 h.takesFrame
      h.frameUnderWay
    unfold State.count
    split
    · exact h
    · have hlink : (({ s.link with spent } : Link).tick (inputsAt s.hostTurns).phase).Down := by
        rw [Link.tick, h.link.outFrame]
        exact { h.link with }
      rw [hreceive]
      refine ⟨h.powerLoss, h.deviceSlot, hlink, h.allowHolder, h.allowWaiter, h.chan, fun b hb => ?_⟩
      cases b with
      | bayA => exact hbay _ (h.bays .bayA rfl)
      | bayB =>
        have htwo : s.twoBays = true := hb
        simpa [State.bay, htwo] using hbay _ (h.bays .bayB hb)
  exact ⟨hcount.powerLoss, hcount.deviceSlot, hcount.link, hcount.allowHolder, hcount.allowWaiter, hcount.chan, hcount.bays⟩

end

theorem execEndOfReset_poweredDown {s t : State} {pins : Pins} (h : s.poweredDown) (ht : execEndOfReset pins s = .next t) :
    t.poweredDown := by
  simp only [execEndOfReset] at ht
  split at ht
  · split at ht
    · exact (State.poweredDown_iff t).2 fun _ => (State.latchPowerFail_down _).conclude ht
    · have hlatch := (State.conclude_keeps (SpinView.Keeps.refl _) ht).powerLoss
      exact fun hl => absurd (hlatch.symm.trans hl) nofun
  · cases ht; exact h

theorem execPowerFailLatch_poweredDown {s t : State} (h : s.poweredDown) (ht : execPowerFailLatch s = .next t) :
    t.poweredDown := by
  unfold execPowerFailLatch at ht
  split at ht <;> cases ht
  · exact h
  · exact (State.poweredDown_iff _).2 fun _ => s.latchPowerFail_down

theorem exec_poweredDown {i : Instr} {s t : State} (h : s.poweredDown) (ht : exec i s = .next t) : t.poweredDown := by
  by_cases hreset : ∃ pins, i = .endOfReset pins
  · obtain ⟨pins, rfl⟩ := hreset
    exact execEndOfReset_poweredDown h ht
  · have hother : ∀ pins, i ≠ .endOfReset pins := fun pins hi => hreset ⟨pins, hi⟩
    by_cases hlatch : i = .powerFailLatch
    · subst hlatch
      exact execPowerFailLatch_poweredDown h ht
    · refine (State.poweredDown_iff t).2 fun hl => ?_
      have hkept : t.powerLoss = s.powerLoss := (exec_keeps (SpinView.Keeps.refl _) hother hlatch ht).powerLoss
      exact exec_down ((State.poweredDown_iff s).1 h (hkept.symm.trans hl)) hother ht

/-- Of the commands and events END_OF_RESET alone clears the latch. -/
theorem exec_powerLoss {i : Instr} {s t : State} (hreset : ∀ pins, i ≠ .endOfReset pins) (h : s.powerLoss = true)
    (ht : exec i s = .next t) : t.powerLoss = true := by
  by_cases hlatch : i = .powerFailLatch
  · subst hlatch
    cases (show execPowerFailLatch s = .next s from if_pos (by simp [h])).symm.trans ht
    exact h
  · exact ((exec_keeps (SpinView.Keeps.refl _) hreset hlatch ht).powerLoss).trans h

theorem State.tick_poweredDown {s : State} (h : s.poweredDown) : s.tick.poweredDown :=
  (State.poweredDown_iff _).2 fun hl =>
    ((State.poweredDown_iff s).1 h ((congrArg SpinView.powerLoss s.tick_spinView).symm.trans hl)).tick

end Sys2Proof.Machine

namespace Sys2Proof
open Machine

/-- Settles O5: an event that sets the latch leaves the part powered down (`State.latchPowerFail_down`), and an event of a latched
part keeps it so (`exec_down`). -/
theorem stepKeepsPowerDown : Obligations.StepKeepsPowerDown := by
  refine ⟨fun s t h ht => ?_, fun i s t => exec_powerLoss, fun s t hpending h hwithheld ht => ?_⟩
  · obtain ⟨i, rest, -, ht⟩ | ⟨i, -, -, ht⟩ | rfl := step_next ht
    · exact exec_poweredDown (s := { s with pending := rest }) h ht
    · exact exec_poweredDown (s := s.unwithheld) h ht
    · exact State.tick_poweredDown h
  · obtain ⟨i, rest, hp, -⟩ | ⟨i, hw, -, -⟩ | rfl := step_next ht
    · simp [hpending] at hp
    · simp [hwithheld] at hw
    · exact (congrArg SpinView.powerLoss s.tick_spinView).trans h

end Sys2Proof

/-! The power-on state (O10, O11), RESET and the power-fail latch (O12, O13, O14), and the speed windows (O56). -/

namespace Sys2Proof.Machine

/-! ## The three speed windows (R46) -/

theorem deviationOf_long {p : Nat} (h : 20000 ≤ p) : deviationOf p = ((p : Int) - 20000) / 20 :=
  Int.tdiv_eq_ediv_of_nonneg (by omega)

theorem deviationOf_short {p : Nat} (h : p < 20000) : deviationOf p = -((20000 - (p : Int)) / 20) := by
  rw [deviationOf, ← Int.neg_sub 20000 (p : Int), Int.neg_tdiv, Int.tdiv_eq_ediv_of_nonneg (by omega)]

theorem entersRegulation_iff (p : Nat) : entersRegulation p = true ↔ p < 65535 ∧ deviationOf p ≤ 5 := by
  simp only [entersRegulation, Bool.and_eq_true, decide_eq_true_eq]
  rfl

theorem inWindow_iff (p : Nat) : inWindow p = true ↔ p < 65535 ∧ -5 ≤ deviationOf p ∧ deviationOf p ≤ 5 := by
  simp only [inWindow, Bool.and_eq_true, decide_eq_true_eq, and_assoc]
  rfl

theorem outOfSpeed_iff (p : Nat) : outOfSpeed p = true ↔ 65535 ≤ p ∨ deviationOf p > 20 ∨ deviationOf p < -20 := by
  simp only [outOfSpeed, Bool.or_eq_true, decide_eq_true_eq, or_assoc]
  rfl

/-- The periods of the in-window condition: truncation carries 19,881 to −5 and 20,119 to +5. -/
theorem inWindow_iff_period (p : Nat) : inWindow p = true ↔ 19881 ≤ p ∧ p ≤ 20119 := by
  rw [inWindow_iff]
  obtain h | h := Nat.lt_or_ge p 20000
  · rw [deviationOf_short h]; omega
  · rw [deviationOf_long h]; omega

theorem outOfSpeed_iff_period (p : Nat) : outOfSpeed p = true ↔ 20420 ≤ p ∨ p ≤ 19580 := by
  rw [outOfSpeed_iff]
  obtain h | h := Nat.lt_or_ge p 20000
  · rw [deviationOf_short h]; omega
  · rw [deviationOf_long h]; omega

end Sys2Proof.Machine

namespace Sys2Proof
open Machine

/-- Settles O56: the deviation of a period above and below nominal is a division of a natural number, and the windows are its
bounds. -/
theorem speedWindowsTestTheDeviation : Obligations.SpeedWindowsTestTheDeviation := by
  intro p
  dsimp only
  refine ⟨rfl, fun hlong => ?_, fun hshort => ?_, entersRegulation_iff p, inWindow_iff p, outOfSpeed_iff p,
    inWindow_iff_period p, outOfSpeed_iff_period p, fun hsaturated => ⟨?_, ?_, ?_⟩⟩
  · by_contra h
    obtain h | rfl := Nat.lt_or_eq_of_le (Nat.le_of_not_lt h)
    · rw [deviationOf_short h] at hlong; omega
    · exact absurd hlong (by decide)
  · by_contra h
    rw [deviationOf_long (Nat.le_of_not_lt h)] at hshort; omega
  · rw [Bool.eq_false_iff, Ne, entersRegulation_iff]; omega
  · rw [Bool.eq_false_iff, Ne, inWindow_iff]; omega
  · exact (outOfSpeed_iff p).2 (.inl hsaturated)

/-- Settles O10: the part at reset rests, with no arbiter held, no traffic and every slot free. -/
theorem resetHasTheInvariants : Obligations.ResetHasTheInvariants := by
  refine ⟨⟨rfl, fun _ => ⟨fun b => ?readiness, .inl rfl, nofun⟩⟩,
    ⟨fun b => ?holder, fun b => ?waiter, nofun, fun _ => rfl⟩, nofun, ⟨rfl, nofun⟩, rfl, fun b => ?quota,
    fun b => ?heads, ⟨by decide, fun _ => rfl, fun _ => rfl⟩⟩
  case readiness => cases b <;> rfl
  case holder | waiter => cases b <;> decide
  case quota => cases b <;> decide
  case heads => cases b <;> exact nofun

/-- Settles O11: the values of `State.reset`, block by block. -/
theorem resetHoldsPowerOnValues : Obligations.ResetHoldsPowerOnValues := by
  refine ⟨fun b => ?spindle, fun b => ?positioner, fun b => ?cartridge, fun b => ?rest, ?blocks⟩
  case spindle => cases b <;> decide
  case positioner => cases b <;> decide
  case cartridge => cases b <;> decide
  case rest => cases b <;> refine ⟨rfl, rfl, rfl, rfl, rfl, rfl, rfl, fun k => by cases k <;> rfl, rfl, rfl⟩
  case blocks => and_intros <;> rfl

/-- Settles O12: every output reads the RESET level, and the rest of the state is untouched. -/
theorem resetAssertedHoldsTheOutputs : Obligations.ResetAssertedHoldsTheOutputs := by
  intro s
  refine ⟨_, rfl, rfl, fun b => ?outputs, rfl, rfl, rfl, rfl, rfl, fun b => ?registers, rfl, rfl, rfl, rfl, rfl, rfl,
    rfl, rfl, rfl, rfl, rfl⟩
  case outputs => cases b <;> exact ⟨rfl, rfl, rfl, rfl, rfl, rfl, rfl⟩
  case registers => cases b <;> exact ⟨rfl, rfl, rfl, rfl, rfl, rfl, rfl, rfl, rfl⟩

end Sys2Proof

namespace Sys2Proof.Machine

/-! ## The power-fail latch -/

theorem State.latchPowerFail_bay (s : State) {b : BayId} (hb : s.bayPresent b = true) :
    s.latchPowerFail.bay b = (s.bay b).powerFail := by
  cases b with
  | bayA => rfl
  | bayB => exact if_pos hb

/-- Heads neither PARKED nor in ACT_FAULT retract, or are PARKED at once where their sensor reads parked (R85). -/
theorem Positioner.powerFail_state (p : Positioner) : p.powerFail.state = (match p.state with
    | .parked => .parked
    | .actFault => .actFault
    | _ => if p.parked then .parked else .retracting) := by
  cases hs : p.state <;> simp [Positioner.powerFail, hs]

/-- A retract under way keeps its time (R85). -/
theorem Positioner.powerFail_retractTimer {p : Positioner} (hs : p.state = .retracting) (hp : p.parked = false) :
    p.powerFail.retractTimer = some (p.retractTimer.getD 500000) := by
  simp [Positioner.powerFail, hs, hp, Config.retractTime]

theorem State.lsrq_latched {s : State} (h : s.powerLoss = true) : s.lsrq = false := by
  simp [State.lsrq, State.linkAlive, h]

/-! ## The end of RESET -/

/-- The part at the end of RESET, with the commands that wait and the number of the microsecond. -/
def startedState (pins : Pins) (s : State) : State := { startState pins with pending := s.pending, hostTurns := s.hostTurns }

/-- The levels of a bay. -/
def bayPins (pins : Pins) : BayId → BayPins
  | .bayA => pins.bayA
  | .bayB => pins.bayB

theorem startedState_bay (pins : Pins) (s : State) {b : BayId} (hb : (startedState pins s).bayPresent b = true) :
    (startedState pins s).bay b = startBay (bayPins pins b) := by
  cases b with
  | bayA => rfl
  | bayB => exact if_pos hb

/-- A part that starts with LDIR at OUT has nothing left to do at the end of the event. -/
theorem startedState_calm {pins : Pins} (s : State) (h : pins.ldir = .hostSends) : (startedState pins s).calm := by
  refine ⟨⟨rfl, rfl⟩, ⟨rfl, rfl, rfl, ?_⟩, .inl h⟩
  cases htwo : pins.twoBays <;>
    simp [startedState, startState, htwo, startBay, Bay.reset, Power.reset, PowerMode.readiness]

theorem exec_endOfReset {pins : Pins} {s : State} (hheld : s.resetHeld = true) (hpower : pins.powerFail = false)
    (hdir : pins.ldir = .hostSends) : exec (.endOfReset pins) s = .next (startedState pins s) := by
  change execEndOfReset pins s = _
  simp only [execEndOfReset, if_pos hheld, hpower, Bool.false_eq_true, if_false]
  exact State.conclude_calm _ (startedState_calm s hdir)

theorem startedState_link {pins : Pins} (s : State) (h : pins.ldir = .hostSends) :
    (startedState pins s).link = { Link.reset with lrst := pins.lrst } :=
  congrArg (fun dir => ({ Link.reset with ldir := dir, lrst := pins.lrst } : Link)) h

theorem startBay_inserted_raised (x : BayPins) : (startBay x).attn.inserted.raised = x.cartridgeIn := by
  cases hin : x.cartridgeIn <;> simp [startBay, hin, Attentions.reset, Attentions.set]

theorem startBay_inserted_payload (x : BayPins) :
    (startBay x).attn.inserted.payload = (if x.cartridgeIn && x.wpProtected then 1 else 0) := by
  cases hin : x.cartridgeIn <;> cases hwp : x.wpProtected <;>
    simp [startBay, hin, hwp, Attentions.reset, Attentions.set, protectByte]

theorem startBay_heads (x : BayPins) : (startBay x).pos.state = (if x.headsParked then .parked else .retracting) := by
  cases hp : x.headsParked <;> simp [startBay, startPos, hp, Positioner.reset]

theorem startBay_retractTimer (x : BayPins) : (startBay x).pos.retractTimer = (if x.headsParked then none else some 500000) := by
  cases hp : x.headsParked <;> simp [startBay, startPos, hp, Positioner.reset, Config.retractTime]

end Sys2Proof.Machine

namespace Sys2Proof
open Machine

/-- Settles O14: the latch acts on a running part, and `Bay.powerFail` is what it leaves of each present bay. -/
theorem powerFailLatchStopsEveryBlock : Obligations.PowerFailLatchStopsEveryBlock := by
  intro s hr
  have hlatch : exec .powerFailLatch s = .next s.latchPowerFail := if_neg (by simp [hr.1, hr.2])
  refine ⟨_, hlatch, rfl, hr.1, rfl, rfl, State.lsrq_latched rfl, rfl, rfl, rfl, rfl, rfl, rfl, rfl, rfl, rfl, fun b hb => ?_⟩
  rw [s.latchPowerFail_bay hb]
  exact ⟨rfl, Positioner.powerFail_state _, Positioner.powerFail_retractTimer, rfl, rfl, rfl, rfl, rfl, rfl, rfl, rfl, rfl, rfl,
    rfl⟩

/-- Settles O13: the part starts in a state in which the event has nothing left to do. -/
theorem endOfResetStartsEachBay : Obligations.EndOfResetStartsEachBay := by
  intro pins s hheld hpower hdir
  refine ⟨_, exec_endOfReset hheld hpower hdir, rfl, rfl, rfl, rfl, startedState_link s hdir, rfl, rfl, rfl, rfl, rfl, rfl, rfl,
    rfl, rfl, rfl, rfl, fun b hb p hp => ?_, fun htwo => if_neg (by simp [htwo])⟩
  have hp : p = bayPins pins b := by rw [hp]; cases b <;> rfl
  rw [startedState_bay pins s hb, ← hp]
  exact ⟨rfl, rfl, rfl, rfl, rfl, rfl, rfl, rfl, rfl, rfl, rfl, rfl, rfl, rfl, rfl, rfl, startBay_inserted_raised p,
    startBay_inserted_payload p, startBay_heads p, startBay_retractTimer p⟩

end Sys2Proof

/-! Index edges (O38, O39): what an edge does to the record of its spindle. -/

namespace Sys2Proof.Machine

/-! ## A spindle's record replaced -/

/-- The part with another spindle record in a bay. -/
def State.putSpindle (s : State) (b : BayId) (x : Spindle) : State := s.modBay b fun z => { z with spindle := x }

section
variable (s : State) (b : BayId) (x y : Spindle)

@[simp] theorem State.putSpindle_bay : (s.putSpindle b x).bay b = { s.bay b with spindle := x } := s.bay_modBay b _

@[simp] theorem State.putSpindle_put : (s.putSpindle b x).putSpindle b y = s.putSpindle b y := s.modBay_modBay b _ _

@[simp] theorem State.modSpindle_put (f : Spindle → Spindle) : (s.putSpindle b x).modSpindle b f = s.putSpindle b (f x) := by
  cases b <;> rfl

theorem State.modSpindle_eq_put (f : Spindle → Spindle) : s.modSpindle b f = s.putSpindle b (f (s.bay b).spindle) := by
  cases b <;> rfl

@[simp] theorem State.putSpindle_signals : (s.putSpindle b x).signals = s.signals := by cases b <;> rfl

@[simp] theorem State.putSpindle_bayPresent (b' : BayId) : (s.putSpindle b x).bayPresent b' = s.bayPresent b' :=
  s.modBay_bayPresent b b' _

@[simp] theorem State.putSpindle_chan : (s.putSpindle b x).chan = s.chan := by cases b <;> rfl

@[simp] theorem State.putSpindle_visiting : (s.putSpindle b x).visiting b = s.visiting b := by cases b <;> rfl

@[simp] theorem State.putSpindle_allowHolder : (s.putSpindle b x).allowHolder = s.allowHolder := by cases b <;> rfl

@[simp] theorem State.putSpindle_allowWaiter : (s.putSpindle b x).allowWaiter = s.allowWaiter := by cases b <;> rfl

end

section
variable {s : State} (h : s.calm) (b : BayId)
include h

theorem State.putSpindle_calm (x : Spindle) : (s.putSpindle b x).calm := s.calm_modBay b _ h rfl

theorem State.conclude_putSpindle (x : Spindle) : (s.putSpindle b x).conclude = .next (s.putSpindle b x) :=
  State.conclude_calm _ (State.putSpindle_calm h b x)

end

/-! ## Messages that change nothing -/

@[simp] theorem State.bay_signals (s : State) (l : List Signal) (b : BayId) :
    ({ s with signals := l } : State).bay b = s.bay b := by
  cases b <;> rfl

/-- Messages that each leave the part as it is are delivered without effect. -/
theorem settle_ignored (u : State) (ms : List Signal)
    (hd : ∀ m ∈ ms, ∀ l, ({ u with signals := l } : State).deliver m = { u with signals := l }) (n : Nat)
    (hn : ms.length ≤ n) :
    settle n { u with signals := ms } = { u with signals := [] } := by
  induction ms generalizing n with
  | nil => exact settle_nil n _ rfl
  | cons m rest ih =>
    obtain ⟨n, rfl⟩ := Nat.exists_eq_add_one_of_ne_zero (show n ≠ 0 by rintro rfl; simp at hn)
    rw [settle_cons n _ m rest rfl, hd m (by simp)]
    exact ih (fun m hm => hd m (by simp [hm])) n (by simpa using hn)

/-- A bay that rests is poked without effect. -/
theorem settle_poke {u : State} {b : BayId} (hr : ∀ m, ({ u with signals := m } : State).bayRests b = true) (n : Nat)
    (rest : List Signal) : settle (n + 1) { u with signals := .poke b :: rest } = settle n { u with signals := rest } := by
  rw [settle_cons n _ (.poke b) rest rfl]
  exact congrArg (settle n) (State.deliver_poke _ _ (hr rest))

/-- Two messages left after none. -/
theorem State.tell_tell {u : State} (h : u.signals = []) (m m' : Signal) :
    (u.tell m).tell m' = { u with signals := [m, m'] } := by
  simp [State.tell, h]

/-- The end of an event that took one bay of a calm part to a mode of another class (R168). -/
theorem State.closeEvent_modBay {s : State} (h : s.calm) {b : BayId} (f : Bay → Bay)
    (hf : (f (s.bay b)).power.readiness ≠ (f (s.bay b)).power.mode.readiness) :
    (s.modBay b f).closeEvent = s.modBay b fun z => { f z with
      power := { (f z).power with readiness := (f z).power.mode.readiness }
      attn := { (f z).attn with
        readiness := { raised := true, payload := BitVec.ofNat 8 (f z).power.mode.readiness.code } } } := by
  have hother : ((s.modBay b f).bay (otherBay b)) = s.bay (otherBay b) := by cases b <;> rfl
  have hclass := State.closeEvent_class (s.modBay b f) b (by cases b <;> exact h.1) (by cases b <;> exact h.2.1.1)
    (by cases b <;> exact h.2.1.2.1) (by cases b <;> exact h.2.2) (by simpa using hf) (by rw [hother]; exact h.2.1.class _)
  rw [hclass, State.modBay_modBay]

/-- An event whose messages change nothing ends in the state that it had reached. -/
theorem State.conclude_ignored {u : State} (hu : u.calm) (ms : List Signal)
    (hd : ∀ m ∈ ms, ∀ l, ({ u with signals := l } : State).deliver m = { u with signals := l }) (hn : ms.length ≤ 400) :
    ({ u with signals := ms } : State).conclude = .next u := by
  refine State.conclude_msgs _ u hu.1 ?_ hu
  exact (settle_ignored u ms hd 400 hn).trans (u.signals_same hu.2.1.1)

/-! ## Index edges -/

section
variable {s : State} (h : s.calm) {b : BayId} (hp : s.bayPresent b = true) (elapsed : Nat)

/-- An edge outside STOPPED, with no revolution open: the measurement alone. -/
theorem State.takeEdge_opens (hopen : (s.bay b).spindle.revolutionOpen = false) (hs : (s.bay b).spindle.state ≠ .stopped) :
    s.takeEdge b elapsed = s.putSpindle b ((s.bay b).spindle.measured elapsed).edgeTimers := by
  simp only [State.takeEdge, State.modSpindle_eq_put, hopen, hs, Bool.false_eq_true, if_false]

/-- An edge outside STOPPED that ends a revolution. -/
theorem State.takeEdge_ends (hopen : (s.bay b).spindle.revolutionOpen = true) (hs : (s.bay b).spindle.state ≠ .stopped) :
    s.takeEdge b elapsed = (s.putSpindle b ((s.bay b).spindle.measured elapsed).edgeTimers).endRevolution b := by
  simp only [State.takeEdge, State.modSpindle_eq_put, hopen, hs, if_true, if_false]

/-- An edge at rest ends no revolution that matters. -/
theorem State.takeEdge_aside (hs : (s.bay b).spindle.state = .stopped ∨ (s.bay b).spindle.state = .waitAllowance) :
    s.takeEdge b elapsed = (if (s.bay b).spindle.state = .stopped
      then (s.putSpindle b ((s.bay b).spindle.measured elapsed)).enterBraking b
      else s.putSpindle b ((s.bay b).spindle.measured elapsed)) := by
  have htimers : ((s.bay b).spindle.measured elapsed).edgeTimers = (s.bay b).spindle.measured elapsed := by
    obtain hs | hs := hs <;> simp [Spindle.edgeTimers, hs]
  have hrevolution : (s.putSpindle b ((s.bay b).spindle.measured elapsed)).endRevolution b =
      s.putSpindle b ((s.bay b).spindle.measured elapsed) := by
    obtain hs | hs := hs <;> simp [State.endRevolution, hs]
  simp only [State.takeEdge, State.modSpindle_eq_put, htimers, hrevolution, ite_self]

include h hp

theorem exec_indexEdge : exec (.indexEdge b elapsed) s = (s.takeEdge b elapsed).conclude :=
  s.bayEvent_taken b (fun s => s.takeEdge b elapsed) (s.bayLive_of b h.1 hp)

end

/-! ### A revolution that ends -/

/-- A spindle record at the end of a revolution: measured, with the gap timer restarted (R45, R57). -/
def Spindle.ended (x : Spindle) (elapsed : Nat) : Spindle :=
  { x with
    counter := 0, gapTimer := some 100000, firstIndexTimer := none
    period := min 65535 (x.counter + elapsed), deviation := deviationOf (min 65535 (x.counter + elapsed)) }

theorem Spindle.edge_ends {x : Spindle} (hs : x.state.spinning = true) (ho : x.revolutionOpen = true) (elapsed : Nat) :
    (x.measured elapsed).edgeTimers = x.ended elapsed := by
  cases hstate : x.state <;> simp [hstate, SpinState.spinning] at hs <;>
    simp [Spindle.measured, Spindle.edgeTimers, ho, hstate, Spindle.ended, Config.gapTime, Config.saturatedPeriod]

theorem Spindle.edge_opens {x : Spindle} (hs : x.state.spinning = true) (ho : x.revolutionOpen = false) (elapsed : Nat) :
    (x.measured elapsed).edgeTimers =
      { x with counter := 0, gapTimer := some 100000, firstIndexTimer := none, revolutionOpen := true } := by
  cases hstate : x.state <;> simp [hstate, SpinState.spinning] at hs <;>
    simp [Spindle.measured, Spindle.edgeTimers, ho, hstate, Config.gapTime]

/-- The drive after the regulation step of the revolution that ends (R52). -/
def Spindle.regulated (x : Spindle) (elapsed : Nat) : Spindle :=
  { x.ended elapsed with drive := regulatedDrive x.drive (min 65535 (x.counter + elapsed)) }

/-- The revolutions in the window in a row (R53). -/
def Spindle.inCount (x : Spindle) (elapsed : Nat) : Nat :=
  if inWindow (min 65535 (x.counter + elapsed)) then x.inRun + 1 else 0

/-- The revolutions out of the speed-fault window in a row (R55). -/
def Spindle.outCount (x : Spindle) (elapsed : Nat) : Nat :=
  if outOfSpeed (min 65535 (x.counter + elapsed)) then x.outRun + 1 else 0

/-- A holder that gives the allowance back with none waiting leaves it free (R49). -/
theorem State.releaseAllowance_free {s : State} {b : BayId} (hh : s.allowHolder = some b) (hw : s.allowWaiter = none) :
    s.releaseAllowance b = { s with allowHolder := none } := by
  rw [State.releaseAllowance, if_pos hh, hw]

/-- A holder that gives the allowance back passes it to the waiter (R49). -/
theorem State.releaseAllowance_passes {s : State} {b w : BayId} (hh : s.allowHolder = some b) (hw : s.allowWaiter = some w) :
    s.releaseAllowance b = ({ s with allowHolder := none, allowWaiter := none } : State).grantAllowance w := by
  rw [State.releaseAllowance, if_pos hh, hw]

/-- A mounted bay with no command, sector operation or wake waits for no spindle (R63). -/
theorem State.onReady_quiet {s : State} {b : BayId} {x : Bay} (hx : s.bay b = x) (hc : x.cart.state = .mounted)
    (hj : x.job = none) (hs : x.slot = none) (hw : x.power.wake = none) : s.onReady b = s := by
  simp [State.onReady, hx, hc, hj, hs, hw]

/-- Calmness does not look at the allowance. -/
theorem State.calm.allowance {s : State} (h : s.calm) (holder waiter : Option BayId) :
    ({ s with allowHolder := holder, allowWaiter := waiter } : State).calm :=
  ⟨h.1, h.2.1, h.2.2⟩

/-- Heads that FOLLOW leave as at an unload order (R55, R67). -/
theorem State.headsLeave_following {s : State} {b : BayId} (hs : (s.bay b).pos.state = .following) :
    s.headsLeave b = s.unloadOrder b := by
  simp [State.headsLeave, State.unloadOrder, hs, PosState.loaded]

/-- Speed lost in IDLE, with no standby entry (R161). -/
theorem State.onSpeedLost_idle {s : State} {b : BayId} {x : Bay} (hx : s.bay b = x) (hc : x.cart.state = .mounted)
    (hm : x.power.mode = .idle) (he : x.power.entry = none) : s.onSpeedLost b = s.setMode b .parkedIdle := by
  simp [State.onSpeedLost, hx, hc, hm, he]

/-- A bay whose heads begin to unload, with another spindle record. -/
def Bay.unloads (z : Bay) (x : Spindle) : Bay := { z with spindle := x, pos := z.pos.unloadStarted }

/-- A mounted bay in IDLE whose heads unload has nothing else to do. -/
theorem State.readyAt.unloads_rests {s : State} {b : BayId} {t : Tables} {at_ : Track} (hr : s.readyAt b t at_)
    (hf : s.link.inFrame = none) (x : Spindle) (m : List Signal) :
    ({ s.modBay b (fun z => z.unloads x) with signals := m } : State).bayRests b = true := by
  obtain ⟨-, hslot, hjob, -, -, hcart, -, -, -, hentry, -, -, -, -, -, hparked, -, -, -, hvisit, hwaiter⟩ := hr
  have hrests : ((s.bay b).unloads x).rests = true := by
    simp [Bay.rests, Bay.unloads, Positioner.rests, Positioner.unloadStarted, Cartridge.rests, hparked, hcart, hentry, hjob,
      hslot]
  have hbay : ({ s.modBay b (fun z => z.unloads x) with signals := m } : State).bay b = (s.bay b).unloads x :=
    (State.bay_signals _ m b).trans (s.bay_modBay b _)
  rw [State.bayRests, hbay, hrests]
  cases b <;> simpa [State.modBay, State.setBay, State.visiting, hf, hwaiter] using hvisit

/-- Heads that FOLLOW unload with the entry to SPEED_FAULT (R55, R83). -/
theorem State.readyAt.enterSpeedFault {s : State} {b : BayId} {t : Tables} {at_ : Track} (hr : s.readyAt b t at_)
    (x : Spindle) : (s.putSpindle b x).enterSpeedFault b = ((s.modBay b fun z => z.unloads { x with
      state := .speedFault, outRun := 0, inRun := 0, recoveryTimer := some 5000000 }).tell (.poke b)).tell (.speedLost b) := by
  obtain ⟨-, -, hjob, -, -, -, -, -, -, -, -, -, -, hpos, -, -, hload, hseek, hheld, hvisit, hwaiter⟩ := hr
  rw [State.enterSpeedFault, State.modSpindle_put, State.headsLeave_following (by simpa), State.unloadOrder_following]
  · cases b <;> rfl
  all_goals simpa

theorem State.readyAt.atSpeed {s : State} {b : BayId} {t : Tables} {at_ : Track} (h : s.readyAt b t at_) :
    (s.bay b).spindle.state = .atSpeed := by
  obtain ⟨-, -, -, -, -, -, -, -, -, -, -, -, hspin, -⟩ := h
  exact hspin

theorem State.readyAt.following {s : State} {b : BayId} {t : Tables} {at_ : Track} (h : s.readyAt b t at_) :
    (s.bay b).pos.state = .following := by
  obtain ⟨-, -, -, -, -, -, -, -, -, -, -, -, -, hpos, -⟩ := h
  exact hpos

theorem State.readyAt.mounted {s : State} {b : BayId} {t : Tables} {at_ : Track} (h : s.readyAt b t at_) :
    (s.bay b).cart.state = .mounted := by
  obtain ⟨-, -, -, -, -, hmounted, -⟩ := h
  exact hmounted

/-- Told speed lost once its heads unload, a bay in IDLE is PARKED_IDLE with READINESS LOAD_DELAY (R161, R168). -/
theorem State.readyAt.conclude_speedLost {s : State} (h : s.calm) {b : BayId} {t : Tables} {at_ : Track}
    (hr : s.readyAt b t at_) (hf : s.link.inFrame = none) (x : Spindle) :
    (((s.modBay b fun z => z.unloads x).tell (.poke b)).tell (.speedLost b)).conclude =
      .next (s.modBay b fun z => { z.unloads x with
      power := { z.power with mode := .parkedIdle, readiness := .loadDelay }
      attn := { z.attn with readiness := { raised := true, payload := 1 } } }) := by
  have hrests := hr.unloads_rests hf x
  obtain ⟨-, -, -, -, -, hcart, -, -, hmode, hentry, -⟩ := hr
  have hcalm : (s.modBay b fun z => z.unloads x).calm := s.calm_modBay b _ h rfl
  have hready : (s.bay b).power.readiness = .ready := (h.2.1.class b).trans (by rw [hmode]; rfl)
  have hlost : (s.modBay b fun z => z.unloads x).onSpeedLost b = s.modBay b fun z => { z.unloads x with
      power := { z.power with mode := .parkedIdle } } := by
    rw [State.onSpeedLost_idle (s.bay_modBay b _) hcart hmode hentry]
    cases b <;> rfl
  have hsettle : settle 400 (((s.modBay b fun z => z.unloads x).tell (.poke b)).tell (.speedLost b)) =
      s.modBay b fun z => { z.unloads x with power := { z.power with mode := .parkedIdle } } := by
    rw [State.tell_tell hcalm.2.1.1, settle_poke hrests, settle_cons _ _ (.speedLost b) [] rfl]
    change settle _ (State.onSpeedLost { s.modBay b (fun z => z.unloads x) with signals := [] } b) = _
    rw [State.signals_same _ hcalm.2.1.1, hlost, settle_nil _ _ (by simp [h.2.1.1])]
  rw [State.conclude_settle _ (by exact ⟨hcalm.1.1, hcalm.1.2⟩) _ hsettle (by simp [h.2.1.1]),
    State.closeEvent_modBay h _ (by simp [hready, PowerMode.readiness])]
  rfl

section
variable (s : State) (b : BayId) (x : Spindle) (elapsed : Nat)

theorem State.endTowardSpeed_ended : (s.putSpindle b (x.ended elapsed)).endTowardSpeed b =
    if 4 ≤ x.inCount elapsed then
      (s.putSpindle b { x.regulated elapsed with inRun := x.inCount elapsed }).enterAtSpeed b
    else s.putSpindle b { x.regulated elapsed with inRun := x.inCount elapsed } := by
  simp only [State.endTowardSpeed, State.modSpindle_put, State.putSpindle_bay]
  rfl

theorem State.endAtSpeed_ended : (s.putSpindle b (x.ended elapsed)).endAtSpeed b =
    if 3 ≤ x.outCount elapsed then
      (s.putSpindle b { x.regulated elapsed with outRun := x.outCount elapsed }).enterSpeedFault b
    else
      let u := s.putSpindle b { x.regulated elapsed with
        outRun := x.outCount elapsed, purgeRemaining := x.purgeRemaining - 1 }
      if x.purgeRemaining = 1 then u.tell (.ready b) else u := by
  simp only [State.endAtSpeed, State.modSpindle_put, State.putSpindle_bay]
  rfl

end

section
variable {s : State} (h : s.calm) {b : BayId} (hp : s.bayPresent b = true) {elapsed : Nat}
  (ho : (s.bay b).spindle.revolutionOpen = true)
include h hp ho

/-- An edge that ends a revolution of a spinning spindle. -/
theorem exec_indexEdge_ends (hs : (s.bay b).spindle.state.spinning = true) : exec (.indexEdge b elapsed) s =
    ((s.putSpindle b ((s.bay b).spindle.ended elapsed)).endRevolution b).conclude := by
  rw [exec_indexEdge h hp, State.takeEdge_ends elapsed ho (by intro hst; simp [hst, SpinState.spinning] at hs),
    Spindle.edge_ends hs ho]

/-- A revolution in ACCELERATING that is too long (R51). -/
theorem exec_indexEdge_accelerating (hs : (s.bay b).spindle.state = .accelerating)
    (hshort : entersRegulation (min 65535 ((s.bay b).spindle.counter + elapsed)) = false) :
    exec (.indexEdge b elapsed) s = .next (s.putSpindle b ((s.bay b).spindle.ended elapsed)) := by
  rw [exec_indexEdge_ends h hp ho (by rw [hs]; rfl)]
  have hended : (s.putSpindle b ((s.bay b).spindle.ended elapsed)).endRevolution b =
      s.putSpindle b ((s.bay b).spindle.ended elapsed) := by
    simp [State.endRevolution, Spindle.ended, hs, State.endAccelerating, hshort]
  rw [hended, State.conclude_putSpindle h]

/-- A revolution in ACCELERATING that enters regulation (R51). -/
theorem exec_indexEdge_regulates (hs : (s.bay b).spindle.state = .accelerating)
    (hshort : entersRegulation (min 65535 ((s.bay b).spindle.counter + elapsed)) = true) :
    exec (.indexEdge b elapsed) s = ((s.putSpindle b { (s.bay b).spindle.ended elapsed with
      state := .regulating, drive := 144, inRun := 0 }).releaseAllowance b).conclude := by
  rw [exec_indexEdge_ends h hp ho (by rw [hs]; rfl)]
  simp [State.endRevolution, Spindle.ended, hs, State.endAccelerating, hshort, Config.regulatingDrive]

/-- The allowance is free with the entry to REGULATING where no bay waits. -/
theorem exec_indexEdge_frees (hs : (s.bay b).spindle.state = .accelerating)
    (hshort : entersRegulation (min 65535 ((s.bay b).spindle.counter + elapsed)) = true)
    (hholder : s.allowHolder = some b) (hw : s.allowWaiter = none) :
    exec (.indexEdge b elapsed) s = .next (({ s with allowHolder := none } : State).putSpindle b
      { (s.bay b).spindle.ended elapsed with state := .regulating, drive := 144, inRun := 0 }) := by
  rw [exec_indexEdge_regulates h hp ho hs hshort, State.releaseAllowance_free (by simpa) (by simpa)]
  have hcalm := State.conclude_putSpindle (h.allowance none s.allowWaiter) b
    { (s.bay b).spindle.ended elapsed with state := .regulating, drive := 144, inRun := 0 }
  cases b <;> exact hcalm

/-- The waiter is granted the allowance with the entry to REGULATING. -/
theorem exec_indexEdge_passes (hs : (s.bay b).spindle.state = .accelerating)
    (hshort : entersRegulation (min 65535 ((s.bay b).spindle.counter + elapsed)) = true)
    (hholder : s.allowHolder = some b) {w : BayId} (hw : s.allowWaiter = some w) :
    exec (.indexEdge b elapsed) s =
      .next ((({ s with allowHolder := some w, allowWaiter := none } : State).putSpindle b
        { (s.bay b).spindle.ended elapsed with state := .regulating, drive := 144, inRun := 0 }).modSpindle w fun x => { x with
          state := .accelerating, drive := 255, revolutionOpen := false, inRun := 0, outRun := 0, firstAtSpeed := false
          failure := .none, firstIndexTimer := some 3000000, spinUpTimer := some 15000000, gapTimer := none
          purgeRemaining := s.dmt.purge x.purgeKind }) := by
  rw [exec_indexEdge_regulates h hp ho hs hshort, State.releaseAllowance_passes (by simpa) (by simpa)]
  have hcalm := State.putSpindle_calm (h.allowance (some w) none) b
    { (s.bay b).spindle.ended elapsed with state := .regulating, drive := 144, inRun := 0 }
  have hgranted := State.conclude_calm _ (State.calm_modBay _ w (fun z => { z with spindle := { z.spindle with
    state := .accelerating, drive := 255, revolutionOpen := false, inRun := 0, outRun := 0, firstAtSpeed := false
    failure := .none, firstIndexTimer := some 3000000, spinUpTimer := some 15000000, gapTimer := none
    purgeRemaining := s.dmt.purge z.spindle.purgeKind } }) hcalm rfl)
  cases b <;> cases w <;> exact hgranted

/-- A revolution toward AT_SPEED (R52, R53, R56). -/
theorem exec_indexEdge_toward (hs : (s.bay b).spindle.state = .regulating ∨ (s.bay b).spindle.state = .speedFault) :
    exec (.indexEdge b elapsed) s = ((s.putSpindle b ((s.bay b).spindle.ended elapsed)).endTowardSpeed b).conclude := by
  rw [exec_indexEdge_ends h hp ho (by obtain hs | hs := hs <;> rw [hs] <;> rfl)]
  obtain hs | hs := hs <;> simp [State.endRevolution, Spindle.ended, hs]

/-- A revolution that does not bring AT_SPEED. -/
theorem exec_indexEdge_below (hs : (s.bay b).spindle.state = .regulating ∨ (s.bay b).spindle.state = .speedFault)
    (hrun : (s.bay b).spindle.inCount elapsed < 4) :
    exec (.indexEdge b elapsed) s = .next (s.putSpindle b
      { (s.bay b).spindle.regulated elapsed with inRun := (s.bay b).spindle.inCount elapsed }) := by
  rw [exec_indexEdge_toward h hp ho hs, State.endTowardSpeed_ended, if_neg (by omega), State.conclude_putSpindle h]

/-- The fourth revolution in the window in a row brings AT_SPEED (R53, R56). -/
theorem exec_indexEdge_reaches (hs : (s.bay b).spindle.state = .regulating ∨ (s.bay b).spindle.state = .speedFault)
    (hrun : 4 ≤ (s.bay b).spindle.inCount elapsed) :
    exec (.indexEdge b elapsed) s = ((s.putSpindle b
      { (s.bay b).spindle.regulated elapsed with inRun := (s.bay b).spindle.inCount elapsed }).enterAtSpeed b).conclude := by
  rw [exec_indexEdge_toward h hp ho hs, State.endTowardSpeed_ended, if_pos hrun]

/-- The first AT_SPEED of a spin-up, with its purge to come (R53). -/
theorem exec_indexEdge_spunUp (hs : (s.bay b).spindle.state = .regulating) (hrun : 4 ≤ (s.bay b).spindle.inCount elapsed)
    (hpurge : (s.bay b).spindle.purgeRemaining ≠ 0) (hfirst : (s.bay b).spindle.firstAtSpeed = false) :
    exec (.indexEdge b elapsed) s = .next (s.putSpindle b { (s.bay b).spindle.regulated elapsed with
      state := .atSpeed, inRun := 0, outRun := 0, spinUpTimer := none, firstAtSpeed := true }) := by
  rw [exec_indexEdge_reaches h hp ho (.inl hs) hrun, ← State.conclude_putSpindle h]
  simp [State.enterAtSpeed, Spindle.regulated, Spindle.ended, hs, hpurge, hfirst]

/-- Speed regained, with nothing in the bay that waits for it (R56, R63). -/
theorem exec_indexEdge_recovers (hs : (s.bay b).spindle.state = .speedFault) (hrun : 4 ≤ (s.bay b).spindle.inCount elapsed)
    (hfirst : (s.bay b).spindle.firstAtSpeed = true)
    (hquiet : (s.bay b).spindle.purgeRemaining ≠ 0 ∨ ((s.bay b).cart.state = .mounted ∧ (s.bay b).job = none ∧
      (s.bay b).slot = none ∧ (s.bay b).power.wake = none)) :
    exec (.indexEdge b elapsed) s = .next (s.putSpindle b { (s.bay b).spindle.regulated elapsed with
      state := .atSpeed, inRun := 0, outRun := 0, recoveryTimer := none }) := by
  rw [exec_indexEdge_reaches h hp ho (.inr hs) hrun]
  have hcalm := State.putSpindle_calm h b { (s.bay b).spindle.regulated elapsed with
    state := .atSpeed, inRun := 0, outRun := 0, recoveryTimer := none }
  have hentered : (s.putSpindle b
      { (s.bay b).spindle.regulated elapsed with inRun := (s.bay b).spindle.inCount elapsed }).enterAtSpeed b =
      { s.putSpindle b { (s.bay b).spindle.regulated elapsed with
          state := .atSpeed, inRun := 0, outRun := 0, recoveryTimer := none } with
        signals := .speedRecovered b :: if (s.bay b).spindle.purgeRemaining = 0 then [.ready b] else [] } := by
    by_cases hpurge : (s.bay b).spindle.purgeRemaining = 0 <;>
      simp [State.enterAtSpeed, Spindle.regulated, Spindle.ended, hs, hfirst, hpurge, State.tell, h.2.1.1]
  rw [hentered]
  refine State.conclude_ignored hcalm _ (List.forall_mem_cons.2 ⟨fun _ => rfl, fun m hm l => ?_⟩) (by split <;> simp)
  split at hm
  next hpurge =>
    obtain rfl := List.mem_singleton.1 hm
    obtain hpurge' | ⟨hc, hj, hslot, hwake⟩ := hquiet
    · exact absurd hpurge hpurge'
    · exact State.onReady_quiet ((State.bay_signals _ l b).trans (s.putSpindle_bay b _)) hc hj hslot hwake
  next => cases hm

/-- A revolution in AT_SPEED (R52, R54, R55). -/
theorem exec_indexEdge_atSpeed (hs : (s.bay b).spindle.state = .atSpeed) : exec (.indexEdge b elapsed) s =
    ((s.putSpindle b ((s.bay b).spindle.ended elapsed)).endAtSpeed b).conclude := by
  rw [exec_indexEdge_ends h hp ho (by rw [hs]; rfl)]
  simp [State.endRevolution, Spindle.ended, hs]

/-- A revolution in AT_SPEED counts for the purge (R54). -/
theorem exec_indexEdge_purges (hs : (s.bay b).spindle.state = .atSpeed) (hout : (s.bay b).spindle.outCount elapsed < 3)
    (hpurge : (s.bay b).spindle.purgeRemaining ≠ 1) :
    exec (.indexEdge b elapsed) s = .next (s.putSpindle b { (s.bay b).spindle.regulated elapsed with
      outRun := (s.bay b).spindle.outCount elapsed, purgeRemaining := (s.bay b).spindle.purgeRemaining - 1 }) := by
  rw [exec_indexEdge_atSpeed h hp ho hs, State.endAtSpeed_ended, if_neg (by omega)]
  simp only [if_neg hpurge]
  exact State.conclude_putSpindle h b _

omit hp in
/-- The third revolution out of the speed-fault window in a row, in a bay in IDLE whose heads follow (R55, R83, R161). -/
theorem exec_indexEdge_faults {t : Tables} {at_ : Track} (hr : s.readyAt b t at_) (hf : s.link.inFrame = none)
    (hout : 3 ≤ (s.bay b).spindle.outCount elapsed) :
    exec (.indexEdge b elapsed) s = .next (s.modBay b fun z => { z with
      spindle := { (s.bay b).spindle.regulated elapsed with
        state := .speedFault, inRun := 0, outRun := 0, recoveryTimer := some 5000000 }
      pos := z.pos.unloadStarted
      power := { z.power with mode := .parkedIdle, readiness := .loadDelay }
      attn := { z.attn with readiness := { raised := true, payload := 1 } } }) := by
  rw [exec_indexEdge_atSpeed h hr.1 ho hr.atSpeed, State.endAtSpeed_ended, if_pos hout, hr.enterSpeedFault,
    hr.conclude_speedLost h hf]
  rfl

end

end Sys2Proof.Machine

namespace Sys2Proof
open Machine

/-- Settles O39: an edge at rest is measured, and in STOPPED it takes the spindle to BRAKING. -/
theorem indexEdgeAtRestBrakes : Obligations.IndexEdgeAtRestBrakes := by
  intro b elapsed s h hp
  refine ⟨fun hs => ?_, fun hs => ?_, fun k hs => ?_⟩
  · rw [exec_indexEdge h hp, State.takeEdge_aside elapsed (.inl hs), if_pos hs, State.enterBraking, State.modSpindle_put]
    exact State.conclude_putSpindle h b _
  · rw [exec_indexEdge h hp, State.takeEdge_aside elapsed (.inr hs), if_neg (by simp [hs])]
    exact State.conclude_putSpindle h b _
  · rw [State.startRequest, if_pos hp, State.takeStartRequest, hs]
    rfl


/-- Settles O38: one lemma for each state of the spindle and each way in which its revolution ends. -/
theorem indexEdgeMeasuresARevolution : Obligations.IndexEdgeMeasuresARevolution := by
  intro b elapsed s h hkept hp x p timed ended step regulated with_ run out
  have hholder : x.state = .accelerating → s.allowHolder = some b := (hkept.1 b).2
  refine ⟨fun hs ho => ?_, fun hs ho => ⟨fun hlong => ?_, fun hshort => ⟨fun hw => ?_, fun w hw => ?_⟩⟩,
    fun hs ho hrun => ?_, fun hs ho hrun hpurge hfirst => ?_, fun hs ho hrun hfirst hquiet => ?_, fun hs ho hout hpurge => ?_,
    fun t at_ hready hframe ho hout => ?_⟩
  · rw [exec_indexEdge h hp, State.takeEdge_opens elapsed ho (by intro hst; simp [x, hst, SpinState.spinning] at hs),
      Spindle.edge_opens hs ho]
    exact State.conclude_putSpindle h b _
  · exact exec_indexEdge_accelerating h hp ho hs hlong
  · exact exec_indexEdge_frees h hp ho hs hshort (hholder hs) hw
  · exact exec_indexEdge_passes h hp ho hs hshort (hholder hs) hw
  · exact exec_indexEdge_below h hp ho hs hrun
  · exact exec_indexEdge_spunUp h hp ho hs hrun hpurge hfirst
  · exact exec_indexEdge_recovers h hp ho hs hrun hfirst hquiet
  · exact exec_indexEdge_purges h hp ho hs hout hpurge
  · exact exec_indexEdge_faults h ho hready hframe hout

end Sys2Proof

/-! Spindles that come to rest and spindles that fail (O40, O41), and the lock sense (O49). -/

namespace Sys2Proof.Machine

/-! ## A start with the allowance free -/

/-- A spindle as it is granted the allowance with a purge (R47, R50). -/
def Spindle.started (x : Spindle) (k : PurgeKind) (purge : Nat) : Spindle :=
  { x with
    state := .accelerating, drive := 255, revolutionOpen := false, inRun := 0, outRun := 0, firstAtSpeed := false
    failure := .none, firstIndexTimer := some 3000000, spinUpTimer := some 15000000, gapTimer := none, purgeKind := k
    pendingStart := none, purgeRemaining := purge }

theorem State.takeStart_free {s : State} (h : s.allowHolder = none) (b : BayId) (k : PurgeKind) :
    s.takeStart b k = ({ s with allowHolder := some b } : State).modSpindle b fun x => x.started k (s.dmt.purge k) := by
  rw [State.takeStart, State.requestAllowance, State.modSpindle_allowHolder, h]
  cases b <;> rfl

/-! ## The entry to STOPPED -/

/-- A spindle's record at rest (R59). -/
def Spindle.rested (x : Spindle) : Spindle :=
  { x with
    state := .stopped, drive := 0, revolutionOpen := false, gapTimer := none, brakeTimer := none, stopTimer := none
    stopWaiting := false, watchOpen := false }

theorem State.enterStopped_eq (s : State) (b : BayId) : s.enterStopped b =
    if (s.bay b).spindle.pendingStart.isSome then ((s.putSpindle b (s.bay b).spindle.rested).tell (.poke b)).tell (.stopped b)
    else (s.putSpindle b (s.bay b).spindle.rested).tell (.poke b) := by
  simp only [State.enterStopped, State.modSpindle_eq_put]
  rfl

/-- The rest of a bay does not turn on its spindle. -/
theorem State.bayRests_putSpindle (s : State) (b : BayId) (x : Spindle) (m : List Signal) :
    ({ s.putSpindle b x with signals := m } : State).bayRests b = s.bayRests b := by
  cases b <;> rfl

section
variable {s : State} (h : s.calm) {b : BayId} (hp : s.bayPresent b = true)
include h hp

theorem exec_powerOnWatchEnd (hw : (s.bay b).spindle.watchOpen = true) (hs : (s.bay b).spindle.state = .stopped) :
    exec (.powerOnWatchEnd b) s = (s.enterStopped b).conclude :=
  (s.bayAct_taken b _ (s.bayLive_of b h.1 hp) h.1.2).trans (congrArg State.conclude (if_pos (by simp [hw, hs])))

theorem exec_stopTimerExpiry (ht : (s.bay b).spindle.stopTimer.isSome = true)
    (hs : (s.bay b).spindle.state = .braking ∨ (s.bay b).spindle.state = .spinFailed) :
    exec (.stopTimerExpiry b) s = (s.enterStopped b).conclude :=
  (s.bayAct_taken b _ (s.bayLive_of b h.1 hp) h.1.2).trans (congrArg State.conclude (if_pos (by simpa [ht] using hs)))

omit hp in
/-- At rest with no start pending (R59, R61). -/
theorem State.conclude_enterStopped (hr : s.bayRests b = true) (hk : (s.bay b).spindle.pendingStart = none) :
    (s.enterStopped b).conclude = .next (s.putSpindle b (s.bay b).spindle.rested) := by
  rw [State.enterStopped_eq, if_neg (by simp [hk]),
    State.conclude_poke _ b (State.putSpindle_calm h b _) fun m => (State.bayRests_putSpindle ..).trans hr]

/-- A pending start is taken in the event that brings the spindle to rest (R47, R49). -/
theorem State.conclude_enterStopped_starts (hr : s.bayRests b = true) {k : PurgeKind}
    (hk : (s.bay b).spindle.pendingStart = some k) (hh : s.allowHolder = none) :
    (s.enterStopped b).conclude = .next (({ s with allowHolder := some b } : State).putSpindle b
      ((s.bay b).spindle.rested.started k (s.dmt.purge k))) := by
  have hcalm := State.putSpindle_calm h b (s.bay b).spindle.rested
  have hstarts : (s.putSpindle b (s.bay b).spindle.rested).startPending b =
      ({ s with allowHolder := some b } : State).putSpindle b ((s.bay b).spindle.rested.started k (s.dmt.purge k)) := by
    have htaken : (s.putSpindle b (s.bay b).spindle.rested).startPending b =
        (s.putSpindle b (s.bay b).spindle.rested).takeStart b k := by
      simp [State.startPending, Spindle.rested, hk, hp, Spindle.atRest]
    rw [htaken, State.takeStart_free (by simpa)]
    cases b <;> rfl
  rw [State.enterStopped_eq, if_pos (by simp [hk]), State.tell_tell hcalm.2.1.1]
  refine State.conclude_msgs _ _ hcalm.1 ?_ (State.putSpindle_calm (h.allowance (some b) s.allowWaiter) b _)
  change settle (398 + 1 + 1) _ = _
  rw [settle_poke (fun m => (State.bayRests_putSpindle ..).trans hr), settle_cons _ _ (.stopped b) [] rfl]
  change settle _ (State.startPending { s.putSpindle b (s.bay b).spindle.rested with signals := [] } b) = _
  rw [State.signals_same _ hcalm.2.1.1, hstarts, settle_nil]
  cases b <;> exact h.2.1.1

end

end Sys2Proof.Machine

namespace Sys2Proof
open Machine

/-- Settles O40: both events are an entry to STOPPED, whose poke finds the bay at rest. -/
theorem spindleComesToRest : Obligations.SpindleComesToRest := by
  intro b s h hp hr x rest due i hi
  have hexec : exec i s = (s.enterStopped b).conclude := by
    obtain ⟨rfl, hw, hs⟩ | ⟨rfl, ht, hs⟩ := hi
    · exact exec_powerOnWatchEnd h hp hw hs
    · exact exec_stopTimerExpiry h hp ht hs
  rw [hexec]
  exact ⟨State.conclude_enterStopped h hr, fun k => State.conclude_enterStopped_starts h hp hr⟩

end Sys2Proof

namespace Sys2Proof.Machine

/-! ## BAY_FAULT of a bay without work (R110) -/

/-- A bay without a command, a sector operation, a dirty record, a buffer slot or a part in the Data Channel. -/
structure State.Untasked (s : State) (b : BayId) : Prop where
  slot : (s.bay b).slot = none
  job : (s.bay b).job = none
  format : (s.bay b).format = none
  flush : (s.bay b).flush = none
  reassign : (s.bay b).reassign = none
  eject : (s.bay b).cart.eject = none
  clean : (s.bay b).tu.dirty = false
  noSlots : ∀ r ∈ s.slots, r.owner ≠ some b
  noVisit : s.visiting b = false
  noWait : s.chan.waiter ≠ some b
  noFrame : s.link.inFrame = none

/-- What BAY_FAULT makes of such a bay. -/
def Bay.faulted (x : Bay) (d : FaultDetail) : Bay :=
  { x with
    cart := { x.cart with
      state := .bayFault, fault := d, settleTimer := none, lockConfirm := none, releaseConfirm := none, startupWait := false }
    pos := { x.pos with seekFor := .nobody, heldSeekOwned := false }
    power := { x.power with mode := .unmounted, unloadTimer := none, standbyTimer := none, entry := none, wake := none }
    attn := { x.attn with bayFault := { raised := true, payload := BitVec.ofNat 8 d.code } }
    ledLit := true }

theorem Positioner.noSeek_same {p : Positioner} (hs : p.seekFor = .nobody) (hh : p.heldSeekOwned = false) :
    { p with seekFor := .nobody, heldSeekOwned := false } = p := by
  cases p; simp_all

theorem State.freeWhere_unowned {s : State} {b : BayId} (h : ∀ r ∈ s.slots, r.owner ≠ some b) (p : SlotRec → Bool) :
    s.freeWhere b p = s := by
  have hslots : (s.slots.map fun r => if r.owner == some b && p r then SlotRec.free else r) = s.slots :=
    (List.map_congr_left fun r hr => if_neg (by simp [h r hr])).trans (List.map_id _)
  rw [State.freeWhere, hslots]

theorem State.tell_modBay (s : State) (b : BayId) (f : Bay → Bay) (m : Signal) :
    (s.tell m).modBay b f = (s.modBay b f).tell m := by
  cases b <;> rfl

/-- Updates of the bay leave it without work where they give it none. -/
theorem State.Untasked.modBay {s : State} {b : BayId} (h : s.Untasked b) (f : Bay → Bay)
    (hf : ∀ x, x = s.bay b → (f x).slot = x.slot ∧ (f x).job = x.job ∧ (f x).format = x.format ∧
      (f x).flush = x.flush ∧ (f x).reassign = x.reassign ∧ (f x).cart.eject = x.cart.eject ∧ (f x).tu = x.tu) :
    (s.modBay b f).Untasked b := by
  obtain ⟨hslot, hjob, hformat, hflush, hreassign, heject, htu⟩ := hf _ rfl
  have hvisit : (s.modBay b f).visiting b = s.visiting b := by cases b <;> rfl
  refine ⟨?_, ?_, ?_, ?_, ?_, ?_, ?_, ?_, hvisit.trans h.noVisit, ?_, ?_⟩ <;> try rw [State.bay_modBay]
  · exact hslot.trans h.slot
  · exact hjob.trans h.job
  · exact hformat.trans h.format
  · exact hflush.trans h.flush
  · exact hreassign.trans h.reassign
  · exact heject.trans h.eject
  · rw [htu]; exact h.clean
  · cases b <;> exact h.noSlots
  · cases b <;> exact h.noWait
  · cases b <;> exact h.noFrame

theorem State.Untasked.signals {s : State} {b : BayId} (h : s.Untasked b) (l : List Signal) :
    ({ s with signals := l } : State).Untasked b := by
  cases b <;> exact ⟨h.slot, h.job, h.format, h.flush, h.reassign, h.eject, h.clean, h.noSlots, h.noVisit, h.noWait,
    h.noFrame⟩

/-- The entry to BAY_FAULT, but by the actuator. -/
theorem State.Untasked.bayFault {s : State} {b : BayId} (h : s.Untasked b) (hc : (s.bay b).cart.state ≠ .bayFault)
    {d : FaultDetail} (hd : ∀ a, d ≠ .actuator a) :
    s.bayFault b d = ((s.modBay b fun x => x.faulted d).tell (.poke b)).tell (.poke b) := by
  have hdiscard : ∀ f : Bay → Bay, (∀ x, (f x).tu = x.tu) → (s.modBay b f).discard b discardFault = s.modBay b f := by
    intro f hf
    exact State.discard_clean (by rw [State.bay_modBay, hf]; exact h.clean) _
  have hcommand : ∀ (f : Bay → Bay) (r : Bool), (∀ x, (f x).slot = x.slot) →
      (s.modBay b f).faultCommand b d r = s.modBay b f := by
    intro f r hf
    simp only [State.faultCommand, State.bay_modBay, hf, h.slot]
  have hdrop : ∀ f : Bay → Bay, (s.modBay b f).dropJob b =
      s.modBay b fun x => { f x with job := none, pos := { (f x).pos with seekFor := .nobody, heldSeekOwned := false } } := by
    intro f
    have hvisit : (s.modBay b f).visiting b = false := (show _ = s.visiting b by cases b <;> rfl).trans h.noVisit
    simp only [State.dropJob, hvisit, Bool.false_eq_true, if_false, State.withdrawChannel, State.setJob, State.modPos,
      State.modBay_modBay]
    exact if_neg (by cases b <;> exact h.noWait)
  have hfree : ∀ f : Bay → Bay, (s.modBay b f).freeRecordSlots b = (s.modBay b f).tell (.poke b) := by
    intro f
    rw [State.freeRecordSlots, State.freeWhere_unowned (by cases b <;> exact h.noSlots)]
  rw [State.bayFault, if_neg hc]
  dsimp only
  rw [State.raise, State.modBay_modBay, hdiscard, hcommand, State.leavePower, State.modPower, State.modBay_modBay, hdrop, hfree,
    State.tell_modBay, State.modBay_modBay]
  · cases d
    case actuator a => exact absurd rfl (hd a)
    all_goals
      refine congrArg (fun u : State => (u.tell (.poke b)).tell (.poke b)) (State.modBay_congr ?_)
      simp [Bay.faulted, Attentions.set, h.job, h.format, h.flush, h.reassign, h.eject]
  · exact fun _ => rfl
  · exact fun _ => rfl

/-- A poke of a bay in BAY_FAULT whose spindle turns changes nothing (R111). -/
theorem State.Untasked.deliver_poke {s : State} {b : BayId} (h : s.Untasked b) (hc : (s.bay b).cart.state = .bayFault)
    (hs : (s.bay b).spindle.atRest = false) (he : (s.bay b).power.entry = none) (hp : (s.bay b).pos.rests = true) :
    s.deliver (.poke b) = s := by
  refine (s.goOn_still b hp h.noFrame ?_ (by simp [h.job]) h.noVisit h.noWait ?_).trans ?_
  · simp [State.stepCommand, h.slot]
  · simp [State.stepStandby, he]
  · simp [State.stepCart, hc, State.stepFault, hs]

theorem State.Untasked.faulted_poke {u : State} {b : BayId} (hu : u.Untasked b) (d : FaultDetail)
    (hs : (u.bay b).spindle.atRest = false) (hp : (u.bay b).pos.rests = true) (l : List Signal) :
    ({ u.modBay b (fun z => z.faulted d) with signals := l } : State).deliver (.poke b) =
      { u.modBay b (fun z => z.faulted d) with signals := l } := by
  have hbay : ({ u.modBay b (fun z => z.faulted d) with signals := l } : State).bay b = (u.bay b).faulted d :=
    (State.bay_signals _ l b).trans (u.bay_modBay b _)
  refine State.Untasked.deliver_poke
    ((hu.modBay (fun z => z.faulted d) fun _ _ => ⟨rfl, rfl, rfl, rfl, rfl, rfl, rfl⟩).signals l) ?_ ?_ ?_ ?_ <;>
    rw [hbay]
  · rfl
  · exact hs
  · rfl
  · exact hp

/-- A change of one bay that leaves its readiness class in step with its mode keeps a calm part calm. -/
theorem State.calm_modBay_class {s : State} (h : s.calm) {b : BayId} {f : Bay → Bay}
    (hf : (f (s.bay b)).power.readiness = (f (s.bay b)).power.mode.readiness) : (s.modBay b f).calm := by
  refine State.calm_of h ?_ ?_ ?_ ?_ ?_ ?_ ?_ ?_
  any_goals cases b <;> rfl
  intro b'
  have hclass := h.2.1.class b'
  cases b <;> cases b' <;> assumption

/-! ## Spindle failures (R57, R58) -/

/-- A spindle's record in SPIN_FAILED. -/
def Spindle.failed (x : Spindle) (d : SpinDetail) : Spindle :=
  { x with
    state := .spinFailed, drive := 0, failure := d, firstIndexTimer := none, spinUpTimer := none, gapTimer := none
    recoveryTimer := none, brakeTimer := none, stopTimer := some 250000, pendingStart := none }

/-- The part once a bay has given the allowance back and none waits for it. -/
def State.givenBack (s : State) (b : BayId) : State :=
  { s with allowHolder := if s.allowHolder = some b then none else s.allowHolder }

@[simp] theorem State.givenBack_bay (s : State) (b b' : BayId) : (s.givenBack b).bay b' = s.bay b' := by cases b' <;> rfl

theorem State.Untasked.givenBack {s : State} {b : BayId} (h : s.Untasked b) : (s.givenBack b).Untasked b := by
  cases b <;> exact ⟨h.slot, h.job, h.format, h.flush, h.reassign, h.eject, h.clean, h.noSlots, h.noVisit, h.noWait,
    h.noFrame⟩

theorem State.releaseAllowance_givenBack {s : State} {b : BayId} (hw : s.allowWaiter = none) :
    s.releaseAllowance b = s.givenBack b := by
  by_cases hh : s.allowHolder = some b
  · rw [State.releaseAllowance_free hh hw, State.givenBack, if_pos hh]
  · rw [State.releaseAllowance_other s b hh, State.givenBack, if_neg hh]

theorem State.enterSpinFailed_parked {s : State} {b : BayId} (hw : s.allowWaiter = none) (hp : (s.bay b).pos.state = .parked)
    (d : SpinDetail) : s.enterSpinFailed b d =
      ((s.givenBack b).putSpindle b ((s.bay b).spindle.failed d)).tell (.spinFailed b d) := by
  have hfailed : (s.putSpindle b ((s.bay b).spindle.failed d)).releaseAllowance b =
      (s.givenBack b).putSpindle b ((s.bay b).spindle.failed d) := by
    rw [State.releaseAllowance_givenBack (by simpa)]
    cases b <;> rfl
  rw [State.enterSpinFailed, State.modSpindle_eq_put]
  change State.retractOrder ((State.releaseAllowance (s.putSpindle b ((s.bay b).spindle.failed d)) b).tell _) b = _
  rw [hfailed]
  simp [State.retractOrder, hp]

/-- A spindle failure in a bay without work whose heads are parked (R58, R110). -/
theorem State.Untasked.conclude_spinFailed {s : State} {b : BayId} (hu : s.Untasked b) (h : s.calm)
    (hc : (s.bay b).cart.state ≠ .bayFault) (hp : (s.bay b).pos.state = .parked) (hm : (s.bay b).power.mode = .unmounted)
    (hw : s.allowWaiter = none) (d : SpinDetail) : (s.enterSpinFailed b d).conclude =
      .next (((s.givenBack b).putSpindle b ((s.bay b).spindle.failed d)).modBay b fun z => z.faulted (.spin d)) := by
  have hgiven : (s.givenBack b).calm := h.allowance _ s.allowWaiter
  have huntasked : ((s.givenBack b).putSpindle b ((s.bay b).spindle.failed d)).Untasked b :=
    hu.givenBack.modBay _ fun _ _ => ⟨rfl, rfl, rfl, rfl, rfl, rfl, rfl⟩
  have hcalm := State.putSpindle_calm hgiven b ((s.bay b).spindle.failed d)
  have hclass := h.2.1.class b
  rw [State.enterSpinFailed_parked hw hp]
  generalize hx : (s.givenBack b).putSpindle b ((s.bay b).spindle.failed d) = u at *
  have hbay : u.bay b = { s.bay b with spindle := (s.bay b).spindle.failed d } := by rw [← hx]; simp
  have hfault := huntasked.bayFault (d := .spin d) (by rw [hbay]; exact hc) (fun _ => nofun)
  have hfaulted : (u.modBay b fun z => z.faulted (.spin d)).calm :=
    State.calm_modBay_class hcalm (by rw [hbay, Bay.faulted]; exact hclass.trans (by rw [hm]))
  refine State.conclude_msgs _ _ hcalm.1 ?_ hfaulted
  change settle (399 + 1) _ = _
  rw [settle_cons 399 _ (.spinFailed b d) [] (by simp [State.tell, hcalm.2.1.1])]
  change settle 399 (State.bayFault { u with signals := [] } b (.spin d)) = _
  rw [State.signals_same u hcalm.2.1.1, hfault, State.tell_tell hfaulted.2.1.1]
  refine (settle_ignored _ _ (fun m hm l => ?_) 399 (by simp)).trans (State.signals_same _ hfaulted.2.1.1)
  have hpoke : m = .poke b := by simpa using hm
  rw [hpoke]
  exact huntasked.faulted_poke _ (by rw [hbay]; rfl) (by simp [hbay, Positioner.rests, hp]) l

section
variable {s : State} (h : s.calm) {b : BayId} (hp : s.bayPresent b = true)
include h hp

/-- The expiry of a timer in the state that it supervises. -/
theorem State.bayAct_fails {c : State → Bool} {d : SpinDetail} (hc : c s = true) :
    (s.bayAct b fun s => if c s then s.enterSpinFailed b d else s) = (s.enterSpinFailed b d).conclude :=
  (s.bayAct_taken b _ (s.bayLive_of b h.1 hp) h.1.2).trans (congrArg State.conclude (if_pos hc))

theorem exec_firstIndexTimerExpiry (ht : (s.bay b).spindle.firstIndexTimer.isSome = true)
    (hs : (s.bay b).spindle.state = .accelerating) :
    exec (.firstIndexTimerExpiry b) s = (s.enterSpinFailed b .noIndex).conclude :=
  State.bayAct_fails h hp (c := fun s => (s.bay b).spindle.firstIndexTimer.isSome && (s.bay b).spindle.state == .accelerating)
    (by simp [ht, hs])

theorem exec_gapTimerExpiry (ht : (s.bay b).spindle.gapTimer.isSome = true) (hs : (s.bay b).spindle.state.spinning = true) :
    exec (.gapTimerExpiry b) s = (s.enterSpinFailed b .indexLost).conclude :=
  State.bayAct_fails h hp (c := fun s => (s.bay b).spindle.gapTimer.isSome && (s.bay b).spindle.state.spinning) (by simp [ht, hs])

theorem exec_spinUpTimerExpiry (ht : (s.bay b).spindle.spinUpTimer.isSome = true)
    (hs : (s.bay b).spindle.state = .accelerating ∨ (s.bay b).spindle.state = .regulating) :
    exec (.spinUpTimerExpiry b) s = (s.enterSpinFailed b .spinTimeout).conclude :=
  State.bayAct_fails h hp (c := fun s => (s.bay b).spindle.spinUpTimer.isSome &&
    ((s.bay b).spindle.state == .accelerating || (s.bay b).spindle.state == .regulating)) (by simpa [ht] using hs)

theorem exec_recoveryTimerExpiry (ht : (s.bay b).spindle.recoveryTimer.isSome = true)
    (hs : (s.bay b).spindle.state = .speedFault) :
    exec (.recoveryTimerExpiry b) s = (s.enterSpinFailed b .speedLost).conclude :=
  State.bayAct_fails h hp (c := fun s => (s.bay b).spindle.recoveryTimer.isSome && (s.bay b).spindle.state == .speedFault)
    (by simp [ht, hs])

theorem exec_brakeTimerExpiry (ht : (s.bay b).spindle.brakeTimer.isSome = true) (hs : (s.bay b).spindle.state = .braking) :
    exec (.brakeTimerExpiry b) s = (s.enterSpinFailed b .brake).conclude :=
  State.bayAct_fails h hp (c := fun s => (s.bay b).spindle.brakeTimer.isSome && (s.bay b).spindle.state == .braking)
    (by simp [ht, hs])

end

end Sys2Proof.Machine

namespace Sys2Proof
open Machine

/-- Settles O41: each of the five expiries is an entry to SPIN_FAILED, which the Cartridge Handler answers with BAY_FAULT. -/
theorem spindleFailureFaultsTheBay : Obligations.SpindleFailureFaultsTheBay := by
  intro b s h _ hp hw hslot hjob hformat hflush hreassign hc heject hpos hseek hheld hmode hentry hclean hslots hvisit
    hwait hframe x i d code hi hfirst hgap hspinUp hrecovery hbrake
  have huntasked : s.Untasked b := ⟨hslot, hjob, hformat, hflush, hreassign, heject, hclean, hslots, hvisit, hwait, hframe⟩
  have hexec : exec i s = (s.enterSpinFailed b d).conclude ∧ code = BitVec.ofNat 8 d.code := by
    simp only [List.mem_cons, Prod.mk.injEq, List.not_mem_nil, or_false] at hi
    obtain ⟨rfl, rfl, rfl⟩ | ⟨rfl, rfl, rfl⟩ | ⟨rfl, rfl, rfl⟩ | ⟨rfl, rfl, rfl⟩ | ⟨rfl, rfl, rfl⟩ := hi
    · exact ⟨exec_firstIndexTimerExpiry h hp (hfirst rfl).1 (hfirst rfl).2, rfl⟩
    · exact ⟨exec_gapTimerExpiry h hp (hgap rfl).1 (hgap rfl).2, rfl⟩
    · exact ⟨exec_spinUpTimerExpiry h hp (hspinUp rfl).1 (hspinUp rfl).2, rfl⟩
    · exact ⟨exec_recoveryTimerExpiry h hp (hrecovery rfl).1 (hrecovery rfl).2, rfl⟩
    · exact ⟨exec_brakeTimerExpiry h hp (hbrake rfl).1 (hbrake rfl).2, rfl⟩
  obtain ⟨hexec, rfl⟩ := hexec
  rw [hexec, huntasked.conclude_spinFailed h hc hpos hmode hw, State.putSpindle, State.modBay_modBay]
  refine congrArg Host.Outcome.next (State.modBay_congr ?_)
  simp [Bay.faulted, Spindle.failed, FaultDetail.code, Positioner.noSeek_same hseek hheld, hmode, hentry]

end Sys2Proof

/-! The lock sense (O49): a pulse confirmed, and a lock fault. -/

namespace Sys2Proof.Machine

/-! ## A lock or release pulse confirmed (R92, R102) -/

/-- A start request of a spindle at rest with the allowance free (R47, R49). -/
theorem State.startRequest_free {s : State} {b : BayId} (hp : s.bayPresent b = true) (hs : (s.bay b).spindle.state = .stopped)
    (hw : (s.bay b).spindle.watchOpen = false) (hh : s.allowHolder = none) (k : PurgeKind) :
    s.startRequest b k = ({ s with allowHolder := some b } : State).modSpindle b fun x => x.started k (s.dmt.purge k) := by
  simp only [State.startRequest, if_pos hp, State.takeStartRequest, hs, hw, Bool.false_eq_true, if_false, State.takeStart_free hh]

/-- The lock is confirmed with AUTOSPIN high, the spindle at rest and the allowance free: it is granted with the insertion purge
(R92, R93). -/
theorem State.lockConfirmed_starts {s : State} {b : BayId} (hp : s.bayPresent b = true) (he : (s.bay b).cart.eject = none)
    (ha : s.autospinHigh = true) (hs : (s.bay b).spindle.state = .stopped) (hw : (s.bay b).spindle.watchOpen = false)
    (hh : s.allowHolder = none) :
    s.lockConfirmed b = ({ s with allowHolder := some b } : State).modBay b fun x => { x with
      cart := { x.cart with state := .spinningUp, lockConfirm := none, lockAttempts := 0, startupWait := false }
      spindle := x.spindle.started .insertion s.dmt.insertionPurge } := by
  have hauto : (s.modCart b fun c => { c with
      lockConfirm := none, lockAttempts := 0, startupWait := false }).autospinHigh = true := by simpa
  rw [State.lockConfirmed, if_neg (by simp [he]), State.enterSpinningUp, if_pos hauto,
    State.startRequest_free (by simpa) (by simpa) (by simpa) (by simpa)]
  cases b <;> rfl

/-- A release is confirmed with no EJECT waiting (R102). -/
theorem State.releaseConfirmed_quiet {s : State} {b : BayId}
    (he : ∀ e, (s.bay b).cart.eject = some e → e.commandWaits = false) :
    s.releaseConfirmed b = s.modBay b fun x => { x with
      cart := { x.cart with state := .released, releaseConfirm := none, eject := none } } := by
  simp only [State.releaseConfirmed, State.ejectDone, State.modCart_cart]
  split
  next e heject => rw [if_neg (by simp [he e heject])]; exact s.modBay_modBay b _ _
  next => exact s.modBay_modBay b _ _

section
variable {s : State} (h : s.calm) {b : BayId} (hp : s.bayPresent b = true)
include h hp

theorem exec_lockSenseEngaged : exec (.lockSenseEngaged b) s =
    (if (s.bay b).cart.state = .locking ∧ (s.bay b).cart.lockConfirm.isSome then
      (s.modCart b fun c => { c with lockEngaged := true }).lockConfirmed b
    else s.modCart b fun c => { c with lockEngaged := true }).conclude := by
  change execLockSenseEngaged b s = _
  rw [execLockSenseEngaged, h.sensor hp]
  simp only [State.modCart_cart]

theorem exec_lockSenseOpen : exec (.lockSenseOpen b) s =
    ((s.modCart b fun c => { c with lockEngaged := false }).lockOpens b).conclude := by
  change execLockSenseOpen b s = _
  rw [execLockSenseOpen, h.sensor hp]

theorem exec_presentLost : exec (.presentLost b) s =
    ((s.modCart b fun c => { c with cartridgeIn := false }).cartridgeLeaves b).conclude := by
  change execPresentLost b s = _
  rw [execPresentLost, h.sensor hp]

omit hp in
theorem State.conclude_modCart (f : Cartridge → Cartridge) : (s.modCart b f).conclude = .next (s.modCart b f) :=
  s.conclude_modBay b _ h (h.2.1.class b)

end

/-- An open lock sense under heads that are not loaded, within the window of a release pulse. -/
theorem State.lockOpens_confirms {s : State} {b : BayId} (hl : (s.bay b).pos.state.loaded = false)
    (hc : (s.bay b).cart.state = .releasing) (hw : (s.bay b).cart.releaseConfirm.isSome = true) :
    s.lockOpens b = s.releaseConfirmed b := by
  simp [State.lockOpens, hl, hc, hw, CartState.lockWatched]

/-- An open lock sense where none is watched. -/
theorem State.lockOpens_unwatched {s : State} {b : BayId} (hl : (s.bay b).pos.state.loaded = false)
    (hc : (s.bay b).cart.state ∈ [.empty, .seated, .locking, .released, .bayFault]) : s.lockOpens b = s := by
  simp only [List.mem_cons, List.not_mem_nil, or_false] at hc
  obtain hc | hc | hc | hc | hc := hc <;> simp [State.lockOpens, hl, hc, CartState.lockWatched]

section
variable {s : State} (h : s.calm) {b : BayId} (hp : s.bayPresent b = true)
include h hp

theorem exec_lockSenseEngaged_starts (hc : (s.bay b).cart.state = .locking) (hw : (s.bay b).cart.lockConfirm.isSome = true)
    (he : (s.bay b).cart.eject = none) (ha : s.autospinHigh = true) (hs : (s.bay b).spindle.state = .stopped)
    (ho : (s.bay b).spindle.watchOpen = false) (hh : s.allowHolder = none) :
    exec (.lockSenseEngaged b) s = .next (({ s with allowHolder := some b } : State).modBay b fun x => { x with
      cart := { (s.bay b).cart with
        lockEngaged := true, state := .spinningUp, lockConfirm := none, lockAttempts := 0, startupWait := false }
      spindle := x.spindle.started .insertion s.dmt.insertionPurge }) := by
  have hcalm := State.conclude_calm _ (State.calm_modBay _ b (fun x => { x with
    cart := { (s.bay b).cart with
      lockEngaged := true, state := .spinningUp, lockConfirm := none, lockAttempts := 0, startupWait := false }
    spindle := x.spindle.started .insertion s.dmt.insertionPurge }) (h.allowance (some b) s.allowWaiter) rfl)
  rw [exec_lockSenseEngaged h hp, if_pos ⟨hc, hw⟩,
    State.lockConfirmed_starts (by simpa) (by simpa) (by simpa) (by simpa) (by simpa) (by simpa)]
  cases b <;> exact hcalm

theorem exec_lockSenseOpen_confirms (hc : (s.bay b).cart.state = .releasing) (hw : (s.bay b).cart.releaseConfirm.isSome = true)
    (he : ∀ e, (s.bay b).cart.eject = some e → e.commandWaits = false) (hl : (s.bay b).pos.state.loaded = false) :
    exec (.lockSenseOpen b) s = .next (s.modBay b fun x => { x with
      cart := { (s.bay b).cart with lockEngaged := false, state := .released, releaseConfirm := none, eject := none } }) := by
  rw [exec_lockSenseOpen h hp, State.lockOpens_confirms (by simpa) (by simpa) (by simpa), State.releaseConfirmed_quiet (by simpa),
    State.modCart, State.modBay_modBay, State.conclude_modBay s b _ h (h.2.1.class b)]
  exact congrArg Host.Outcome.next (State.modBay_congr rfl)

theorem exec_lockSenseOpen_unwatched (hc : (s.bay b).cart.state ∈ [.empty, .seated, .locking, .released, .bayFault])
    (hl : (s.bay b).pos.state.loaded = false) :
    exec (.lockSenseOpen b) s = .next (s.modCart b fun c => { c with lockEngaged := false }) := by
  rw [exec_lockSenseOpen h hp, State.lockOpens_unwatched (by simpa) (by simpa using hc), State.conclude_modCart h]

end

/-! ## A lock fault of a bay in IDLE (R109) -/

/-- A spindle's record in BRAKING, with a stop request waiting (R48, R59). -/
def Spindle.stopping (x : Spindle) : Spindle :=
  { x with
    state := .braking, drive := 0, firstIndexTimer := none, spinUpTimer := none, gapTimer := none, recoveryTimer := none
    brakeTimer := some 10000000, stopTimer := some 250000, watchOpen := false, stopWaiting := true }

/-- A Positioner in RETRACTING, with no order open (R84). -/
def Positioner.retracts (p : Positioner) : Positioner :=
  { p with
    state := .retracting, target := none, calibrated := false, onTrack := false, loadTimer := none, seekTimer := none
    recalTimer := none, unloadTimer := none, retractTimer := some (p.retractTimer.getD 500000), driveMag := 0
    heldSeekOwned := false, reloadTarget := none, givingUp := false, again := .nothing }

/-- A bay with other cartridge items, whose heads retract and whose spindle brakes. -/
def Bay.lockLost (x : Bay) (c : Cartridge) : Bay := { x with cart := c, pos := x.pos.retracts, spindle := x.spindle.stopping }

/-- A stop request to a spindle AT_SPEED under heads that retract already (R48). -/
theorem State.stopRequest_retracting {s : State} {b : BayId} (hp : s.bayPresent b = true)
    (hs : (s.bay b).spindle.state = .atSpeed) (hr : (s.bay b).pos.state = .retracting) :
    s.stopRequest b = s.modSpindle b Spindle.stopping := by
  have hbraked : ((s.enterBraking b).modSpindle b fun x => { x with stopWaiting := true }) = s.modSpindle b Spindle.stopping := by
    cases b <;> rfl
  simp only [State.stopRequest, if_pos hp, State.takeStopRequest, hs, hbraked]
  simp [State.headsLeave, hr, PosState.loaded]

/-- The heads retract and the spindle brakes, whatever the cartridge items become. -/
theorem State.readyAt.retracts_stops {s : State} {b : BayId} {t : Tables} {at_ : Track} (hr : s.readyAt b t at_) (c : Cartridge) :
    ((s.modBay b fun x => { x with cart := c }).enterRetracting b).stopRequest b =
      (s.modBay b fun x => x.lockLost c).tell (.poke b) := by
  obtain ⟨hp, -, hjob, -, -, -, -, -, -, -, -, -, hspin, -, -, -, hload, hseek, hheld, hvisit, hwaiter⟩ := hr
  have hretracts : (s.modBay b fun x => { x with cart := c }).enterRetracting b =
      (s.modBay b fun x => { x with cart := c, pos := x.pos.retracts }).tell (.poke b) := by
    rw [State.enterRetracting_idle, State.modBay_modBay]
    · rfl
    · cases b <;> exact hvisit
    · cases b <;> exact hwaiter
    all_goals simpa
  rw [hretracts, State.stopRequest_retracting]
  · cases b <;> rfl
  · simpa
  · simpa
  · simp [Positioner.retracts]

/-- A lock fault of a bay whose heads FOLLOW (R109). -/
theorem State.lockFault_following {s : State} {b : BayId} (hp : (s.bay b).pos.state = .following) :
    s.lockFault b = ((s.enterRetracting b).stopRequest b).bayFault b .lockLost := by
  simp [State.lockFault, State.retractOrder, hp]

/-- A lock sense that opens in MOUNTED under heads that FOLLOW. -/
theorem State.lockOpens_mounted {s : State} {b : BayId} (hp : (s.bay b).pos.state = .following)
    (hc : (s.bay b).cart.state = .mounted) : s.lockOpens b = ((s.enterRetracting b).stopRequest b).bayFault b .lockLost := by
  have hretracting : ((s.enterRetracting b).bay b).pos.state = .retracting := by simp [State.enterRetracting]
  simp [State.lockOpens, hp, PosState.loaded, hc, CartState.lockWatched, State.lockFault, State.retractOrder, hretracting]

/-- A bay without work has no command, no dirty record and no buffer slot. -/
theorem State.readyAt.untasked {s : State} {b : BayId} {t : Tables} {at_ : Track} (hr : s.readyAt b t at_)
    (hclean : (s.bay b).tu.dirty = false) (hformat : (s.bay b).format = none) (hframe : s.link.inFrame = none)
    (hslots : ∀ r ∈ s.slots, r.owner ≠ some b) : s.Untasked b := by
  obtain ⟨-, hslot, hjob, hreassign, hflush, -, -, heject, -, -, -, -, -, -, -, -, -, -, -, hvisit, hwaiter⟩ := hr
  exact ⟨hslot, hjob, hformat, hflush, hreassign, heject, hclean, hslots, hvisit, hwaiter, hframe⟩

/-- The lock fault of a bay in IDLE, whose cartridge items have taken the sensor's level (R109, R110, R168). -/
theorem State.readyAt.conclude_lockFault {s : State} (h : s.calm) {b : BayId} {t : Tables} {at_ : Track} (hr : s.readyAt b t at_)
    (hu : s.Untasked b) {c : Cartridge} (hc : c.state = .mounted) (he : c.eject = none) :
    ((((s.modBay b fun x => { x with cart := c }).enterRetracting b).stopRequest b).bayFault b .lockLost).conclude =
      .next (s.modBay b fun x => { x.lockLost c with
        cart := { c with
          state := .bayFault, fault := .lockLost, settleTimer := none, lockConfirm := none, releaseConfirm := none
          startupWait := false }
        power := { x.power with mode := .unmounted, unloadTimer := none, standbyTimer := none, readiness := .unavailable }
        attn := { x.attn with bayFault := { raised := true, payload := 0x21 }, readiness := { raised := true, payload := 3 } }
        ledLit := true }) := by
  obtain ⟨-, -, -, -, -, -, -, -, hmode, hentry, hwake, -, -, -, -, hparked, -, hseek, -⟩ := id hr
  have hready : (s.bay b).power.readiness = .ready := (h.2.1.class b).trans (by rw [hmode]; rfl)
  have hlost : (s.modBay b fun x => x.lockLost c).Untasked b :=
    hu.modBay _ fun x hx => ⟨rfl, rfl, rfl, rfl, rfl, by rw [hx, hu.eject]; exact he, rfl⟩
  have hsignals : (s.modBay b fun x => x.lockLost c).signals = [] := by simpa using h.2.1.1
  have hfaulted : (((s.modBay b fun x => { x with cart := c }).enterRetracting b).stopRequest b).bayFault b .lockLost =
      { (s.modBay b fun x => x.lockLost c).modBay b fun x => x.faulted .lockLost with
        signals := [.poke b, .poke b, .poke b] } := by
    have hentered := (hlost.signals [.poke b]).bayFault (d := .lockLost)
      (by rw [State.bay_signals, State.bay_modBay, Bay.lockLost, hc]; nofun) (fun _ => nofun)
    rw [hr.retracts_stops, State.tell, hsignals]
    refine hentered.trans ?_
    cases b <;> rfl
  rw [hfaulted]
  have hsettle : settle 400 { (s.modBay b fun x => x.lockLost c).modBay b fun x => x.faulted .lockLost with
      signals := [.poke b, .poke b, .poke b] } = s.modBay b fun x => (x.lockLost c).faulted .lockLost := by
    refine (settle_ignored _ _ (fun m hm l => ?_) 400 (by simp)).trans ?_
    · have hpoke : m = .poke b := by simpa using hm
      rw [hpoke]
      exact hlost.faulted_poke _ (by simp [Bay.lockLost, Spindle.stopping, Spindle.atRest])
        (by simp [Bay.lockLost, Positioner.retracts, Positioner.rests, hparked]) l
    · rw [State.signals_same _ (by simpa using h.2.1.1), State.modBay_modBay]
  rw [State.conclude_settle _ (by cases b <;> exact h.1) _ hsettle (by simpa using h.2.1.1), State.closeEvent_modBay h]
  · refine congrArg Host.Outcome.next (State.modBay_congr ?_)
    simp [Bay.faulted, Bay.lockLost, Positioner.retracts, hseek, hentry, hwake, PowerMode.readiness, FaultDetail.code,
      Readiness.code]
  · simp [Bay.faulted, Bay.lockLost, hready, PowerMode.readiness]

end Sys2Proof.Machine

namespace Sys2Proof
open Machine

/-- Settles O49: a level within its window is a confirmation, outside it is recorded, and in IDLE an open lock sense and a lost
cartridge are one lock fault. -/
theorem lockSenseConfirmsItsPulse : Obligations.LockSenseConfirmsItsPulse := by
  intro b s h hp c
  refine ⟨fun hc hconfirm he ha hs hw hh => ?_, fun hc => ?_, fun hc hconfirm he hl => ?_, fun hc hl => ?_,
    fun t at_ hr hclean hformat hframe hslots il hil => ?_⟩
  · exact exec_lockSenseEngaged_starts h hp hc hconfirm he ha hs hw hh
  · rw [exec_lockSenseEngaged h hp, if_neg (by rintro ⟨hlock, hsome⟩; simp_all [c]), State.conclude_modCart h]
    rfl
  · exact exec_lockSenseOpen_confirms h hp hc hconfirm he hl
  · exact exec_lockSenseOpen_unwatched h hp hc hl
  · have hu := hr.untasked hclean hformat hframe hslots
    have hmounted : c.state = .mounted := hr.mounted
    have hpos := hr.following
    simp only [List.mem_cons, List.not_mem_nil, or_false] at hil
    obtain rfl | rfl := hil
    · rw [exec_lockSenseOpen h hp, State.lockOpens_mounted (by simpa) (by simpa)]
      exact hr.conclude_lockFault h hu (c := { c with lockEngaged := false }) hmounted hu.eject
    · have hleaves : ∀ u : State, (u.bay b).cart.state = .mounted → u.cartridgeLeaves b = u.lockFault b := fun u hc => by
        simp [State.cartridgeLeaves, hc]
      rw [exec_presentLost h hp, hleaves _ (by simpa), State.lockFault_following (by simpa)]
      exact hr.conclude_lockFault h hu (c := { c with cartridgeIn := false }) hmounted hu.eject

end Sys2Proof

/-!
Heads over turning platters (O8). The flying conditions of R67 read little of a part: `Flight` is that part of the state, and
an operation that moves no heads and touches no spindle and no lock leaves it alone (the `_flight` lemmas). The others are
shown to keep `Flight.Aloft` (the `_aloft` lemmas), from which the events follow one by one.
-/

namespace Sys2Proof.Machine

/-- What the flying conditions of R67 see of a part: the arbiter and the spindle states, and for each bay whether its heads
are in a loaded state and whether they may load. -/
structure Flight where
  spin : SpinView
  loadedA : Bool
  loadedB : Bool
  mayA : Bool
  mayB : Bool

/-- The part as the flying conditions see it. -/
def State.flight (s : State) : Flight where
  spin := s.spinView
  loadedA := s.bayA.pos.state.loaded
  loadedB := s.bayB.pos.state.loaded
  mayA := s.bayA.mayLoad
  mayB := s.bayB.mayLoad

/-- The heads of a bay are in a loaded state. -/
def Flight.loaded (v : Flight) : BayId → Bool
  | .bayA => v.loadedA
  | .bayB => v.loadedB

/-- The heads of a bay may load. -/
def Flight.may (v : Flight) : BayId → Bool
  | .bayA => v.mayA
  | .bayB => v.mayB

/-- Loaded heads have the conditions under which they may load. -/
def Flight.Flies (v : Flight) : Prop := ∀ b, v.loaded b = true → v.may b = true

/-- Loaded heads have their conditions, and the arbiter agrees with the spindles. -/
structure Flight.Aloft (v : Flight) : Prop where
  flies : v.Flies
  agrees : v.spin.Agrees

theorem State.flight_loaded (s : State) (b : BayId) : s.flight.loaded b = (s.bay b).pos.state.loaded := by cases b <;> rfl
theorem State.flight_may (s : State) (b : BayId) : s.flight.may b = (s.bay b).mayLoad := by cases b <;> rfl

@[simp] theorem PosState.loaded_parked : PosState.parked.loaded = false := by decide
@[simp] theorem PosState.loaded_loading : PosState.loading.loaded = true := by decide
@[simp] theorem PosState.loaded_calibrating : PosState.calibrating.loaded = true := by decide
@[simp] theorem PosState.loaded_seeking : PosState.seeking.loaded = true := by decide
@[simp] theorem PosState.loaded_settling : PosState.settling.loaded = true := by decide
@[simp] theorem PosState.loaded_following : PosState.following.loaded = true := by decide
@[simp] theorem PosState.loaded_recalibrating : PosState.recalibrating.loaded = true := by decide
@[simp] theorem PosState.loaded_unloading : PosState.unloading.loaded = false := by decide
@[simp] theorem PosState.loaded_retracting : PosState.retracting.loaded = false := by decide
@[simp] theorem PosState.loaded_actFault : PosState.actFault.loaded = false := by decide

/-- An update of a bay that the flying conditions do not see. -/
@[simp] theorem State.modBay_flight (s : State) (b : BayId) (f : Bay → Bay)
    (hp : (f (s.bay b)).pos.state.loaded = (s.bay b).pos.state.loaded) (hs : (f (s.bay b)).spindle = (s.bay b).spindle)
    (hl : (f (s.bay b)).cart.lockEngaged = (s.bay b).cart.lockEngaged) : (s.modBay b f).flight = s.flight := by
  cases b <;> simp only [State.bay] at hp hs hl <;>
    simp [State.flight, State.spinView, State.modBay, State.setBay, State.bay, Bay.mayLoad, hp, hs, hl]

section
variable (s : State) (b : BayId)

@[simp] theorem State.modPos_flight (f : Positioner → Positioner)
    (hp : (f (s.bay b).pos).state.loaded = (s.bay b).pos.state.loaded) : (s.modPos b f).flight = s.flight :=
  s.modBay_flight b _ hp rfl rfl
@[simp] theorem State.modCart_flight (f : Cartridge → Cartridge)
    (hl : (f (s.bay b).cart).lockEngaged = (s.bay b).cart.lockEngaged) : (s.modCart b f).flight = s.flight :=
  s.modBay_flight b _ rfl rfl hl

/-! ### Shared operations -/

@[simp] theorem State.modTu_flight (f : Translation → Translation) : (s.modTu b f).flight = s.flight :=
  by simp [State.modTu]
@[simp] theorem State.modPower_flight (f : Power → Power) : (s.modPower b f).flight = s.flight := by simp [State.modPower]
@[simp] theorem State.modCmd_flight (f : Cmd → Cmd) : (s.modCmd b f).flight = s.flight := by simp [State.modCmd]
@[simp] theorem State.modJob_flight (f : Job → Job) : (s.modJob b f).flight = s.flight := by simp [State.modJob]
@[simp] theorem State.setJob_flight (j : Option Job) : (s.setJob b j).flight = s.flight := by simp [State.setJob]
@[simp] theorem State.modChan_flight (f : Channel → Channel) : (s.modChan f).flight = s.flight := rfl
@[simp] theorem State.modLink_flight (f : Link → Link) : (s.modLink f).flight = s.flight := rfl
@[simp] theorem State.tell_flight (m : Signal) : (s.tell m).flight = s.flight := rfl
@[simp] theorem State.raise_flight (k : AttnKind) (payload : Byte) : (s.raise b k payload).flight = s.flight :=
  by simp [State.raise]
@[simp] theorem State.writeSense_flight (command : Byte) (count : Nat) (r : CmdResult) :
    (s.writeSense b command count r).flight = s.flight :=
  by simp [State.writeSense]
@[simp] theorem State.countRecovered_flight : (s.countRecovered b).flight = s.flight := by simp [State.countRecovered]
@[simp] theorem State.modSlot_flight (k : Nat) (f : SlotRec → SlotRec) : (s.modSlot k f).flight = s.flight := rfl
@[simp] theorem State.allocate_flight (purpose : Purpose) (lba : Option Nat) :
    (s.allocate b purpose lba).flight = s.flight :=
  rfl
@[simp] theorem State.freeSlot_flight (k : Nat) : (s.freeSlot k).flight = s.flight := by
  fun_cases State.freeSlot s k <;> simp
@[simp] theorem State.freeWhere_flight (p : SlotRec → Bool) : (s.freeWhere b p).flight = s.flight := rfl
@[simp] theorem State.joinPending_flight : (s.joinPending).flight = s.flight := rfl
@[simp] theorem State.offer_flight (d : Desc) : (s.offer d).flight = s.flight := rfl
@[simp] theorem State.enqueue_flight (d : Desc) : (s.enqueue d).flight = s.flight := rfl
@[simp] theorem State.dropDescs_flight (p : Desc → Bool) : (s.dropDescs p).flight = s.flight := rfl
@[simp] theorem State.restartIdleTimers_flight : (s.restartIdleTimers b).flight = s.flight :=
  by simp [State.restartIdleTimers]

/-- Changes made one after another. -/
theorem State.foldl_flight {α : Type} (f : State → α → State) (h : ∀ s x, (f s x).flight = s.flight) (l : List α) :
    ∀ s : State, (l.foldl f s).flight = s.flight := by
  induction l with
  | nil => exact fun _ => rfl
  | cons x rest ih => exact fun s => (ih _).trans (h s x)

/-! ### Frames that begin -/

@[simp] theorem State.beginFrame_flight : (s.beginFrame).flight = s.flight := by
  simp only [State.beginFrame]
  (repeat' split) <;> simp
@[simp] theorem State.kick_flight : (s.kick).flight = s.flight := by
  fun_cases State.kick s <;> simp

/-! ### The Data Channel -/

@[simp] theorem State.grantChannel_flight : (s.grantChannel b).flight = s.flight := by
  fun_cases State.grantChannel s b <;> simp
@[simp] theorem State.requestChannel_flight : (s.requestChannel b).flight = s.flight := by
  fun_cases State.requestChannel s b <;> simp
@[simp] theorem State.releaseChannel_flight : (s.releaseChannel b).flight = s.flight := by
  fun_cases State.releaseChannel s b <;> simp
@[simp] theorem State.withdrawChannel_flight : (s.withdrawChannel b).flight = s.flight := by
  fun_cases State.withdrawChannel s b <;> simp
@[simp] theorem State.modVisit_flight (f : Visit → Visit) : (s.modVisit f).flight = s.flight := rfl
@[simp] theorem State.endSector_flight (m : Signal) : (s.endSector b m).flight = s.flight := rfl
@[simp] theorem State.afterFailedTry_flight : (s.afterFailedTry b).flight = s.flight := by
  fun_cases State.afterFailedTry s b <;> simp +zetaDelta
@[simp] theorem State.countTry_flight : (s.countTry b).flight = s.flight := by simp [State.countTry]
@[simp] theorem State.slotBackToFull_flight : (s.slotBackToFull b).flight = s.flight := by
  fun_cases State.slotBackToFull s b <;> simp
@[simp] theorem State.tearField_flight : (s.tearField b).flight = s.flight := by
  fun_cases State.tearField s b <;> simp
@[simp] theorem State.leaveTrack_flight : (s.leaveTrack b).flight = s.flight := by
  simp [State.leaveTrack, apply_ite State.flight]
@[simp] theorem State.endProtected_flight : (s.endProtected b).flight = s.flight := by simp [State.endProtected]
@[simp] theorem State.openGate_flight (j : Job) : (s.openGate b j).flight = s.flight := by
  simp only [State.openGate]
  (repeat' split) <;> simp
@[simp] theorem State.openTrack_flight (j : Job) : (s.openTrack b j).flight = s.flight := by
  fun_cases State.openTrack s b j <;> simp
@[simp] theorem State.channelSample_flight (indexFlag : Bool) : (s.channelSample b indexFlag).flight = s.flight := by
  fun_cases State.channelSample s b indexFlag <;> simp +zetaDelta

/-! ### The end of a command -/

@[simp] theorem State.takeSlot_flight (c : Cmd) : (s.takeSlot b c).flight = s.flight := by simp [State.takeSlot]
@[simp] theorem State.refuse_flight (code : Byte) (r : CmdResult) : (s.refuse b code r).flight = s.flight := by
  simp [State.refuse, apply_ite State.flight]
@[simp] theorem State.answer_flight (target : BayField) (c : Completion) (d : Detail) (code : Byte) :
    (s.answer target c d code).flight = s.flight :=
  rfl
@[simp] theorem State.dropJob_flight : (s.dropJob b).flight = s.flight := by
  fun_cases State.dropJob s b <;> simp +zetaDelta
@[simp] theorem State.dropCommandJob_flight : (s.dropCommandJob b).flight = s.flight := by
  fun_cases State.dropCommandJob s b <;> simp
@[simp] theorem State.freeCommandSlots_flight (c : Cmd) (r : CmdResult) : (s.freeCommandSlots b c r).flight = s.flight := by
  simp only [State.freeCommandSlots]
  (repeat' split) <;> simp
@[simp] theorem State.dropReports_flight (target : BayField) : (s.dropReports target).flight = s.flight := rfl
@[simp] theorem State.releaseStaging_flight (target : BayField) : (s.releaseStaging target).flight = s.flight := by
  unfold State.releaseStaging
  split <;> rfl
@[simp] theorem State.postStatus_flight (r : CmdResult) : (s.postStatus b r).flight = s.flight := by
  fun_cases State.postStatus s b r <;> simp +zetaDelta [apply_ite State.flight]
@[simp] theorem State.finishCmd_flight (r : CmdResult) : (s.finishCmd b r).flight = s.flight := by
  fun_cases State.finishCmd s b r <;> simp +zetaDelta [apply_ite State.flight]
@[simp] theorem State.failCmd_flight (r : CmdResult) : (s.failCmd b r).flight = s.flight := by
  fun_cases State.failCmd s b r <;> simp
@[simp] theorem State.finishDevice_flight (c : Completion) (d : Detail) : (s.finishDevice c d).flight = s.flight := by
  have hfreed : ({ s with deviceSlot := none } : State).flight = s.flight := rfl
  fun_cases State.finishDevice s c d <;> simp +zetaDelta [hfreed]
@[simp] theorem State.finishTarget_flight (target : BayField) (c : Completion) (d : Detail) :
    (s.finishTarget target c d).flight = s.flight := by
  fun_cases State.finishTarget s target c d <;> simp

/-! ### The Positioner -/

@[simp] theorem State.jobLosesHeads_flight : (s.jobLosesHeads b).flight = s.flight := by
  fun_cases State.jobLosesHeads s b <;> simp
@[simp] theorem State.answerUnloaded_flight : (s.answerUnloaded b).flight = s.flight := by
  simp [State.answerUnloaded, apply_ite State.flight]
@[simp] theorem State.holdSeek_flight (t : Track) (owned : Bool) : (s.holdSeek b t owned).flight = s.flight := by
  fun_cases State.holdSeek s b t owned <;> simp +zetaDelta
@[simp] theorem State.recordSample_flight (x : Sample) : (s.recordSample b x).flight = s.flight :=
  by simp [State.recordSample]

variable {s} in
/-- What the flying conditions see of a bay's heads. -/
theorem State.loaded_congr {t : State} (h : t.flight = s.flight) :
    (t.bay b).pos.state.loaded = (s.bay b).pos.state.loaded := by
  rw [← State.flight_loaded, h, State.flight_loaded]

end

/-! ### Moves from one loaded state to another (R72 to R81) -/

@[simp] theorem Positioner.corrected_state (p : Positioner) (x : Sample) : (p.corrected x).state = p.state := by
  unfold Positioner.corrected
  split <;> rfl
@[simp] theorem Positioner.settlingRuns_state (p : Positioner) (cyl : Nat) (x : Sample) :
    (p.settlingRuns cyl x).state = p.state := by
  simp only [Positioner.settlingRuns]

section
variable {s : State} (b : BayId) (hl : (s.bay b).pos.state.loaded = true)
include hl

@[simp] theorem State.startSeek_flight (t : Track) : (s.startSeek b t).flight = s.flight := by
  simp [State.startSeek, State.loaded_congr b (s.leaveTrack_flight b), hl]
@[simp] theorem State.startHeadChange_flight (t : Track) : (s.startHeadChange b t).flight = s.flight := by
  simp [State.startHeadChange, State.loaded_congr b (s.leaveTrack_flight b), hl]
@[simp] theorem State.seekFromFollowing_flight (t : Track) (owned : Bool) :
    (s.seekFromFollowing b t owned).flight = s.flight := by
  fun_cases State.seekFromFollowing s b t owned <;> simp +zetaDelta [hl]
@[simp] theorem State.takeHeldSeek_flight : (s.takeHeldSeek b).flight = s.flight := by
  fun_cases State.takeHeldSeek s b <;> simp +zetaDelta [hl]
@[simp] theorem State.enterRecalibrating_flight (givingUp : Bool) : (s.enterRecalibrating b givingUp).flight = s.flight := by
  simp [State.enterRecalibrating, State.loaded_congr b (s.leaveTrack_flight b), hl]
@[simp] theorem State.seekFailure_flight (cause : SeekCause) : (s.seekFailure b cause).flight = s.flight := by
  simp [State.seekFailure, hl]
@[simp] theorem State.enterFollowing_flight (t : Track) (x : Sample) (failed : Bool) :
    (s.enterFollowing b t x failed).flight = s.flight := by
  simp only [State.enterFollowing]
  (repeat' split) <;> simp [hl]
@[simp] theorem State.recalibrated_flight (x : Sample) : (s.recalibrated b x).flight = s.flight := by
  fun_cases State.recalibrated s b x <;> simp +zetaDelta [hl]
@[simp] theorem State.offCylinder_flight : (s.offCylinder b).flight = s.flight := by simp [State.offCylinder, hl]
@[simp] theorem State.lostServo_flight : (s.lostServo b).flight = s.flight := by simp [State.lostServo, hl]
@[simp] theorem State.enterCalibrating_flight : (s.enterCalibrating b).flight = s.flight := by
  simp [State.enterCalibrating, hl]
@[simp] theorem State.closingSeek_flight : (s.closingSeek b).flight = s.flight := by
  fun_cases State.closingSeek s b <;> simp [hl]
@[simp] theorem State.loadingSample_flight (x : Sample) : (s.loadingSample b x).flight = s.flight := by
  fun_cases State.loadingSample s b x <;> simp [hl]
@[simp] theorem State.seekingSample_flight (x : Sample) : (s.seekingSample b x).flight = s.flight := by
  fun_cases State.seekingSample s b x <;> simp [hl]
@[simp] theorem State.settlingSample_flight (x : Sample) : (s.settlingSample b x).flight = s.flight := by
  fun_cases State.settlingSample s b x <;> simp +zetaDelta [hl]
@[simp] theorem State.followingSample_flight (x : Sample) : (s.followingSample b x).flight = s.flight := by
  fun_cases State.followingSample s b x <;> simp +zetaDelta [hl]

end

section
variable (s : State) (b : BayId)

@[simp] theorem State.seekOrder_flight (t : Track) (owned : Bool) : (s.seekOrder b t owned).flight = s.flight := by
  fun_cases State.seekOrder s b t owned
  case case1 hs => exact State.seekFromFollowing_flight b (by rw [hs]; rfl) t owned
  all_goals simp

/-! ### Blocks and reassigns -/

@[simp] theorem State.atTrackNow_flight (j : Job) : (s.atTrackNow b j).flight = s.flight := by
  fun_cases State.atTrackNow s b j <;> simp +zetaDelta
@[simp] theorem State.approach_flight (j : Job) : (s.approach b j).flight = s.flight := by
  fun_cases State.approach s b j <;> simp
@[simp] theorem State.takeBlock_flight : (s.takeBlock b).flight = s.flight := by
  fun_cases State.takeBlock s b <;> simp
@[simp] theorem State.nextBlock_flight : (s.nextBlock b).flight = s.flight := by
  fun_cases State.nextBlock s b <;> simp
@[simp] theorem State.blockGood_flight (c : Cmd) (j : Job) (recovered : Bool) :
    (s.blockGood b c j recovered).flight = s.flight := by
  simp only [State.blockGood]
  (repeat' split) <;> simp
@[simp] theorem State.blockFailed_flight (j : Job) (r : SectorResult) : (s.blockFailed b j r).flight = s.flight :=
  by simp [State.blockFailed]
@[simp] theorem State.setReassign_flight (r : Option Reassign) : (s.setReassign b r).flight = s.flight :=
  by simp [State.setReassign]
@[simp] theorem State.reassignFails_flight (r : Reassign) (code : Completion) :
    (s.reassignFails b r code).flight = s.flight := by
  fun_cases State.reassignFails s b r code <;> simp
@[simp] theorem State.reassignEnds_flight (r : Reassign) (j : Job) (result : SectorResult) :
    (s.reassignEnds b r j result).flight = s.flight :=
  by simp [State.reassignEnds]
@[simp] theorem State.reassignStopped_flight (r : Reassign) (cause : StopCause) :
    (s.reassignStopped b r cause).flight = s.flight := by
  fun_cases State.reassignStopped s b r cause <;> simp
@[simp] theorem State.attemptSpare_flight (r : Reassign) : (s.attemptSpare b r).flight = s.flight := by
  fun_cases State.attemptSpare s b r <;> simp
@[simp] theorem State.readAbandoned_flight (r : Reassign) : (s.readAbandoned b r).flight = s.flight := by
  fun_cases State.readAbandoned s b r <;> simp
@[simp] theorem State.startReassign_flight (c : Cmd) : (s.startReassign b c).flight = s.flight := by
  fun_cases State.startReassign s b c <;> simp
@[simp] theorem State.startAuto_flight (j : Job) : (s.startAuto b j).flight = s.flight := by
  fun_cases State.startAuto s b j <;> simp
@[simp] theorem State.oldDataInHand_flight (r : Reassign) (zeros : Bool) :
    (s.oldDataInHand b r zeros).flight = s.flight := by
  have hfilled : ∀ f, (((s.modSlot r.slot f).setJob b none).setReassign b (some { r with zeros })).flight = s.flight := by
    simp
  fun_cases State.oldDataInHand s b r zeros
  · exact (State.reassignStopped_flight ..).trans (hfilled _)
  · exact (State.attemptSpare_flight ..).trans (hfilled _)
@[simp] theorem State.changeTables_flight (t : Tables) : (s.changeTables b t).flight = s.flight :=
  by simp [State.changeTables]
@[simp] theorem State.sparePlaced_flight (r : Reassign) (t : Tables) : (s.sparePlaced b r t).flight = s.flight := by
  fun_cases State.sparePlaced s b r t <;> simp +zetaDelta
@[simp] theorem State.spareFailed_flight (r : Reassign) (t : Tables) : (s.spareFailed b r t).flight = s.flight := by
  fun_cases State.spareFailed s b r t <;> simp +zetaDelta
@[simp] theorem State.spareResult_flight (r : Reassign) (j : Job) (result : SectorResult) :
    (s.spareResult b r j result).flight = s.flight := by
  fun_cases State.spareResult s b r j result <;> simp
@[simp] theorem State.oldReadResult_flight (r : Reassign) (j : Job) (result : SectorResult) :
    (s.oldReadResult b r j result).flight = s.flight := by
  fun_cases State.oldReadResult s b r j result <;> simp
@[simp] theorem State.blockResult_flight (j : Job) (r : SectorResult) : (s.blockResult b j r).flight = s.flight := by
  fun_cases State.blockResult s b j r <;> simp

/-! ### The Cartridge Handler and Bay Power Control -/

@[simp] theorem State.setMode_flight (m : PowerMode) : (s.setMode b m).flight = s.flight := by simp [State.setMode]
@[simp] theorem State.leavePower_flight : (s.leavePower b).flight = s.flight := by simp [State.leavePower]
@[simp] theorem State.endEntry_flight : (s.endEntry b).flight = s.flight := by simp [State.endEntry]
@[simp] theorem State.ejectPhase_flight (phase : EjectPhase) : (s.ejectPhase b phase).flight = s.flight :=
  by simp [State.ejectPhase]
@[simp] theorem State.enterUnmounting_flight : (s.enterUnmounting b).flight = s.flight := by
  simp [State.enterUnmounting, apply_ite State.flight]
@[simp] theorem State.ejectDone_flight : (s.ejectDone b).flight = s.flight := by
  fun_cases State.ejectDone s b <;> simp +zetaDelta
@[simp] theorem State.releaseConfirmed_flight : (s.releaseConfirmed b).flight = s.flight :=
  by simp [State.releaseConfirmed]
@[simp] theorem State.driveRelease_flight : (s.driveRelease b).flight = s.flight := by simp [State.driveRelease]
@[simp] theorem State.issueRelease_flight (attempts : Nat) : (s.issueRelease b attempts).flight = s.flight := by
  fun_cases State.issueRelease s b attempts <;> simp +zetaDelta
@[simp] theorem State.freeRecordSlots_flight : (s.freeRecordSlots b).flight = s.flight := rfl
@[simp] theorem State.mountWaits_flight : (s.mountWaits b).flight = s.flight := by
  fun_cases State.mountWaits s b <;> simp +zetaDelta
@[simp] theorem State.mounted_flight (t : Tables) : (s.mounted b t).flight = s.flight := by simp [State.mounted]
@[simp] theorem State.unformatted_flight (d : MountDetail) : (s.unformatted b d).flight = s.flight :=
  by simp [State.unformatted]
@[simp] theorem State.endMountRead_flight (j : Job) (failed : Option MountDetail) :
    (s.endMountRead b j failed).flight = s.flight := by
  fun_cases State.endMountRead s b j failed <;> simp +zetaDelta
@[simp] theorem State.mountSector_flight (j : Job) (r : SectorResult) : (s.mountSector b j r).flight = s.flight := by
  fun_cases State.mountSector s b j r <;> simp
@[simp] theorem State.standbyStopped_flight : (s.standbyStopped b).flight = s.flight := by simp [State.standbyStopped]
@[simp] theorem State.startsWorking_flight : (s.startsWorking b).flight = s.flight := by simp [State.startsWorking]
@[simp] theorem State.dropFlush_flight : (s.dropFlush b).flight = s.flight := by simp [State.dropFlush]
@[simp] theorem State.backToMounted_flight : (s.backToMounted b).flight = s.flight := by simp [State.backToMounted]
@[simp] theorem State.discard_flight (cause : Byte) : (s.discard b cause).flight = s.flight := by
  fun_cases State.discard s b cause <;> simp
@[simp] theorem State.ejectDiscarded_flight : (s.ejectDiscarded b).flight = s.flight := by simp [State.ejectDiscarded]
@[simp] theorem State.flushHalted_flight (f : Flush) : (s.flushHalted b f).flight = s.flight := by
  fun_cases State.flushHalted s b f <;> simp +zetaDelta
@[simp] theorem State.buildFlush_flight (f : Flush) (t : Tables) (slots : List Nat) :
    (s.buildFlush b f t slots).flight = s.flight := by
  simp only [State.buildFlush]
  rw [State.foldl_flight _ fun s k => s.modSlot_flight _ _, State.modBay_flight _ _ _ rfl rfl rfl]
@[simp] theorem State.faultCommand_flight (d : FaultDetail) (releasing : Bool) :
    (s.faultCommand b d releasing).flight = s.flight := by
  fun_cases State.faultCommand s b d releasing <;> simp
@[simp] theorem State.offerStartup_flight : (s.offerStartup b).flight = s.flight := by
  fun_cases State.offerStartup s b <;> simp
@[simp] theorem State.removal_flight : (s.removal b).flight = s.flight := by
  have hparks : ∀ x : Positioner,
      (if x.state = .actFault ∧ x.parked = true then { x with state := .parked } else x).state.loaded =
      x.state.loaded := by
    intro x
    split <;> simp_all
  fun_cases State.removal s b <;> simp +zetaDelta [hparks]
@[simp] theorem State.stepRelease_flight : (s.stepRelease b).flight = s.flight := by
  fun_cases State.stepRelease s b <;> simp
@[simp] theorem State.stepFault_flight : (s.stepFault b).flight = s.flight := by
  fun_cases State.stepFault s b <;> simp

/-! ### FORMAT -/

@[simp] theorem State.setFormat_flight (f : Format) : (s.setFormat b f).flight = s.flight := by simp [State.setFormat]
@[simp] theorem State.formatFails_flight (f : Format) (r : CmdResult) : (s.formatFails b f r).flight = s.flight :=
  by simp [State.formatFails]
@[simp] theorem State.formatStopped_flight (f : Format) : (s.formatStopped b f).flight = s.flight :=
  by simp [State.formatStopped]
@[simp] theorem State.formatDone_flight (t : Tables) : (s.formatDone b t).flight = s.flight := by simp [State.formatDone]
@[simp] theorem State.formatTrack_flight (f : Format) : (s.formatTrack b f).flight = s.flight :=
  by simp [State.formatTrack]
@[simp] theorem State.formatBegin_flight (f : Format) : (s.formatBegin b f).flight = s.flight :=
  by simp [State.formatBegin]
@[simp] theorem State.formatRecord_flight (f : Format) (d : Disposing) : (s.formatRecord b f d).flight = s.flight :=
  by simp [State.formatRecord]
@[simp] theorem State.formatDispose_flight (f : Format) : (s.formatDispose b f).flight = s.flight := by
  fun_cases State.formatDispose s b f <;> simp
@[simp] theorem State.formatCertify_flight (f : Format) (slots : List Nat) :
    (s.formatCertify b f slots).flight = s.flight := by
  rw [State.formatCertify, State.approach_flight, State.setFormat_flight,
    State.foldl_flight _ fun s k => s.modSlot_flight _ _]
@[simp] theorem State.trackWritten_flight (f : Format) : (s.trackWritten b f).flight = s.flight := by
  fun_cases State.trackWritten s b f <;> simp +zetaDelta
@[simp] theorem State.certified_flight (f : Format) : (s.certified b f).flight = s.flight := by simp [State.certified]
@[simp] theorem State.nextCertRead_flight (f : Format) (j : Job) : (s.nextCertRead b f j).flight = s.flight := by
  fun_cases State.nextCertRead s b f j <;> simp
@[simp] theorem State.certResult_flight (f : Format) (j : Job) (outcome : Option EccClass) :
    (s.certResult b f j outcome).flight = s.flight := by
  fun_cases State.certResult s b f j outcome <;> simp
@[simp] theorem State.buildFormat_flight (t : Tables) (slots : List Nat) : (s.buildFormat t slots).flight = s.flight := by
  rw [State.buildFormat, State.foldl_flight _ fun s k => s.modSlot_flight _ _]
@[simp] theorem State.formatRecordSector_flight (f : Format) (j : Job) (r : SectorResult) :
    (s.formatRecordSector b f j r).flight = s.flight := by
  fun_cases State.formatRecordSector s b f j r <;> simp
@[simp] theorem State.formatSector_flight (f : Format) (j : Job) (r : SectorResult) :
    (s.formatSector b f j r).flight = s.flight := by
  fun_cases State.formatSector s b f j r <;> simp

/-! ### Stopped commands -/

@[simp] theorem State.endStopped_flight (c : Cmd) (cause : StopCause) : (s.endStopped b c cause).flight = s.flight := by
  fun_cases State.endStopped s b c cause <;> simp
@[simp] theorem State.tryStop_flight : (s.tryStop b).flight = s.flight := by
  fun_cases State.tryStop s b <;> simp
@[simp] theorem State.requestStop_flight (cause : StopCause) : (s.requestStop b cause).flight = s.flight :=
  by simp [State.requestStop]
@[simp] theorem State.haltFlush_flight : (s.haltFlush b).flight = s.flight := by
  fun_cases State.haltFlush s b <;> simp
@[simp] theorem State.stopEjectFlush_flight : (s.stopEjectFlush b).flight = s.flight := by
  fun_cases State.stopEjectFlush s b <;> simp
@[simp] theorem State.detachEject_flight : (s.detachEject b).flight = s.flight := by simp [State.detachEject]
@[simp] theorem State.endSilently_flight : (s.endSilently b).flight = s.flight := by
  fun_cases State.endSilently s b <;> simp +zetaDelta

/-! ### The Link Interface -/

@[simp] theorem State.modTarget_flight (target : BayField) (f : Cmd → Cmd) :
    (s.modTarget target f).flight = s.flight := by
  cases target with
  | bay b => exact s.modCmd_flight b f
  | device => rfl
@[simp] theorem State.offerReports_flight (target : BayField) (c : Cmd) : (s.offerReports target c).flight = s.flight := by
  simp only [State.offerReports]
  rw [State.foldl_flight _ fun s x => s.offer_flight _, State.modTarget_flight]
@[simp] theorem State.takeSectorFrame_flight (c : Cmd) (declared : Nat) (payload : List LinkByte) (ended : Detail) :
    (s.takeSectorFrame b c declared payload ended).flight = s.flight := by
  fun_cases State.takeSectorFrame s b c declared payload ended <;> simp +zetaDelta [apply_ite State.flight]
@[simp] theorem State.imageComplete_flight (x : Staging) : (s.imageComplete x).flight = s.flight := by
  have hdmt : ∀ d, ({ s with dmt := d } : State).flight = s.flight := fun _ => rfl
  have hprofile : ∀ p, ({ s with profile := p } : State).flight = s.flight := fun _ => rfl
  fun_cases State.imageComplete s x <;> simp [hdmt, hprofile]
@[simp] theorem State.takeImageFrame_flight (x : Staging) (declared : Nat) (payload : List LinkByte) (ended : Detail) :
    (s.takeImageFrame x declared payload ended).flight = s.flight := by
  have hstaged : ∀ x, ({ s with staging := x } : State).flight = s.flight := fun _ => rfl
  fun_cases State.takeImageFrame s x declared payload ended <;> simp +zetaDelta [hstaged]
@[simp] theorem State.takeLastFrame_flight (x : Staging) (declared : Nat) (payload : List LinkByte) (ended : Detail) :
    (s.takeLastFrame x declared payload ended).flight = s.flight := by
  fun_cases State.takeLastFrame s x declared payload ended <;> simp
@[simp] theorem State.holdFrame_flight (declared : Nat) (payload : List LinkByte) :
    (s.holdFrame b declared payload).flight = s.flight :=
  rfl
@[simp] theorem State.takeDataOut_flight (target : BayField) (declared : Nat) (payload : List LinkByte) (late : Bool)
    (ended : Detail) : (s.takeDataOut target declared payload late ended).flight = s.flight := by
  fun_cases State.takeDataOut s target declared payload late ended <;> simp
@[simp] theorem State.dropHeld_flight : (s.dropHeld).flight = s.flight := rfl
@[simp] theorem State.cutHeld_flight : (s.cutHeld).flight = s.flight := by
  fun_cases State.cutHeld s <;> simp
@[simp] theorem State.dropFrameSlot_flight : (s.dropFrameSlot).flight = s.flight := by
  fun_cases State.dropFrameSlot s <;> simp
@[simp] theorem State.frameSpent_flight : (s.frameSpent).flight = s.flight := rfl
@[simp] theorem State.stoppedLoadEnds_flight : (s.stoppedLoadEnds b).flight = s.flight := by
  fun_cases State.stoppedLoadEnds s b <;> simp
@[simp] theorem State.inboundEnds_flight (early : Bool) : (s.inboundEnds early).flight = s.flight := by
  fun_cases State.inboundEnds s early <;> simp
@[simp] theorem State.beginInbound_flight (x : LinkByte) : (s.beginInbound x).flight = s.flight := rfl
@[simp] theorem State.takeByte_flight (f : InFrame) (x : LinkByte) (slot : Option Nat) :
    (s.takeByte f x slot).flight = s.flight :=
  rfl
@[simp] theorem State.strobed_flight (f : InFrame) (x : LinkByte) : (s.strobed f x).flight = s.flight := by
  fun_cases State.strobed s f x <;> simp
@[simp] theorem State.stepByte_flight : (s.stepByte).flight = s.flight := by
  fun_cases State.stepByte s <;> simp
@[simp] theorem State.stepHeld_flight : (s.stepHeld b).flight = s.flight := by
  fun_cases State.stepHeld s b <;> simp
@[simp] theorem State.heard_flight (lfrm : Bool) (strobe : Option LinkByte) : (s.heard lfrm strobe).flight = s.flight := by
  fun_cases State.heard s lfrm strobe <;> simp
@[simp] theorem State.receive_flight (lfrm : Bool) (strobe : Option LinkByte) :
    (s.receive lfrm strobe).flight = s.flight := by
  fun_cases State.receive s lfrm strobe <;> simp
@[simp] theorem State.clearOut_flight : (s.clearOut).flight = s.flight := rfl
@[simp] theorem State.readDrained_flight : (s.readDrained b).flight = s.flight := by
  fun_cases State.readDrained s b <;> simp
@[simp] theorem State.reportSent_flight (target : BayField) : (s.reportSent target).flight = s.flight := by
  fun_cases State.reportSent s target <;> simp +zetaDelta
@[simp] theorem State.frameSent_flight (f : OutFrame) : (s.frameSent f).flight = s.flight := by
  fun_cases State.frameSent s f <;> simp +zetaDelta
@[simp] theorem State.readLinkError_flight : (s.readLinkError b).flight = s.flight := by
  fun_cases State.readLinkError s b <;> simp +zetaDelta
@[simp] theorem State.abandonFrame_flight (f : OutFrame) : (s.abandonFrame f).flight = s.flight := by
  fun_cases State.abandonFrame s f <;> simp +zetaDelta

/-! ### Acceptance and delivery -/

@[simp] theorem State.clearUnitChanged_flight (r : CmdResult) : (s.clearUnitChanged b r).flight = s.flight := by
  fun_cases State.clearUnitChanged s b r <;> simp
@[simp] theorem State.openFormat_flight (op : CmdOp) : (s.openFormat b op).flight = s.flight := by
  fun_cases State.openFormat s b op <;> simp
@[simp] theorem State.buildImage_flight (before : Nat) : (s.buildImage b before).flight = s.flight := by
  fun_cases State.buildImage s b before <;> simp
@[simp] theorem State.stepChannel_flight : (s.stepChannel b).flight = s.flight := by
  fun_cases State.stepChannel s b <;> simp
@[simp] theorem State.onSpeedLost_flight : (s.onSpeedLost b).flight = s.flight := by
  fun_cases State.onSpeedLost s b <;> simp
@[simp] theorem State.waitForReady_flight (j : Job) : (s.waitForReady b j).flight = s.flight := by
  fun_cases State.waitForReady s b j <;> simp
@[simp] theorem State.onLoadFailed_flight : (s.onLoadFailed b).flight = s.flight := by
  fun_cases State.onLoadFailed s b <;> simp
@[simp] theorem State.onSlotFreed_flight : (s.onSlotFreed b).flight = s.flight := by
  simp only [State.onSlotFreed]
  (repeat' split) <;> simp
@[simp] theorem State.onCertified_flight (outcome : Option EccClass) : (s.onCertified b outcome).flight = s.flight := by
  fun_cases State.onCertified s b outcome <;> simp
@[simp] theorem State.refreshReadiness_flight : (s.refreshReadiness b).flight = s.flight := by
  fun_cases State.refreshReadiness s b <;> simp
@[simp] theorem State.closeEvent_flight : (s.closeEvent).flight = s.flight := by simp [State.closeEvent]

/-! ### Events -/

@[simp] theorem State.frameOver_flight : (s.frameOver).flight = s.flight := rfl

/-! ### Cartridge events -/

@[simp] theorem State.openEject_flight (source : EjectSource) (phase : EjectPhase) :
    (s.openEject b source phase).flight = s.flight :=
  by simp [State.openEject]
@[simp] theorem State.ejectAtOnce_flight (source : EjectSource) : (s.ejectAtOnce b source).flight = s.flight := by
  fun_cases State.ejectAtOnce s b source <;> simp
@[simp] theorem State.ejectMounted_flight (source : EjectSource) : (s.ejectMounted b source).flight = s.flight := by
  fun_cases State.ejectMounted s b source <;> simp
@[simp] theorem State.ejectUnformatted_flight (source : EjectSource) : (s.ejectUnformatted b source).flight = s.flight := by
  fun_cases State.ejectUnformatted s b source <;> simp
@[simp] theorem State.cartridgeArrives_flight : (s.cartridgeArrives b).flight = s.flight := by
  fun_cases State.cartridgeArrives s b <;> simp
@[simp] theorem State.becomesProtected_flight : (s.becomesProtected b).flight = s.flight := by
  fun_cases State.becomesProtected s b <;> simp +zetaDelta

/-! ### Bay commands -/

@[simp] theorem State.takePrevent_flight : (s.takePrevent b).flight = s.flight := by
  fun_cases State.takePrevent s b <;> simp
@[simp] theorem State.takeAllow_flight : (s.takeAllow b).flight = s.flight := by
  fun_cases State.takeAllow s b <;> simp
@[simp] theorem State.takeRequestSense_flight : (s.takeRequestSense b).flight = s.flight := by
  fun_cases State.takeRequestSense s b <;> simp
@[simp] theorem State.takePeek_flight : (s.takePeek b).flight = s.flight := by
  fun_cases State.takePeek s b <;> simp

/-! ### Data Channel events -/

@[simp] theorem State.idField_flight (v : Visit) (j : Job) (x : IdField) : (s.idField v j x).flight = s.flight := by
  fun_cases State.idField s v j x
  case case3 hs => exact State.offCylinder_flight v.bay (by rw [hs.2]; rfl)
  all_goals simp +zetaDelta
@[simp] theorem State.deliverSector_flight (j : Job) (ecc : EccClass) (data : List Byte) :
    (s.deliverSector b j ecc data).flight = s.flight := by
  simp only [State.deliverSector]
  (repeat' split) <;> simp
@[simp] theorem State.fillCertSlot_flight (j : Job) (ecc : EccClass) (data : List Byte) :
    (s.fillCertSlot b j ecc data).flight = s.flight := by
  fun_cases State.fillCertSlot s b j ecc data <;> simp
@[simp] theorem State.fieldClassed_flight (j : Job) (ecc : EccClass) (data : List Byte) :
    (s.fieldClassed b j ecc data).flight = s.flight := by
  fun_cases State.fieldClassed s b j ecc data <;> simp +zetaDelta
@[simp] theorem State.fieldWritten_flight (j : Job) : (s.fieldWritten b j).flight = s.flight := by
  simp only [State.fieldWritten]
  (repeat' split) <;> simp
@[simp] theorem State.trackPut_flight : (s.trackPut b).flight = s.flight := rfl

/-! ### Table commands -/

@[simp] theorem State.takeDeviceSlot_flight (c : Cmd) : (s.takeDeviceSlot c).flight = s.flight := rfl
@[simp] theorem State.reportDevice_flight (op : CmdOp) : (s.reportDevice op).flight = s.flight := by
  fun_cases State.reportDevice s op <;> simp

/-! ### Link events -/

@[simp] theorem State.linkResetBay_flight : (s.linkResetBay b).flight = s.flight := by
  fun_cases State.linkResetBay s b <;> simp +zetaDelta

end

@[simp] theorem State.fillSlots_flight (n : Nat) (s : State) (b : BayId) : (State.fillSlots n s b).flight = s.flight := by
  induction n generalizing s with
  | zero => rfl
  | succ n ih =>
    unfold State.fillSlots
    split
    · split <;> simp [ih]
    · rfl

@[simp] theorem State.abortEject_flight (s : State) (b : BayId) : (s.abortEject b).2.flight = s.flight := by
  fun_cases State.abortEject s b <;> simp

@[simp] theorem State.abortDevice_flight (s : State) : s.abortDevice.2.flight = s.flight := by
  fun_cases State.abortDevice s
  · rfl
  · simp
  · exact State.dropDescs_flight _ _
  · simp

@[simp] theorem State.abortBay_flight (s : State) (b : BayId) : (s.abortBay b).flight = s.flight := by
  fun_cases State.abortBay s b <;> simp

@[simp] theorem State.takeAbort_flight (s : State) (target : BayField) : (s.takeAbort target).flight = s.flight := by
  fun_cases State.takeAbort s target <;> simp

@[simp] theorem State.loadDeviceTable_flight (s : State) (id : TableId) (length : BitVec 16) :
    (s.loadDeviceTable id length).flight = s.flight := by
  have hstaged : ∀ x, ({ s with staging := x } : State).flight = s.flight := fun _ => rfl
  fun_cases State.loadDeviceTable s id length <;> simp [hstaged]

@[simp] theorem State.linkResetLink_flight (s : State) : s.linkResetLink.flight = s.flight := by
  rw [State.linkResetLink, State.finishDevice_flight]
  exact s.dropFrameSlot_flight

/-! ### Moves that R67 allows -/

/-- Loaded heads of the other bay have their conditions. -/
def Flight.FliesBut (v : Flight) (b : BayId) : Prop := ∀ b', b' ≠ b → v.loaded b' = true → v.may b' = true

/-- The heads of a bay leave the loaded states or come into one. -/
def Flight.setLoaded (v : Flight) (b : BayId) (x : Bool) : Flight :=
  match b with
  | .bayA => { v with loadedA := x }
  | .bayB => { v with loadedB := x }

theorem Flight.Flies.but {v : Flight} (h : v.Flies) (b : BayId) : v.FliesBut b := fun b' _ => h b'

theorem Flight.Aloft.down {s : State} (h : s.flight.Aloft) {b : BayId} (hs : (s.bay b).spindle.state ≠ .atSpeed) :
    (s.bay b).pos.state.loaded = false := by
  have := h.flies b
  rw [State.flight_loaded, State.flight_may, Bay.mayLoad, Spindle.ready] at this
  grind

/-- A bay that waits for the allowance has its heads parked, or on their way. -/
theorem Flight.Aloft.waiter_down {s : State} (h : s.flight.Aloft) {w : BayId} (hw : s.allowWaiter = some w) :
    (s.bay w).pos.state.loaded = false := by
  refine h.down ?_
  have := (h.agrees.waiter w).1 hw
  rw [show s.flight.spin = s.spinView from rfl, State.spinView_spin] at this
  rw [this]
  exact nofun

section
variable (s : State) (b : BayId)

theorem State.modPos_sets (f : Positioner → Positioner) :
    (s.modPos b f).flight = s.flight.setLoaded b (f (s.bay b).pos).state.loaded := by
  cases b <;> rfl

theorem State.enterUnloading_sets (keep : Bool) : (s.enterUnloading b keep).flight = s.flight.setLoaded b false := by
  simp only [State.enterUnloading, State.tell_flight, State.modPos_sets]
  cases keep <;> simp

theorem State.enterRetracting_sets : (s.enterRetracting b).flight = s.flight.setLoaded b false := by
  simp [State.enterRetracting, State.modPos_sets]

theorem State.enterActFault_sets (d : ActDetail) : (s.enterActFault b d).flight = s.flight.setLoaded b false := by
  simp [State.enterActFault, State.modPos_sets]

theorem State.enterLoading_sets : (s.enterLoading b).flight = s.flight.setLoaded b true := by
  simp [State.enterLoading, State.modPos_sets]

end

section
variable {v : Flight} {b : BayId}

/-- Heads that leave need no conditions. -/
theorem Flight.FliesBut.leaves (h : v.FliesBut b) : (v.setLoaded b false).Flies := by
  intro b' hb
  have := h b'
  cases b <;> cases b' <;> simp_all [Flight.setLoaded, Flight.loaded, Flight.may]

theorem Flight.FliesBut.flies (h : v.FliesBut b) (hb : v.loaded b = false) : v.Flies := by
  intro b' hb'
  by_cases he : b' = b
  · rw [he, hb] at hb'
    cases hb'
  · exact h b' he hb'

theorem Flight.Flies.of_but (h : ∀ b, v.FliesBut b) : v.Flies := by
  intro b hb
  cases b
  · exact h .bayB .bayA nofun hb
  · exact h .bayA .bayB nofun hb

theorem Flight.Aloft.leaves (h : v.Aloft) : (v.setLoaded b false).Aloft :=
  ⟨Flight.FliesBut.leaves (Flight.Flies.but h.flies b), by cases b <;> exact h.agrees⟩

theorem Flight.Aloft.loads (h : v.Aloft) (hb : v.may b = true) : (v.setLoaded b true).Aloft := by
  refine ⟨fun b' hb' => ?_, by cases b <;> exact h.agrees⟩
  have := h.flies b'
  cases b <;> cases b' <;> simp_all [Flight.setLoaded, Flight.loaded, Flight.may]

end

section
variable {s : State} {b b' : BayId}

/-- A change of a spindle outside its state and its purge. -/
@[simp] theorem State.modSpindle_flight (f : Spindle → Spindle) (hs : (f (s.bay b).spindle).state = (s.bay b).spindle.state)
    (hp : (f (s.bay b).spindle).purgeRemaining = (s.bay b).spindle.purgeRemaining) : (s.modSpindle b f).flight = s.flight := by
  have hview := s.modSpindle_spinView b f hs
  cases b <;> simp only [State.bay] at hs hp <;>
    simp_all [State.flight, State.modSpindle, State.modBay, State.setBay, State.bay, Bay.mayLoad, Spindle.ready]

/-- What a spindle does concerns the heads over it alone. -/
theorem State.modSpindle_but (h : s.flight.FliesBut b) (f : Spindle → Spindle) : (s.modSpindle b f).flight.FliesBut b := by
  intro b' hb
  have := h b' hb
  rw [State.flight_loaded, State.flight_may] at this ⊢
  rwa [State.modSpindle_spindle_ne s hb]

/-- A spindle that stays ready if it was. -/
theorem State.modSpindle_ready (h : s.flight.Flies) (f : Spindle → Spindle)
    (hf : (s.bay b).spindle.ready = true → (f (s.bay b).spindle).ready = true) : (s.modSpindle b f).flight.Flies := by
  intro c hc
  rw [State.flight_loaded, State.modSpindle_pos, ← State.flight_loaded] at hc
  have hmay := h c hc
  rw [State.flight_may] at hmay ⊢
  by_cases he : c = b
  · subst he
    simp only [Bay.mayLoad, State.modSpindle_spindle, State.modSpindle_cart, Bool.and_eq_true] at hmay ⊢
    exact ⟨hf hmay.1, hmay.2⟩
  · rwa [State.modSpindle_spindle_ne s he]

/-- A spindle under heads that are not loaded. -/
theorem State.modSpindle_down (h : s.flight.FliesBut b) (hb : (s.bay b').pos.state.loaded = false) (f : Spindle → Spindle) :
    (s.modSpindle b' f).flight.FliesBut b := by
  intro c hc
  have := h c hc
  rw [State.flight_loaded, State.flight_may] at this ⊢
  by_cases he : c = b'
  · subst he
    simp [hb]
  · rwa [State.modSpindle_spindle_ne s he]

end

/-! ### Spindles under heads (R47 to R59) -/

section
variable {s : State} (b : BayId)

/-- Heads that leave the loaded states under a spindle that leaves AT_SPEED (R48, R55). -/
theorem State.headsLeave_flies (h : s.flight.FliesBut b) : (s.headsLeave b).flight.Flies := by
  unfold State.headsLeave
  split
  next => rw [State.enterUnloading_sets]; exact h.leaves
  next hl => exact h.flies (by rw [State.flight_loaded]; simpa using hl)

/-- A retract order takes the heads out of the loaded states (R84). -/
theorem State.retractOrder_flies (h : s.flight.FliesBut b) : (s.retractOrder b).flight.Flies := by
  fun_cases State.retractOrder s b
  case case1 hs | case2 hs | case3 hs => exact h.flies (by rw [State.flight_loaded, hs]; rfl)
  all_goals
    rw [State.enterRetracting_sets]
    exact h.leaves

/-- A bay that is granted the allowance by a release has no loaded heads. -/
theorem State.releaseAllowance_but (h : s.flight.FliesBut b)
    (hw : ∀ w, s.allowWaiter = some w → (s.bay w).pos.state.loaded = false) (b' : BayId) :
    (s.releaseAllowance b').flight.FliesBut b := by
  fun_cases State.releaseAllowance s b'
  case case1 w hwait =>
    exact State.modSpindle_down (s := { s with allowHolder := some w, allowWaiter := none }) h (hw w hwait) _
  all_goals exact h

theorem State.enterStopped_flies (h : s.flight.FliesBut b) (hb : (s.bay b).pos.state.loaded = false) :
    (s.enterStopped b).flight.Flies := by
  fun_cases State.enterStopped s b <;>
    exact (State.modSpindle_but h _).flies (by rw [State.flight_loaded, State.modSpindle_pos]; exact hb)

theorem State.takeStart_flies (h : s.flight.FliesBut b) (hb : (s.bay b).pos.state.loaded = false) (k : PurgeKind) :
    (s.takeStart b k).flight.Flies := by
  have hstarts : ∀ (x : Spindle → Spindle) (holder waiter : Option BayId) (f : Spindle → Spindle),
      (State.modSpindle { s.modSpindle b x with allowHolder := holder, allowWaiter := waiter } b f).flight.Flies := by
    intro x holder waiter f
    refine (State.modSpindle_but ?_ f).flies ?_
    · exact State.modSpindle_but h x
    · rw [State.flight_loaded, State.modSpindle_pos]
      exact (congrArg (fun p : Positioner => p.state.loaded) (s.modSpindle_pos b b x)).trans hb
  unfold State.takeStart State.requestAllowance
  split <;> exact hstarts _ _ _ _

variable (h : s.flight.Aloft)
include h

theorem State.startPending_aloft : (s.startPending b).flight.Aloft := by
  refine ⟨?_, (State.startPending_keeps (SpinView.Keeps.refl _) b).agrees h.agrees⟩
  fun_cases State.startPending s b
  case case1 k _ hp =>
    simp only [Spindle.atRest, Bool.and_eq_true, beq_iff_eq] at hp
    exact State.takeStart_flies b (Flight.Flies.but h.flies b) (h.down (by rw [hp.2.1]; exact nofun)) k
  all_goals exact h.flies

/-- A start spins up a spindle that is STOPPED (R47). -/
@[simp] theorem State.startRequest_aloft (k : PurgeKind) : (s.startRequest b k).flight.Aloft := by
  refine ⟨?_, (State.startRequest_keeps (SpinView.Keeps.refl _) b k).agrees h.agrees⟩
  unfold State.startRequest
  split
  next =>
    fun_cases State.takeStartRequest s b k
    case case2 hs _ => exact State.takeStart_flies b (Flight.Flies.but h.flies b) (h.down (by rw [hs]; exact nofun)) k
    all_goals simpa using h.flies
  next => exact h.flies

/-- A stop takes heads that are loaded out of the loaded states (R48). -/
@[simp] theorem State.stopRequest_aloft : (s.stopRequest b).flight.Aloft := by
  refine ⟨?_, (State.stopRequest_keeps (SpinView.Keeps.refl _) b).agrees h.agrees⟩
  have hbrakes : (((s.enterBraking b).modSpindle b fun x => { x with stopWaiting := true }).headsLeave b).flight.Flies :=
    State.headsLeave_flies b (State.modSpindle_but (State.modSpindle_but (Flight.Flies.but h.flies b) _) _)
  unfold State.stopRequest
  split
  next =>
    fun_cases State.takeStopRequest s b
    case case3 hs =>
      refine State.enterStopped_flies b ?_ ?_
      · fun_cases State.withdrawAllowance s b <;> exact Flight.Flies.but h.flies b
      · have := h.down (b := b) (by rw [hs]; exact nofun)
        fun_cases State.withdrawAllowance s b
        · cases b <;> exact this
        · exact this
    case case4 hs =>
      have hb := h.down (b := b) (by rw [hs]; exact nofun)
      refine Flight.Flies.of_but fun c => State.releaseAllowance_but c (hbrakes.but c) ?_ b
      intro w hw
      have hstays : ((s.enterBraking b).modSpindle b fun x => { x with stopWaiting := true }).headsLeave b =
          (s.enterBraking b).modSpindle b fun x => { x with stopWaiting := true } := by
        simp [State.headsLeave, State.enterBraking, hb]
      rw [hstays] at hw ⊢
      simp only [State.enterBraking, State.modSpindle_allowWaiter, State.modSpindle_pos] at hw ⊢
      exact h.waiter_down hw
    case case5 | case6 | case7 => exact hbrakes
    all_goals simpa using h.flies
  next => exact h.flies

/-- A spindle failure retracts heads that are loaded, before any bay that is granted the allowance loads its own (R57, R58). -/
theorem State.enterSpinFailed_aloft (hs : (s.bay b).spindle.state ≠ .waitAllowance) (hp : s.bayPresent b = true)
    (d : SpinDetail) : (s.enterSpinFailed b d).flight.Aloft := by
  refine ⟨?_, (State.enterSpinFailed_keeps (SpinView.Keeps.refl _) b hs hp d).agrees h.agrees⟩
  refine State.retractOrder_flies b (State.releaseAllowance_but b (State.modSpindle_but (Flight.Flies.but h.flies b) _) ?_ b)
  intro w hw
  rw [State.modSpindle_allowWaiter] at hw
  rw [State.modSpindle_pos]
  exact h.waiter_down hw

/-- Entry to STOPPED from a state outside the arbiter that is not AT_SPEED. -/
theorem State.enterStopped_aloft (hs : (s.bay b).spindle.state.aside) (hn : (s.bay b).spindle.state ≠ .atSpeed) :
    (s.enterStopped b).flight.Aloft :=
  ⟨State.enterStopped_flies b (Flight.Flies.but h.flies b) (h.down hn),
    (State.enterStopped_keeps (SpinView.Keeps.refl _) b hs).agrees h.agrees⟩

/-! ### Index edges under heads (R51 to R56) -/

omit h in
@[simp] theorem Spindle.measured_purge (x : Spindle) (elapsed : Nat) :
    (x.measured elapsed).purgeRemaining = x.purgeRemaining := by
  simp only [Spindle.measured]
  split <;> rfl

omit h in
@[simp] theorem Spindle.edgeTimers_purge (x : Spindle) : x.edgeTimers.purgeRemaining = x.purgeRemaining := by
  fun_cases Spindle.edgeTimers x <;> rfl

omit h in
/-- A spindle that comes to speed has no loaded heads over it. -/
theorem State.enterAtSpeed_flies (hf : s.flight.FliesBut b) (hb : (s.bay b).pos.state.loaded = false) :
    (s.enterAtSpeed b).flight.Flies := by
  have hentered : ∀ f, (s.modSpindle b f).flight.Flies := fun f =>
    (State.modSpindle_but hf f).flies (by rw [State.flight_loaded, State.modSpindle_pos]; exact hb)
  simp only [State.enterAtSpeed]
  (repeat' split) <;> exact hentered _

theorem State.endRevolution_flies : (s.endRevolution b).flight.Flies := by
  have hbut := Flight.Flies.but h.flies b
  fun_cases State.endRevolution s b
  case case1 hs =>
    fun_cases State.endAccelerating s b
    next =>
      have hb := h.down (b := b) (by rw [hs]; exact nofun)
      refine Flight.Flies.of_but fun c => State.releaseAllowance_but c
        (State.modSpindle_down (Flight.Flies.but h.flies c) hb _) (fun w hw => ?_) b
      rw [State.modSpindle_allowWaiter] at hw
      rw [State.modSpindle_pos]
      exact h.waiter_down hw
    next => exact h.flies
  case case2 hs | case3 hs =>
    have hb := h.down (b := b) (by rw [hs]; exact nofun)
    fun_cases State.endTowardSpeed s b
    next => exact State.enterAtSpeed_flies b (State.modSpindle_but hbut _) (by rw [State.modSpindle_pos]; exact hb)
    next => simpa +zetaDelta using h.flies
  case case4 hs =>
    fun_cases State.endAtSpeed s b
    next => exact State.headsLeave_flies b (State.modSpindle_but (State.modSpindle_but hbut _) _)
    all_goals
      refine State.modSpindle_ready (State.modSpindle_ready h.flies _ id) _ fun hr => ?_
      simp_all [Spindle.ready]
  all_goals exact h.flies

theorem State.takeEdge_aloft (hp : s.bayPresent b = true) (elapsed : Nat) : (s.takeEdge b elapsed).flight.Aloft := by
  refine ⟨?_, (State.takeEdge_keeps (SpinView.Keeps.refl _) b hp elapsed).agrees h.agrees⟩
  have hmeasured : (s.modSpindle b fun x => (x.measured elapsed).edgeTimers).flight = s.flight := by simp
  have hended := State.endRevolution_flies b (hmeasured ▸ h)
  simp only [State.takeEdge]
  split
  next hs =>
    have hstopped : (s.modSpindle b fun x => (x.measured elapsed).edgeTimers).endRevolution b =
        s.modSpindle b fun x => (x.measured elapsed).edgeTimers := by simp [State.endRevolution, hs]
    rw [hstopped, ite_self]
    refine (State.modSpindle_but ?_ _).flies ?_
    · exact hmeasured ▸ Flight.Flies.but h.flies b
    · rw [State.flight_loaded, State.modSpindle_pos, State.modSpindle_pos]
      exact h.down (by rw [hs]; exact nofun)
  next => split <;> [exact hended; exact hmeasured ▸ h.flies]

end

/-! ### Orders to the heads (R70 to R86) -/

section
variable {s : State} (h : s.flight.Aloft) (b : BayId)
include h

@[simp] theorem State.enterUnloading_aloft (keep : Bool) : (s.enterUnloading b keep).flight.Aloft := by
  rw [State.enterUnloading_sets]; exact h.leaves
@[simp] theorem State.enterRetracting_aloft : (s.enterRetracting b).flight.Aloft := by
  rw [State.enterRetracting_sets]; exact h.leaves
@[simp] theorem State.enterActFault_aloft (d : ActDetail) : (s.enterActFault b d).flight.Aloft := by
  rw [State.enterActFault_sets]; exact h.leaves
theorem State.enterLoading_aloft (hm : (s.bay b).mayLoad = true) : (s.enterLoading b).flight.Aloft := by
  rw [State.enterLoading_sets]; exact h.loads (by rwa [State.flight_may])
@[simp] theorem State.unloadOrder_aloft : (s.unloadOrder b).flight.Aloft := by
  fun_cases State.unloadOrder s b <;> simp +zetaDelta [h, apply_ite State.flight]
@[simp] theorem State.retractOrder_aloft : (s.retractOrder b).flight.Aloft := by
  fun_cases State.retractOrder s b <;> simp [h]
/-- A load order moves the heads only where they may load (R67, R70). -/
@[simp] theorem State.loadFromParked_aloft (fresh : Bool) (seek : Option Track) :
    (s.loadFromParked b fresh seek).flight.Aloft := by
  fun_cases State.loadFromParked s b fresh seek
  case case1 hm =>
    simp only [Bool.and_eq_true] at hm
    refine State.enterLoading_aloft (by simpa using h) b ?_
    simpa [Bay.mayLoad] using hm.1
  case case2 => simpa using h
@[simp] theorem State.loadOrder_aloft (fresh : Bool) (seek : Option Track) :
    (s.loadOrder b fresh seek).flight.Aloft := by
  fun_cases State.loadOrder s b fresh seek <;> simp +zetaDelta [h]
@[simp] theorem State.takeHeldLoad_aloft : (s.takeHeldLoad b).flight.Aloft := by
  fun_cases State.takeHeldLoad s b <;> simp [h]
@[simp] theorem State.enterPendingFault_aloft : (s.enterPendingFault b).flight.Aloft := by
  fun_cases State.enterPendingFault s b <;> simp [h]
/-- At PARKED the Positioner loads by its own means only where the heads may load (R71, R73, R79). -/
@[simp] theorem State.onParked_aloft : (s.onParked b).flight.Aloft := by
  have hparked : ∀ f : Positioner → Positioner, (f (s.bay b).pos).state.loaded = false →
      ((s.modPos b f).tell (.poke b)).flight.Aloft := by
    intro f hf
    rw [State.tell_flight, State.modPos_sets, hf]
    exact h.leaves
  have hmay : ∀ f : Positioner → Positioner, (((s.modPos b f).tell (.poke b)).bay b).mayLoad = (s.bay b).mayLoad := by
    intro f
    cases b <;> rfl
  have hreload : ∀ t : State, t.flight.Aloft → (t.bay b).mayLoad = true →
      ((t.modPos b fun p => { p with loadAttempts := 0 }).enterLoading b).flight.Aloft := fun t ht hm =>
    State.enterLoading_aloft (by simpa using ht) b (by simpa [Bay.mayLoad] using hm)
  fun_cases State.onParked s b
  case case1 => exact State.enterPendingFault_aloft (hparked _ rfl) b
  case case2 => exact hparked _ rfl
  case case3 => exact State.takeHeldLoad_aloft (hparked _ rfl) b
  case case4 =>
    refine State.takeHeldLoad_aloft ?_ b
    split
    next hm => exact State.enterLoading_aloft (hparked _ rfl) b ((hmay _).trans hm)
    next => exact (State.answerUnloaded_flight _ _).symm ▸ hparked _ rfl
  case case5 =>
    refine State.takeHeldLoad_aloft ?_ b
    split
    next hm => exact hreload _ (hparked _ rfl) ((hmay _).trans hm)
    next => exact (State.answerUnloaded_flight _ _).symm ▸ hparked _ rfl
@[simp] theorem State.stepParked_aloft : (s.stepParked b).flight.Aloft := by
  fun_cases State.stepParked s b <;> simp [h]
@[simp] theorem State.loadFails_aloft (d : ActDetail) : (s.loadFails b d).flight.Aloft := by
  fun_cases State.loadFails s b d <;> simp +zetaDelta [h]
theorem State.gainSample_aloft (x : Sample) : (s.gainSample b x).flight.Aloft := by
  fun_cases State.gainSample s b x <;> simp [h]
theorem State.biasSample_aloft (hl : (s.bay b).pos.state.loaded = true) (x : Sample) : (s.biasSample b x).flight.Aloft := by
  fun_cases State.biasSample s b x <;> simp [h, hl]
/-- A sample moves the heads from one loaded state to another, or out of them (R69 to R82). -/
@[simp] theorem State.actOnSample_aloft (x : Sample) : (s.actOnSample b x).flight.Aloft := by
  fun_cases State.actOnSample s b x
  case case6 hs _ => exact State.biasSample_aloft h b (by rw [hs]; rfl) x
  case case7 => exact State.gainSample_aloft h b x
  all_goals simp [*]
@[simp] theorem State.enterMounting_aloft : (s.enterMounting b).flight.Aloft := by simp [h, State.enterMounting]
@[simp] theorem State.standbyUnload_aloft : (s.standbyUnload b).flight.Aloft := by simp [h, State.standbyUnload]

/-! ### Acceptance and delivery -/

@[simp] theorem State.reload_aloft (j : Job) : (s.reload b j).flight.Aloft := by
  fun_cases State.reload s b j <;> simp [h]
@[simp] theorem State.onReady_aloft : (s.onReady b).flight.Aloft := by
  fun_cases State.onReady s b <;> simp [h]
@[simp] theorem State.reloadNow_aloft : (s.reloadNow b).flight.Aloft := by
  fun_cases State.reloadNow s b <;> simp [h]
@[simp] theorem State.onSeekUnloaded_aloft : (s.onSeekUnloaded b).flight.Aloft := by
  fun_cases State.onSeekUnloaded s b <;> simp [h]

/-! ### Cartridge events -/

@[simp] theorem State.cancelMount_aloft (source : EjectSource) : (s.cancelMount b source).flight.Aloft := by
  fun_cases State.cancelMount s b source <;> simp +zetaDelta [h]

/-! ### Positioner events -/

@[simp] theorem State.takeSample_aloft (w : ServoWord) : (s.takeSample b w).flight.Aloft :=
  by simp [h, State.takeSample]
@[simp] theorem State.recalibrationFails_aloft : (s.recalibrationFails b).flight.Aloft := by
  fun_cases State.recalibrationFails s b <;> simp [h]
@[simp] theorem State.parkSensor_aloft (parked : Bool) : (s.parkSensor b parked).flight.Aloft := by
  fun_cases State.parkSensor s b parked <;> simp +zetaDelta [h]

/-! ### Idle timers -/

@[simp] theorem State.unloadTimerExpires_aloft : (s.unloadTimerExpires b).flight.Aloft := by
  fun_cases State.unloadTimerExpires s b <;> simp +zetaDelta [h]
@[simp] theorem State.enterSpinningUp_aloft : (s.enterSpinningUp b).flight.Aloft := by
  fun_cases State.enterSpinningUp s b <;> simp +zetaDelta [h]
@[simp] theorem State.lockConfirmed_aloft : (s.lockConfirmed b).flight.Aloft := by
  fun_cases State.lockConfirmed s b <;> simp +zetaDelta [h]
@[simp] theorem State.issueLock_aloft (attempts : Nat) : (s.issueLock b attempts).flight.Aloft := by
  fun_cases State.issueLock s b attempts <;> simp +zetaDelta [h]
@[simp] theorem State.standbyBrake_aloft : (s.standbyBrake b).flight.Aloft := by
  simp [State.standbyBrake, h]
@[simp] theorem State.stepStandby_aloft : (s.stepStandby b).flight.Aloft := by
  fun_cases State.stepStandby s b <;> simp +zetaDelta [h]
@[simp] theorem State.beginWake_aloft (waiting : Bool) : (s.beginWake b waiting).flight.Aloft := by
  simp only [State.beginWake]
  (repeat' split) <;> simp [h]
@[simp] theorem State.waitForWake_aloft : (s.waitForWake b).flight.Aloft := by
  fun_cases State.waitForWake s b <;> simp +zetaDelta [h]
@[simp] theorem State.endEntryFor_aloft (c : Cmd) : (s.endEntryFor b c).flight.Aloft := by
  fun_cases State.endEntryFor s b c <;> simp +zetaDelta [h]
@[simp] theorem State.afterStandbyFlush_aloft (failed : Option (Completion × SenseAddr)) :
    (s.afterStandbyFlush b failed).flight.Aloft := by
  fun_cases State.afterStandbyFlush s b failed <;> simp +zetaDelta [apply_ite State.flight, apply_ite Flight.Aloft, h]
@[simp] theorem State.startFlush_aloft (requester : FlushFor) (caps : Caps) :
    (s.startFlush b requester caps).flight.Aloft := by
  fun_cases State.startFlush s b requester caps <;> simp +zetaDelta [h]
@[simp] theorem State.flushFailed_aloft (f : Flush) (r : Completion) (x : SenseAddr) :
    (s.flushFailed b f r x).flight.Aloft := by
  fun_cases State.flushFailed s b f r x <;> simp +zetaDelta [h]
@[simp] theorem State.flushSucceeded_aloft (f : Flush) : (s.flushSucceeded b f).flight.Aloft := by
  fun_cases State.flushSucceeded s b f <;> simp +zetaDelta [h]
@[simp] theorem State.flushSector_aloft (j : Job) (r : SectorResult) : (s.flushSector b j r).flight.Aloft := by
  fun_cases State.flushSector s b j r <;> simp [h]
@[simp] theorem State.stepUnmount_aloft : (s.stepUnmount b).flight.Aloft := by
  fun_cases State.stepUnmount s b <;> simp [h]
@[simp] theorem State.bayFault_aloft (d : FaultDetail) : (s.bayFault b d).flight.Aloft := by
  fun_cases State.bayFault s b d <;> simp +zetaDelta [h]
@[simp] theorem State.lockFault_aloft : (s.lockFault b).flight.Aloft := by
  exact State.bayFault_aloft (State.stopRequest_aloft b (State.retractOrder_aloft h b)) b _
@[simp] theorem State.stepStartup_aloft : (s.stepStartup b).flight.Aloft := by
  fun_cases State.stepStartup s b <;> simp [h]
@[simp] theorem State.flushCommand_aloft (c : Cmd) : (s.flushCommand b c).flight.Aloft := by
  fun_cases State.flushCommand s b c <;> simp +zetaDelta [h]
@[simp] theorem State.beginWork_aloft : (s.beginWork b).flight.Aloft := by
  fun_cases State.beginWork s b <;> simp [h]
@[simp] theorem State.takeInMode_aloft (op : CmdOp) : (s.takeInMode b op).flight.Aloft := by
  fun_cases State.takeInMode s b op <;> simp +zetaDelta [apply_ite State.flight, h]
@[simp] theorem State.commandAccepted_aloft (op : CmdOp) : (s.commandAccepted b op).flight.Aloft := by
  fun_cases State.commandAccepted s b op <;> simp +zetaDelta [h]
@[simp] theorem State.mediaCommand_aloft (op : CmdOp) (lba count : Nat) : (s.mediaCommand b op lba count).flight.Aloft := by
  fun_cases State.mediaCommand s b op lba count <;> simp [h]
@[simp] theorem State.mountIsOver_aloft : (s.mountIsOver b).flight.Aloft := by
  fun_cases State.mountIsOver s b <;> simp [h]
@[simp] theorem State.stepCommand_aloft : (s.stepCommand b).flight.Aloft := by
  fun_cases State.stepCommand s b <;> simp [h]
@[simp] theorem State.stepCart_aloft : (s.stepCart b).flight.Aloft := by
  fun_cases State.stepCart s b <;> simp [h]
@[simp] theorem State.goOn_aloft : (s.goOn b).flight.Aloft := by
  simp only [State.goOn]
  refine State.stepCart_aloft (State.stepStandby_aloft ?_ b) b
  rw [State.stepChannel_flight, State.buildImage_flight, State.fillSlots_flight]
  exact State.stepCommand_aloft (by simp [h]) b
@[simp] theorem State.wakeEnds_aloft : (s.wakeEnds b).flight.Aloft := by
  fun_cases State.wakeEnds s b <;> simp +zetaDelta [h]
@[simp] theorem State.onLoaded_aloft : (s.onLoaded b).flight.Aloft := by
  simp only [State.onLoaded]
  (repeat' split) <;> simp [h]
@[simp] theorem State.onSector_aloft (r : SectorResult) : (s.onSector b r).flight.Aloft := by
  fun_cases State.onSector s b r <;> simp [h]
@[simp] theorem State.takeEject_aloft (source : EjectSource) : (s.takeEject b source).flight.Aloft := by
  fun_cases State.takeEject s b source <;> simp [h]
@[simp] theorem State.cartridgeLeaves_aloft : (s.cartridgeLeaves b).flight.Aloft := by
  fun_cases State.cartridgeLeaves s b <;> simp [h]
omit h in
/-- Heads that stand loaded as the lock sense opens retract (R67). -/
theorem State.lockOpens_aloft (hf : s.flight.FliesBut b) (ha : s.spinView.Agrees) : (s.lockOpens b).flight.Aloft := by
  have hretracts : (if (s.bay b).pos.state.loaded then s.enterRetracting b else s).flight.Aloft := by
    split
    next => rw [State.enterRetracting_sets]; exact ⟨hf.leaves, by cases b <;> exact ha⟩
    next hl => exact ⟨hf.flies (by rw [State.flight_loaded]; simpa using hl), ha⟩
  simp only [State.lockOpens]
  split
  next => exact State.lockFault_aloft hretracts b
  next => split <;> simpa using hretracts
@[simp] theorem State.buttonPressed_aloft : (s.buttonPressed b).flight.Aloft := by
  fun_cases State.buttonPressed s b <;> simp [h]
@[simp] theorem State.lockUnconfirmed_aloft : (s.lockUnconfirmed b).flight.Aloft := by
  fun_cases State.lockUnconfirmed s b <;> simp +zetaDelta [h]
@[simp] theorem State.releaseUnconfirmed_aloft : (s.releaseUnconfirmed b).flight.Aloft := by
  fun_cases State.releaseUnconfirmed s b <;> simp +zetaDelta [h]
@[simp] theorem State.takeEjectCommand_aloft (force : Bool) : (s.takeEjectCommand b force).flight.Aloft := by
  fun_cases State.takeEjectCommand s b force <;> simp +zetaDelta [h]
@[simp] theorem State.takeReportCartridge_aloft : (s.takeReportCartridge b).flight.Aloft := by
  fun_cases State.takeReportCartridge s b <;> simp [h]
@[simp] theorem State.tableReport_aloft (op : CmdOp) : (s.tableReport b op).flight.Aloft := by
  fun_cases State.tableReport s b op <;> simp [h]
@[simp] theorem State.enterStandby_aloft (source : EntrySource) : (s.enterStandby b source).flight.Aloft := by
  fun_cases State.enterStandby s b source <;> simp +zetaDelta [h]
@[simp] theorem State.takeStandbyNow_aloft : (s.takeStandbyNow b).flight.Aloft := by
  fun_cases State.takeStandbyNow s b <;> simp +zetaDelta [h]
@[simp] theorem State.takeWake_aloft : (s.takeWake b).flight.Aloft := by
  fun_cases State.takeWake s b <;> simp [h]
@[simp] theorem State.loadBayTable_aloft (id : TableId) (length : BitVec 16) : (s.loadBayTable b id length).flight.Aloft := by
  have hstaged : ∀ x, ({ s with staging := x } : State).flight.Aloft := fun _ => h
  fun_cases State.loadBayTable s b id length <;> simp [h, hstaged]
@[simp] theorem State.readBayTable_aloft (id : TableId) (staged : Option (List Byte)) (missing : Detail) :
    (s.readBayTable b id staged missing).flight.Aloft := by
  fun_cases State.readBayTable s b id staged missing <;> simp [h]
@[simp] theorem State.hostCommand_aloft (i : Instr) : (s.hostCommand i).flight.Aloft := by
  fun_cases State.hostCommand s i <;> simp [h]
@[simp] theorem State.takeFrame_aloft (frame : Inbound) (ended : Detail) : (s.takeFrame frame ended).flight.Aloft := by
  fun_cases State.takeFrame s frame ended <;> simp [h]
@[simp] theorem State.standbyTimerExpires_aloft : (s.standbyTimerExpires b).flight.Aloft := by
  exact State.enterStandby_aloft (by simpa using h) b .timer

/-! ### An event -/

theorem State.deliver_aloft (m : Signal) : (s.deliver m).flight.Aloft := by
  fun_cases State.deliver s m
  case case4 b => exact State.startPending_aloft b h
  all_goals simp [h]

omit h in
theorem settle_aloft (n : Nat) : ∀ {s : State}, s.flight.Aloft → (settle n s).flight.Aloft := by
  induction n with
  | zero => exact id
  | succ n ih =>
    intro s h
    unfold settle
    split
    · exact h
    next m rest _ => exact ih (State.deliver_aloft (s := { s with signals := rest }) h m)

/-- The end of an event delivers its messages. -/
theorem State.conclude_aloft {t : State} (ht : s.conclude = .next t) : t.flight.Aloft := by
  rcases State.conclude_next ht with ⟨-, rfl⟩ | ⟨-, -, rfl⟩
  · exact h
  · rw [State.closeEvent_flight]
    exact settle_aloft _ h
theorem State.endInbound_aloft (early : Bool) {f : State → State}
    (hf : ∀ {s : State}, s.flight.Aloft → (f s).flight.Aloft) : (s.endInbound early f).flight.Aloft := by
  rw [State.endInbound, State.inboundEnds_flight]
  exact hf (by simpa)

theorem State.ldirCuts_aloft (dir : LinkDir) (inbound : Inbound) : (s.ldirCuts dir inbound).flight.Aloft := by
  unfold State.ldirCuts
  split
  · split
    · split <;> simpa
    · exact h
  · split
    · simpa
    · split
      · exact State.endInbound_aloft h true fun h => State.takeFrame_aloft h _ _
      · split
        · simpa
        · split
          · exact State.takeFrame_aloft (by simpa) _ _
          · exact h

/-! ### Which events are taken -/

section
variable {t : State}

theorem State.frame_aloft {i : Instr} {f : State → State} (ht : s.frame i f = .next t)
    (hf : ∀ {s : State}, s.flight.Aloft → (f s).flight.Aloft) : t.flight.Aloft := by
  unfold State.frame at ht
  split at ht
  · exact State.conclude_aloft (hf (by simpa)) ht
  · split at ht
    · exact State.conclude_aloft (State.endInbound_aloft h false hf) ht
    · split at ht <;> cases ht <;> simpa

theorem State.bayEvent_aloft {f : State → State} (ht : s.bayEvent b f = .next t)
    (hf : s.bayPresent b = true → (f s).flight.Aloft) : t.flight.Aloft := by
  unfold State.bayEvent at ht
  split at ht
  next hlive => exact State.conclude_aloft (hf (by simp_all [State.bayLive])) ht
  next => cases ht; exact h

theorem State.bayAct_aloft {f : State → State} (ht : s.bayAct b f = .next t)
    (hf : s.bayPresent b = true → (f s).flight.Aloft) : t.flight.Aloft := by
  unfold State.bayAct at ht
  split at ht
  next hlive => exact State.conclude_aloft (hf (by simp_all [State.bayLive])) ht
  next => cases ht; exact h

theorem State.baySensor_aloft {level act : State → State} (ht : s.baySensor b level act = .next t)
    (hl : (level s).flight.Aloft) (hact : (act (level s)).flight.Aloft) : t.flight.Aloft := by
  unfold State.baySensor at ht
  split at ht
  · refine State.conclude_aloft ?_ ht
    split <;> assumption
  · cases ht; exact h

theorem State.visitEvent_aloft {f : Visit → Job → State} (ht : s.visitEvent f = .next t)
    (hf : ∀ v j, (f v j).flight.Aloft) : t.flight.Aloft := by
  unfold State.visitEvent at ht
  split at ht
  · split at ht
    · split at ht
      · cases ht; exact h
      · exact State.conclude_aloft (hf _ _) ht
    · cases ht; exact h
  · cases ht; exact h

/-! ### The events -/

omit b in
theorem execLinkReset_aloft (ht : execLinkReset s = .next t) : t.flight.Aloft := by
  unfold execLinkReset at ht
  split at ht
  · cases ht; exact h
  · split at ht
    · cases ht; simpa
    · exact State.conclude_aloft (by simpa) ht

omit b in
theorem execLdirChange_aloft {dir : LinkDir} {inbound : Inbound} (ht : execLdirChange dir inbound s = .next t) :
    t.flight.Aloft := by
  simp only [execLdirChange] at ht
  split at ht
  · cases ht; exact h
  · split at ht
    · exact State.conclude_aloft (by simpa using State.ldirCuts_aloft h dir inbound) ht
    · cases ht; simpa

omit b in
theorem execLinkTimeout_aloft {inbound : Inbound} (ht : execLinkTimeout inbound s = .next t) : t.flight.Aloft := by
  unfold execLinkTimeout at ht
  split at ht
  · split at ht
    · exact State.conclude_aloft (by simpa) ht
    · cases ht; exact h
  · split at ht
    · exact State.conclude_aloft (State.endInbound_aloft h true fun h => State.takeFrame_aloft h _ _) ht
    · split at ht
      · exact State.conclude_aloft (State.takeFrame_aloft (by simpa) _ _) ht
      · cases ht; exact h

omit b in
theorem execOutboundFrameSent_aloft (ht : execOutboundFrameSent s = .next t) : t.flight.Aloft := by
  unfold execOutboundFrameSent at ht
  split at ht
  · split at ht
    · exact State.conclude_aloft (by simpa) ht
    · cases ht; exact h
  · cases ht; exact h

theorem execServoSample_aloft {w : ServoWord} (ht : execServoSample b w s = .next t) : t.flight.Aloft := by
  have hhanded : ({ s with servo := s.servo.handedOver b } : State).flight.Aloft := h
  simp only [execServoSample] at ht
  split at ht
  · cases ht; exact h
  · split at ht
    · cases ht; simpa
    · exact State.conclude_aloft (by simp [hhanded]) ht

/-- The expiry of a timer that a state supervises brings SPIN_FAILED. -/
theorem State.bayAct_spinFails_aloft {c : State → Bool} {d : SpinDetail}
    (ht : s.bayAct b (fun s => if c s then s.enterSpinFailed b d else s) = .next t)
    (hc : c s = true → (s.bay b).spindle.state ≠ .waitAllowance) : t.flight.Aloft := by
  refine State.bayAct_aloft h b ht fun hp => ?_
  split
  next hdue => exact State.enterSpinFailed_aloft b h (hc hdue) hp d
  next => exact h

/-- The end of a watch or of a stop brings STOPPED. -/
theorem State.bayAct_stops_aloft {c : State → Bool} (ht : s.bayAct b (fun s => if c s then s.enterStopped b else s) = .next t)
    (hc : c s = true → (s.bay b).spindle.state.aside ∧ (s.bay b).spindle.state ≠ .atSpeed) : t.flight.Aloft := by
  refine State.bayAct_aloft h b ht fun hp => ?_
  split
  next hdue => exact State.enterStopped_aloft b h (hc hdue).1 (hc hdue).2
  next => exact h

/-- A lock sense that engages takes no condition away. -/
theorem State.lockEngages_aloft : (s.modCart b fun c => { c with lockEngaged := true }).flight.Aloft := by
  have hagrees : (s.modCart b fun c => { c with lockEngaged := true }).spinView.Agrees := by
    rw [State.modCart_spinView]
    exact h.agrees
  refine ⟨fun b' hl => ?_, hagrees⟩
  rw [State.flight_loaded, State.modCart_pos, ← State.flight_loaded] at hl
  have hmay := h.flies b' hl
  rw [State.flight_may] at hmay ⊢
  by_cases hb : b' = b
  · subst hb
    simp only [Bay.mayLoad, State.modCart_spindle, State.modCart_cart, Bool.and_true, Bool.and_eq_true] at hmay ⊢
    exact hmay.1
  · rwa [State.modCart_cart_ne s hb]

/-- The lock sense opens: heads that are loaded retract, and after the power-fail latch none are (R67, R85). -/
theorem execLockSenseOpen_aloft
    (hdown : s.powerLoss = true → ∀ b, s.bayPresent b = true → (s.bay b).pos.state.loaded = false)
    (ht : execLockSenseOpen b s = .next t) : t.flight.Aloft := by
  have hopen : (s.modCart b fun c => { c with lockEngaged := false }).flight.FliesBut b := by
    intro b' hb hl
    rw [State.flight_loaded, State.modCart_pos, ← State.flight_loaded] at hl
    have := h.flies b' hl
    rw [State.flight_may] at this ⊢
    rwa [State.modCart_cart_ne s hb]
  have hagrees : (s.modCart b fun c => { c with lockEngaged := false }).spinView.Agrees := by
    rw [State.modCart_spinView]
    exact h.agrees
  simp only [execLockSenseOpen, State.baySensor] at ht
  split at ht
  next hlive =>
    refine State.conclude_aloft ?_ ht
    split
    next hp =>
      refine ⟨hopen.flies ?_, hagrees⟩
      rw [State.flight_loaded, State.modCart_pos]
      exact hdown hp b (by simp_all [State.bayLive])
    next => exact State.lockOpens_aloft b hopen hagrees
  next => cases ht; exact h

omit b in
/-- Every command and event but END_OF_RESET and the power-fail latch keeps the heads over platters at speed. -/
theorem exec_aloft {i : Instr}
    (hdown : s.powerLoss = true → ∀ b, s.bayPresent b = true → (s.bay b).pos.state.loaded = false)
    (hreset : ∀ pins, i ≠ .endOfReset pins) (hlatch : i ≠ .powerFailLatch)
    (ht : exec i s = .next t) : t.flight.Aloft := by
  have hhost : exec i s = s.frame i (fun s => s.hostCommand i) → t.flight.Aloft := fun he =>
    State.frame_aloft h (he.symm.trans ht) fun h => State.hostCommand_aloft h i
  cases i
  case endOfReset pins => exact absurd rfl (hreset pins)
  case powerFailLatch => exact absurd rfl hlatch
  case resetAsserted => cases ht; exact h
  case linkReset => exact execLinkReset_aloft h ht
  case linkResetRelease => exact State.conclude_aloft (by simpa) ht
  case ldirChange => exact execLdirChange_aloft h ht
  case inboundFrameError frame =>
    change execInboundFrameError frame s = _ at ht
    unfold execInboundFrameError at ht
    split at ht
    · exact State.frame_aloft h ht fun h => State.takeFrame_aloft h _ _
    · cases ht; exact h
  case dataOutFrame target declared payload =>
    exact State.frame_aloft h (show execDataOutFrame target declared payload s = _ from ht) fun h => by simpa
  case outboundFrameSent => exact execOutboundFrameSent_aloft h ht
  case linkTimeout => exact execLinkTimeout_aloft h ht
  case indexEdge b elapsed =>
    exact State.bayEvent_aloft h b (show execIndexEdge b elapsed s = _ from ht)
      fun hp => State.takeEdge_aloft b h hp elapsed
  case powerOnWatchEnd b =>
    exact State.bayAct_stops_aloft h b (show execPowerOnWatchEnd b s = _ from ht) fun hc => by simp_all [SpinState.aside]
  case stopTimerExpiry b => exact State.bayAct_stops_aloft h b (show execStopTimerExpiry b s = _ from ht) fun hc => by grind
  case firstIndexTimerExpiry b =>
    exact State.bayAct_spinFails_aloft h b (show execFirstIndexTimerExpiry b s = _ from ht) fun hc => by simp_all
  case gapTimerExpiry b =>
    exact State.bayAct_spinFails_aloft h b (show execGapTimerExpiry b s = _ from ht)
      fun hc hs => by simp [hs, SpinState.spinning] at hc
  case spinUpTimerExpiry b =>
    exact State.bayAct_spinFails_aloft h b (show execSpinUpTimerExpiry b s = _ from ht) fun hc hs => by simp [hs] at hc
  case recoveryTimerExpiry b =>
    exact State.bayAct_spinFails_aloft h b (show execRecoveryTimerExpiry b s = _ from ht) fun hc hs => by simp [hs] at hc
  case brakeTimerExpiry b =>
    exact State.bayAct_spinFails_aloft h b (show execBrakeTimerExpiry b s = _ from ht) fun hc hs => by simp [hs] at hc
  case servoSample b w => exact execServoSample_aloft h b ht
  case loadTimerExpiry b =>
    exact State.bayAct_aloft h b (show execLoadTimerExpiry b s = _ from ht) fun _ => by split <;> simp [h]
  case seekTimerExpiry b =>
    exact State.bayAct_aloft h b (show execSeekTimerExpiry b s = _ from ht) fun _ => by
      split
      next hdue =>
        simp only [Bool.and_eq_true, Bool.or_eq_true, beq_iff_eq] at hdue
        rw [State.seekFailure_flight b (by rcases hdue.2 with hs | hs <;> rw [hs] <;> rfl)]
        exact h
      next => exact h
  case recalibrateTimerExpiry b =>
    exact State.bayAct_aloft h b (show execRecalibrateTimerExpiry b s = _ from ht) fun _ => by split <;> simp [h]
  case positionerUnloadTimerExpiry b =>
    exact State.bayAct_aloft h b (show execPositionerUnloadTimerExpiry b s = _ from ht) fun _ => by split <;> simp [h]
  case retractTimerExpiry b =>
    exact State.bayEvent_aloft h b (show execRetractTimerExpiry b s = _ from ht) fun _ => by split <;> simp [h]
  case parkSensorChange b parked =>
    exact State.bayEvent_aloft h b (show execParkSensorChange b parked s = _ from ht) fun _ => by simp [h]
  case presentAccepted b =>
    exact State.baySensor_aloft h b (show execPresentAccepted b s = _ from ht) (by simpa) (by simpa)
  case presentLost b =>
    exact State.baySensor_aloft h b (show execPresentLost b s = _ from ht) (by simpa) (by simp [h])
  case writeProtectChange b p =>
    exact State.baySensor_aloft h b (show execWriteProtectChange b p s = _ from ht) (by simpa) (by split <;> simp [h])
  case lockSenseEngaged b =>
    have hengaged := State.lockEngages_aloft h b
    exact State.baySensor_aloft h b (show execLockSenseEngaged b s = _ from ht) hengaged (by split <;> simp [hengaged])
  case lockSenseOpen b =>
    exact execLockSenseOpen_aloft h b hdown (show execLockSenseOpen b s = _ from ht)
  case ejectButtonPress level =>
    change execEjectButtonPress level s = _ at ht
    simp only [execEjectButtonPress] at ht
    exact State.baySensor_aloft h level.bay ht (by simpa) (by split <;> simp [h])
  case settleTimerExpiry b =>
    exact State.bayAct_aloft h b (show execSettleTimerExpiry b s = _ from ht) fun _ => by split <;> simp [h]
  case pulseEnd b => exact State.bayAct_aloft h b (show execPulseEnd b s = _ from ht) fun _ => by simpa
  case lockConfirmExpiry b =>
    exact State.bayAct_aloft h b (show execLockConfirmExpiry b s = _ from ht) fun _ => by split <;> simp [h]
  case releaseConfirmExpiry b =>
    exact State.bayAct_aloft h b (show execReleaseConfirmExpiry b s = _ from ht) fun _ => by split <;> simp [h]
  case idFieldRead field =>
    exact State.visitEvent_aloft h (show execIdFieldRead field s = _ from ht) fun v j => by split <;> simp [h]
  case idSearchAttemptEnd =>
    exact State.visitEvent_aloft h (show execIdSearchAttemptEnd s = _ from ht) fun v j => by split <;> simp [h]
  case dataFieldRead data check =>
    exact State.visitEvent_aloft h (show execDataFieldRead data check s = _ from ht) fun v j => by split <;> simp [h]
  case dataFieldWritten =>
    exact State.visitEvent_aloft h (show execDataFieldWritten s = _ from ht) fun v j => by split <;> simp [h]
  case formatTrackWritten =>
    exact State.visitEvent_aloft h (show execFormatTrackWritten s = _ from ht) fun v j => by split <;> simp [h]
  case visitFieldCountEnd =>
    refine State.visitEvent_aloft h (show execVisitFieldCountEnd s = _ from ht) fun v j => ?_
    simp only []
    split
    · split <;> simp [h]
    all_goals simpa
  case idleUnloadTimerExpiry b =>
    refine State.bayAct_aloft h b (show execIdleUnloadTimerExpiry b s = _ from ht) fun _ => ?_
    split
    · split <;> simp [h]
    · exact h
  case standbyTimerExpiry b =>
    exact State.bayAct_aloft h b (show execStandbyTimerExpiry b s = _ from ht) fun _ => by split <;> simp [h]
  case ledFlashToggle b =>
    exact State.bayAct_aloft h b (show execLedFlashToggle b s = _ from ht) fun _ => by split <;> simp [h]
  all_goals exact hhost rfl

end

end

theorem State.headsFly_iff (s : State) : s.headsFly ↔ s.flight.Flies := by
  simp only [State.headsFly, Flight.Flies, State.flight_loaded, State.flight_may, Bay.mayLoad, Spindle.ready, Bool.and_eq_true,
    beq_iff_eq, and_assoc]

theorem State.aloft_iff (s : State) : s.flight.Aloft ↔ s.headsFly ∧ s.allowanceKept := by
  rw [State.headsFly_iff, State.allowanceKept_iff]
  exact ⟨fun h => ⟨h.flies, h.agrees⟩, fun h => ⟨h.1, h.2⟩⟩

/-- After the power-fail latch the heads of a present bay are parked, retracting or in ACT_FAULT (R85). -/
theorem State.poweredDown.down {s : State} (h : s.poweredDown) (hp : s.powerLoss = true) (b : BayId)
    (hb : s.bayPresent b = true) : (s.bay b).pos.state.loaded = false := by
  obtain ⟨-, -, -, -, -, -, -, -, -, -, -, -, hbays⟩ := h hp
  obtain ⟨-, -, -, -, -, -, hs⟩ := hbays b hb
  rcases hs with hs | hs | hs <;> rw [hs] <;> rfl

/-- The latch leaves no head in a loaded state (R85). -/
theorem Positioner.powerFail_loaded (p : Positioner) : p.powerFail.state.loaded = false := by
  unfold Positioner.powerFail
  cases hs : p.state <;> simp [hs] <;> split <;> rfl

/-- The power-fail latch retracts the heads of each present bay, and an absent bay has none loaded (R85). -/
theorem State.latchPowerFail_aloft {s : State} (h : s.flight.Aloft) : s.latchPowerFail.flight.Aloft := by
  refine ⟨fun b hl => ?_, State.latchPowerFail_agrees h.agrees⟩
  rw [State.flight_loaded] at hl
  cases b with
  | bayA => exact absurd hl (by simp [State.latchPowerFail, State.bay, Bay.powerFail, Positioner.powerFail_loaded])
  | bayB =>
    cases htwo : s.twoBays with
    | true => exact absurd hl (by simp [State.latchPowerFail, State.bay, Bay.powerFail, Positioner.powerFail_loaded, htwo])
    | false =>
      have hbay : s.latchPowerFail.bay .bayB = s.bay .bayB := by simp [State.latchPowerFail, State.bay, htwo]
      rw [hbay, ← State.flight_loaded] at hl
      rw [State.flight_may, hbay, ← State.flight_may]
      exact h.flies .bayB hl

/-- At the end of RESET no head is in a loaded state (R66, R87). -/
theorem startState_aloft (pins : Pins) : (startState pins).flight.Aloft := by
  refine ⟨fun b hl => ?_, startState_agrees pins⟩
  have hstart : ∀ x, (startBay x).pos.state.loaded = false := by
    intro x
    simp only [startBay, startPos]
    split <;> rfl
  rw [State.flight_loaded] at hl
  refine absurd hl ?_
  cases b with
  | bayA => simp [startState, State.bay, hstart]
  | bayB =>
    simp only [startState, State.bay]
    split
    · simp [hstart]
    · exact nofun

theorem execEndOfReset_aloft {s t : State} {pins : Pins} (h : s.flight.Aloft) (ht : execEndOfReset pins s = .next t) :
    t.flight.Aloft := by
  have hstart := startState_aloft pins
  simp only [execEndOfReset] at ht
  split at ht
  · refine State.conclude_aloft ?_ ht
    split
    · exact State.latchPowerFail_aloft hstart
    · exact hstart
  · cases ht; exact h

theorem execPowerFailLatch_aloft {s t : State} (h : s.flight.Aloft) (ht : execPowerFailLatch s = .next t) :
    t.flight.Aloft := by
  unfold execPowerFailLatch at ht
  split at ht <;> cases ht
  · exact h
  · exact State.latchPowerFail_aloft h

/-- A step of any command or event. -/
theorem exec_headsFly {i : Instr} {s t : State} (ha : s.allowanceKept) (hd : s.poweredDown) (hf : s.headsFly)
    (ht : exec i s = .next t) : t.headsFly := by
  have h := s.aloft_iff.2 ⟨hf, ha⟩
  refine (t.aloft_iff.1 ?_).1
  by_cases hreset : ∃ pins, i = .endOfReset pins
  · obtain ⟨pins, rfl⟩ := hreset
    exact execEndOfReset_aloft h ht
  · by_cases hlatch : i = .powerFailLatch
    · subst hlatch
      exact execPowerFailLatch_aloft h ht
    · exact exec_aloft h hd.down (fun pins hi => hreset ⟨pins, hi⟩) hlatch ht

/-- A microsecond moves no heads and changes none of their conditions. -/
theorem State.count_flight (s : State) (x : Inputs) : (s.count x).flight = s.flight := by
  unfold State.count
  split
  · rfl
  · obtain ⟨⟨slots, inFrame, spent, reservations, timer, hreceive⟩, -⟩ := s.receive_spec x.lfrm x.strobe
    rw [hreceive]
    cases htwo : s.twoBays <;>
      simp [State.flight, State.spinView, Bay.mayLoad, Spindle.ready, Bay.tick, Spindle.tick, Positioner.tick, Cartridge.tick,
        htwo]

theorem State.tick_flight (s : State) : s.tick.flight = s.flight := s.count_flight _

end Sys2Proof.Machine

namespace Sys2Proof
open Machine

/-- Settles O8: every operation keeps the heads over their conditions (`exec_aloft`), for heads come into a loaded state only
where they may load, and leave it in the very operation that takes a condition away. -/
theorem stepKeepsHeadsFlying : Obligations.StepKeepsHeadsFlying := by
  intro s t _ ha hd hf ht
  obtain ⟨i, rest, -, ht⟩ | ⟨i, -, -, ht⟩ | rfl := step_next ht
  · exact exec_headsFly (s := { s with pending := rest }) ha hd hf ht
  · exact exec_headsFly (s := s.unwithheld) ha hd hf ht
  · rw [State.headsFly_iff, State.tick_flight]
    exact s.headsFly_iff.1 hf

end Sys2Proof

/-! What a MOUNTED bay in IDLE begins with its heads: seeks without a buffer slot, and unloads (O26, O28, O29, O30, O35, O52). -/

namespace Sys2Proof.Machine

/-! ## A reservation and one bay -/

/-- The part with one reservation more (R176). -/
def State.reserved (s : State) : State := s.modLink fun l => { l with reservations := l.reservations + 1 }

theorem State.calm.reserved {s : State} (h : s.calm) : s.reserved.calm := ⟨h.1, h.2.1, h.2.2⟩

@[simp] theorem State.reserved_bay (s : State) (b : BayId) : s.reserved.bay b = s.bay b := by cases b <;> rfl

theorem State.accepted_eq (s : State) (b : BayId) (c : Cmd) :
    s.accepted b c = s.reserved.modBay b fun y => { y with slot := some c, power := y.power.inUse } := rfl

/-- A first sector operation on another cylinder than the one that a bay at rest follows: the heads begin to seek. The state may
have come away from rest in all but the heads, the Data Channel and the profile. -/
theorem State.readyAt.approach {s u : State} {b : BayId} {t : Tables} {at_ : Track} (h : s.readyAt b t at_)
    (hpos : (u.bay b).pos = (s.bay b).pos) (hchan : u.chan = s.chan) (hprofile : u.profile = s.profile) (kind : JobKind)
    (x : Sector) (slots : List Nat) {row : SeekRow} (hc : at_.cyl ≠ x.addr.cyl)
    (hrow : s.profile.find? (fun r => decide ((s.bay b).pos.distance x.track ≤ r.bound)) = some row) :
    u.approach b (Job.start kind x slots) = u.modBay b fun y => { y with
      job := some (Job.start kind x slots), pos := y.pos.seekStarted x.track row } := by
  obtain ⟨-, -, -, -, -, -, -, -, -, -, -, -, -, hstate, htarget, -, -, -, -, hvisit, hwait⟩ := h
  exact State.approach_seek u b _ at_ row (by rwa [hpos]) (by rwa [hpos]) hc (by rwa [State.visiting, hchan]) (by rwa [hchan])
    (by rwa [hprofile, hpos])

/-! ## WRITE and SEEK (R137, R139, R141) -/

/-- A WRITE or a SEEK goes to the holding sector of its next block with no buffer slot. -/
theorem State.takeBlock_seeks {s : State} {b : BayId} {c : Cmd} {t : Tables} {x : Sector} (hc : (s.bay b).slot = some c)
    (ht : (s.bay b).tu.tables = some t) (hx : t.translate (c.lba + c.done) = some x) {kind : JobKind}
    (hk : c.op = .write ∧ kind = .mediaWrite ∨ c.op = .seek ∧ kind = .seekOnly) :
    s.takeBlock b = s.approach b (Job.start kind x []) := by
  rcases hk with ⟨ho, rfl⟩ | ⟨ho, rfl⟩ <;> simp [State.takeBlock, hc, ht, hx, ho]

/-- WRITE and SEEK, accepted. -/
theorem State.mediaCommand_seeks {s : State} {b : BayId} {t : Tables} {at_ : Track} (h : s.readyAt b t at_) {lba n : Nat}
    (hn : lba + n ≤ t.capacity) {x : Sector} (hx : t.translate lba = some x) (hc : at_.cyl ≠ x.addr.cyl) {row : SeekRow}
    (hrow : s.profile.find? (fun r => decide ((s.bay b).pos.distance x.track ≤ r.bound)) = some row) {op : CmdOp}
    {kind : JobKind} (hp : op.makesProtectCheck = true → (s.bay b).cart.wpProtected = false)
    (hk : op = .write ∧ kind = .mediaWrite ∨ op = .seek ∧ kind = .seekOnly) :
    s.mediaCommand b op lba n = s.reserved.modBay b fun y => { y with
      slot := some (Cmd.fresh op lba n s.dmt.caps)
      power := { y.power with mode := .active }
      job := some (Job.start kind x [])
      pos := y.pos.seekStarted x.track row } := by
  set c := Cmd.fresh op lba n s.dmt.caps with hcmd
  have hblock : (s.accepted b c).beginWork b = (s.accepted b c).takeBlock b := by
    rcases hk with ⟨rfl, -⟩ | ⟨rfl, -⟩ <;> simp [State.beginWork, hcmd, Cmd.fresh]
  have hother : op ≠ .wake ∧ op.isFormat = false := by
    rcases hk with ⟨rfl, -⟩ | ⟨rfl, -⟩ <;> exact ⟨nofun, rfl⟩
  rw [State.mediaCommand_begins h hother.1 hother.2 (fun _ => hn) hp, hblock,
    State.takeBlock_seeks (c := c) (t := t) (x := x) (by simp) (by simpa using h.tables) hx hk,
    h.approach (by simp) (by cases b <;> rfl) (by cases b <;> rfl) kind x [] hc hrow, State.accepted_eq, State.modBay_modBay]
  refine State.modBay_congr ?_
  rw [State.reserved_bay, Power.inUse_idle h.idle]

end Sys2Proof.Machine

namespace Sys2Proof
open Machine

/-- Settles O26: the first block of both commands begins with the seek to its holding sector. -/
theorem writeAndSeekStartTheirSeek : Obligations.WriteAndSeekStartTheirSeek := by
  intro b lba count t at_ x row s hears hb hx hc hrow taken
  have hexec : ∀ op n kind, lba.toNat + n ≤ t.capacity → (op.makesProtectCheck = true → (s.bay b).cart.wpProtected = false) →
      (op = .write ∧ kind = .mediaWrite ∨ op = .seek ∧ kind = .seekOnly) →
      (s.mediaCommand b op lba.toNat n).conclude = .next (taken op n kind) := by
    intro op n kind hn hp hk
    rw [State.mediaCommand_seeks hb hn hx hc hrow hp hk]
    refine State.conclude_modBay _ b _ hears.calm.reserved ?_
    rw [State.reserved_bay, hears.2.1.class b, hb.idle]
    rfl
  refine ⟨fun hp hn => (hears.frame _ _).trans (hexec .write _ .mediaWrite hn (fun _ => hp) (.inl ⟨rfl, rfl⟩)),
    fun hn => (hears.frame _ _).trans (hexec .seek 1 .seekOnly hn nofun (.inr ⟨rfl, rfl⟩))⟩

end Sys2Proof

namespace Sys2Proof.Machine

/-! ## FORMAT (R152, R153) -/

/-- An event that takes one bay of a settled part to a power mode of another class raises READINESS with that class (R168). -/
theorem State.conclude_leaves {s : State} (h : s.calm) (b : BayId) (f : Bay → Bay)
    (hf : (f (s.bay b)).power.readiness ≠ (f (s.bay b)).power.mode.readiness) :
    (s.modBay b f).conclude = .next (s.modBay b fun y => { f y with
      power := { (f y).power with readiness := (f y).power.mode.readiness }
      attn := { (f y).attn with
        readiness := { raised := true, payload := BitVec.ofNat 8 (f y).power.mode.readiness.code } } }) := by
  rw [State.conclude_quiet _ (by cases b <;> exact h.1) (by cases b <;> exact h.2.1.1), State.closeEvent_modBay h f hf]

/-- Bay Power Control when the cartridge state leaves MOUNTED, its readiness class still to follow (R161). -/
def Power.departed (x : Power) : Power :=
  { x with mode := .unmounted, unloadTimer := none, standbyTimer := none, entry := none, wake := none }

theorem State.leavePower_eq (s : State) (b : BayId) : s.leavePower b = s.modPower b Power.departed := rfl

/-- A bay at rest leaves its power modes with no entry and no wake to end, also where a command has just made it ACTIVE. -/
theorem State.readyAt.departs {s : State} {b : BayId} {t : Tables} {at_ : Track} (h : s.readyAt b t at_) :
    (s.bay b).power.inUse.departed = { (s.bay b).power with mode := .unmounted, unloadTimer := none, standbyTimer := none } := by
  rw [Power.inUse_idle h.idle]
  obtain ⟨-, -, -, -, -, -, -, -, -, hentry, hwake, -⟩ := h
  simp only [Power.departed, hentry, hwake]

/-- A bay in which INVALIDATE begins with the FORMAT whose progress is `f` (R153), its readiness class still to follow. -/
def Bay.invalidating (x : Bay) (c : Cmd) (f : Format) (row : SeekRow) : Bay := { x with
  slot := some c
  tu := { x.tu with tables := none, dirty := false }
  cart := { x.cart with state := .formatting, mountDetail := .signature }
  power := { x.power with mode := .unmounted, unloadTimer := none, standbyTimer := none }
  format := some f
  job := some (Job.start .formatTrack (recordSector 0) [])
  pos := x.pos.seekStarted systemTrack row }

/-- A FORMAT that passes its checks in a bay in IDLE begins its work. -/
theorem State.mediaCommand_format_begins {s : State} {b : BayId} {t : Tables} {at_ : Track} (h : s.readyAt b t at_)
    {heads : Byte} {certify useList keepGrown : Bool} (hp : (s.bay b).cart.wpProtected = false)
    (hr : (s.bay b).formatRefusal heads.toNat useList keepGrown = none) :
    s.mediaCommand b (.format heads certify useList keepGrown) 0 0 =
      ((s.accepted b (Cmd.fresh (.format heads certify useList keepGrown) 0 0 s.dmt.caps)).setFormat b
        ((s.bay b).formatOf heads.toNat certify useList keepGrown)).formatBegin b
          ((s.bay b).formatOf heads.toNat certify useList keepGrown) := by
  have hactive := Power.inUse_idle h.idle
  obtain ⟨hpresent, hslot, -, -, -, hcart, hunit, -, hmode, hentry, -, htables, -, hstate, -⟩ := h
  generalize ho : CmdOp.format heads certify useList keepGrown = op
  have hchecks : (s.bay b).mediaChecks op 0 0 = none := by
    rw [Bay.mediaChecks_late (.inl hcart)]
    simp [Bay.lateChecks, hunit, ← ho, CmdOp.makesRangeCheck, CmdOp.makesProtectCheck, hp, Bay.ownChecks, hr]
  rw [State.mediaCommand, if_neg (by simp [hpresent]), if_neg (by simp [hslot]), if_neg (by simp [hcart]),
    if_neg (by simp [hcart]), hchecks]
  set c := Cmd.fresh op 0 0 s.dmt.caps with hc
  set f := (s.bay b).formatOf heads.toNat certify useList keepGrown with hf
  have hopen : (s.takeSlot b c).openFormat b op = (s.takeSlot b c).setFormat b f := by
    rw [← ho, State.openFormat, hf]
    simp [State.takeSlot]
    rfl
  set w := (s.takeSlot b c).setFormat b f with hw
  have hbay : w.bay b = { s.bay b with slot := some c, format := some f } := by simp [hw, State.setFormat, State.takeSlot]
  have hset : w.setMode b .active = (s.accepted b c).setFormat b f := by
    cases b <;> simp only [State.bay] at hactive <;>
      simp [hw, State.setFormat, State.takeSlot, State.setMode, State.modPower, State.accepted, State.modBay, State.setBay,
        State.bay, State.modLink, hactive]
  have hmode' : w.takeInMode b op = (w.setMode b .active).beginWork b := by
    simp [State.takeInMode, hbay, hmode, hstate, PosState.loaded, ← ho]
  have hbegin : ((s.accepted b c).setFormat b f).beginWork b = ((s.accepted b c).setFormat b f).formatBegin b f := by
    simp [State.beginWork, State.setFormat, hc, Cmd.fresh, ← ho]
  simp only [hopen]
  rw [State.commandAccepted, if_neg (by simp [hbay, hcart]), hbay, hentry]
  simp only [Option.map_none]
  rw [hmode', hset, hbegin]

/-- INVALIDATE begins with a seek to cylinder 0, head 0. -/
theorem State.formatBegin_seeks {s : State} {b : BayId} {t : Tables} {at_ : Track} (h : s.readyAt b t at_) (c : Cmd)
    (f : Format) (hc : at_.cyl ≠ 0) {row : SeekRow}
    (hrow : s.profile.find? (fun r => decide ((s.bay b).pos.distance systemTrack ≤ r.bound)) = some row) :
    ((s.accepted b c).setFormat b f).formatBegin b f =
      s.reserved.modBay b fun y => y.invalidating c { f with phase := .invalidate, cyl := 0, head := 0, ps := 0 } row := by
  have hplace : ∀ f : Format, f.sectorAt { cyl := 0, head := 0, ps := 0 } = recordSector 0 := fun _ => rfl
  simp only [State.formatBegin, State.formatTrack, State.setFormat, State.leavePower, State.modPower, State.accepted_eq,
    State.modBay_modBay, Format.place, hplace]
  rw [h.approach (by simp) (by cases b <;> rfl) (by cases b <;> rfl) .formatTrack (recordSector 0) [] hc hrow,
    State.modBay_modBay]
  refine State.modBay_congr ?_
  rw [State.reserved_bay, Bay.invalidating, ← h.departs]
  rfl

end Sys2Proof.Machine

namespace Sys2Proof
open Machine

/-- Settles O28: the FORMAT begins in the event of its acceptance, with the bay out of its power modes. -/
theorem formatBeginsWithInvalidate : Obligations.FormatBeginsWithInvalidate := by
  intro b heads certify useList keepGrown t at_ row s hears hb hp hc hr hrow
  refine (hears.frame _ _).trans ?_
  rw [State.mediaCommand_format_begins hb hp hr, State.formatBegin_seeks hb _ _ hc hrow,
    State.conclude_leaves hears.calm.reserved b]
  · rfl
  · rw [State.reserved_bay, Bay.invalidating, hears.2.1.class b, hb.idle]
    nofun

end Sys2Proof

namespace Sys2Proof.Machine

/-! ## FLUSH RECORD (R100, R106) -/

/-- A flush of a bay whose heads FOLLOW elsewhere begins with a seek to cylinder 0, head 0. -/
theorem State.readyAt.startFlush {s u : State} {b : BayId} {t : Tables} {at_ : Track} (h : s.readyAt b t at_)
    (hpos : (u.bay b).pos = (s.bay b).pos) (hspin : (u.bay b).spindle = (s.bay b).spindle) (hchan : u.chan = s.chan)
    (hprofile : u.profile = s.profile) (requester : FlushFor) (caps : Caps) {row : SeekRow} (hc : at_.cyl ≠ 0)
    (hrow : s.profile.find? (fun r => decide ((s.bay b).pos.distance systemTrack ≤ r.bound)) = some row) :
    u.startFlush b requester caps = u.modBay b fun y => { y with
      flush := some { requester, writing := false, generation := 0, caps, stop := false }
      job := some (Job.start .recordWrite (recordSector 0) [])
      pos := y.pos.seekStarted systemTrack row } := by
  have hspeed : (s.bay b).spindle.state = .atSpeed ∧ (s.bay b).pos.state = .following := by
    obtain ⟨-, -, -, -, -, -, -, -, -, -, -, -, hspeed, hstate, -⟩ := h
    exact ⟨hspeed, hstate⟩
  simp only [State.startFlush, hpos, hspin, hspeed.1, hspeed.2, PosState.loaded, reduceCtorEq, or_self,
    if_false, if_true]
  rw [h.approach (by simpa) (by cases b <;> exact hchan) (by cases b <;> exact hprofile) .recordWrite (recordSector 0) [] hc hrow,
    State.modBay_modBay]
  rfl

/-- FLUSH RECORD of a dirty bay, accepted. -/
theorem State.mediaCommand_flushes {s : State} {b : BayId} {t : Tables} {at_ : Track} (h : s.readyAt b t at_)
    (hd : (s.bay b).tu.dirty = true) {row : SeekRow} (hc : at_.cyl ≠ 0)
    (hrow : s.profile.find? (fun r => decide ((s.bay b).pos.distance systemTrack ≤ r.bound)) = some row) :
    s.mediaCommand b .flushRecord 0 0 = s.reserved.modBay b fun y => { y with
      slot := some (Cmd.fresh .flushRecord 0 0 s.dmt.caps)
      power := { y.power with mode := .active }
      flush := some { requester := .flushRecord, writing := false, generation := 0, caps := s.dmt.caps, stop := false }
      job := some (Job.start .recordWrite (recordSector 0) [])
      pos := y.pos.seekStarted systemTrack row } := by
  have hactive := Power.inUse_idle h.idle
  rw [State.mediaCommand_begins (op := .flushRecord) h nofun rfl nofun nofun]
  set c := Cmd.fresh .flushRecord 0 0 s.dmt.caps with hcmd
  have hflush : (s.accepted b c).beginWork b = (s.accepted b c).startFlush b .flushRecord s.dmt.caps := by
    simp [State.beginWork, hcmd, Cmd.fresh, hd, State.flushCommand, hactive]
  rw [hflush, h.startFlush (by simp) (by simp) (by cases b <;> rfl) (by cases b <;> rfl) _ _ hc hrow, State.accepted_eq,
    State.modBay_modBay]
  refine State.modBay_congr ?_
  rw [State.reserved_bay, hactive]

end Sys2Proof.Machine

namespace Sys2Proof
open Machine

/-- Settles O29: a dirty record's flush begins in the event of acceptance. -/
theorem flushRecordSeeksTheRecord : Obligations.FlushRecordSeeksTheRecord := by
  intro b t at_ row s hears hb hd hc hrow
  refine (hears.frame _ _).trans ?_
  rw [State.mediaCommand_flushes hb hd hc hrow]
  refine State.conclude_modBay _ b _ hears.calm.reserved ?_
  rw [State.reserved_bay, hears.2.1.class b, hb.idle]
  rfl

end Sys2Proof

namespace Sys2Proof.Machine

/-! ## Heads that unload (R83, R102, R163) -/

/-- An unload order to the heads of a bay at rest. The state may have come away from rest in all but the heads, the sector
operation and the Data Channel. -/
theorem State.readyAt.unloadOrder {s u : State} {b : BayId} {t : Tables} {at_ : Track} (h : s.readyAt b t at_)
    (hpos : (u.bay b).pos = (s.bay b).pos) (hjob : (u.bay b).job = none) (hchan : u.chan = s.chan) :
    u.unloadOrder b = (u.modBay b fun y => { y with pos := y.pos.unloadStarted }).tell (.poke b) := by
  obtain ⟨-, -, -, -, -, -, -, -, -, -, -, -, -, hstate, -, -, hload, hseek, hheld, hvisit, hwait⟩ := h
  exact u.unloadOrder_following b (by rwa [hpos]) (by rwa [State.visiting, hchan]) (by rwa [hchan]) hjob (by rwa [hpos])
    (by rwa [hpos]) (by rwa [hpos])

/-- A bay that waits for its heads to park, as a MOUNTED one or in its unmounting, with no operation and at most an EJECT or a
STANDBY NOW in its slot. -/
structure Bay.Unloads (x : Bay) : Prop where
  heads : x.pos.state = .unloading ∧ x.pos.parked = false
  job : x.job = none
  slot : ∀ c, x.slot = some c → c.op = .standbyNow ∨ ∃ force, c.op = .eject force
  entry : ∀ e, x.power.entry = some e → e.phase = .unload
  cart : x.cart.state = .mounted ∨ x.cart.state = .unmounting ∧ ∃ e, x.cart.eject = some e ∧ e.phase = .unload

/-- Such a bay has no step to take. -/
theorem State.goOn_unloads {u : State} {b : BayId} (h : (u.bay b).Unloads) (hf : u.link.inFrame = none)
    (hv : u.visiting b = false) (hw : u.chan.waiter ≠ some b) : u.goOn b = u := by
  obtain ⟨⟨hstate, hparked⟩, hjob, hslot, hentry, hcart⟩ := h
  have hcommand : u.stepCommand b = u := by
    unfold State.stepCommand
    cases hs : (u.bay b).slot with
    | none => rfl
    | some c => rcases hslot c hs with ho | ⟨force, ho⟩ <;> simp [ho]
  have hstandby : u.stepStandby b = u := by
    unfold State.stepStandby
    cases he : (u.bay b).power.entry with
    | none => rfl
    | some e => simp [hentry e he, hstate]
  rw [u.goOn_still b (by simp [Positioner.rests, hparked]) hf hcommand (by simp [hjob]) hv hw hstandby, State.stepCart]
  rcases hcart with hc | ⟨hc, e, he, hp⟩
  · rw [hc]
  · simp [hc, State.stepUnmount, he, hp, hstate]

/-- An event whose messages settle in a state without messages ends as that state does. -/
theorem State.conclude_of_settle {s u : State} (h : settle Config.messageBudget s = u) (hs : s.running) (hr : u.running)
    (hu : u.signals = []) : s.conclude = u.conclude := by
  rw [State.conclude_settle s hs u h hu, State.conclude_quiet u hr hu]

/-- Pokes of a bay that unloads in an otherwise calm part find nothing to do. -/
theorem settle_unloads {s : State} (h : s.calm) {b : BayId} (hf : s.link.inFrame = none) (hv : s.visiting b = false)
    (hw : s.chan.waiter ≠ some b) {f : Bay → Bay} (hb : (f (s.bay b)).Unloads) {k n : Nat} (hk : k ≤ n) :
    settle n { s.modBay b f with signals := List.replicate k (.poke b) } = s.modBay b f := by
  have hquiet : (s.modBay b f).signals = [] := by cases b <;> exact h.2.1.1
  rw [settle_ignored _ _ (fun m hm l => ?_) n (by simpa), State.signals_same _ hquiet]
  rw [List.eq_of_mem_replicate hm]
  refine State.goOn_unloads ?_ ?_ ?_ ?_
  · rw [State.bay_signals, State.bay_modBay]
    exact hb
  all_goals cases b <;> assumption

/-- An event that leaves a bay unloading, with pokes to deliver. -/
theorem State.conclude_unloads {s : State} (h : s.calm) {b : BayId} (hf : s.link.inFrame = none) (hv : s.visiting b = false)
    (hw : s.chan.waiter ≠ some b) {f : Bay → Bay} (hb : (f (s.bay b)).Unloads) {k : Nat} (hk : k ≤ 400) :
    ({ s.modBay b f with signals := List.replicate k (.poke b) } : State).conclude = (s.modBay b f).conclude := by
  refine State.conclude_of_settle (settle_unloads h hf hv hw hb hk) ?_ ?_ ?_ <;> cases b
  any_goals exact h.1
  all_goals exact h.2.1.1

/-! ## Idle bays unload (R161, R162) -/

theorem State.readyAt.counts {s : State} {b : BayId} {t : Tables} {at_ : Track} (h : s.readyAt b t at_) :
    (s.bay b).idleCounting = true := by
  obtain ⟨-, hslot, -, -, -, -, -, -, hmode, hentry, hwake, -⟩ := h
  simp [Bay.idleCounting, hslot, hmode, hentry, hwake]

/-- Pokes told in a part without messages. -/
theorem State.tell_pokes {s : State} (h : s.signals = []) (b : BayId) :
    s.tell (.poke b) = { s with signals := List.replicate 1 (.poke b) } ∧
      (s.tell (.poke b)).tell (.poke b) = { s with signals := List.replicate 2 (.poke b) } := by
  simp [State.tell, h]

/-- The end of the idle unload timer in IDLE. -/
theorem State.unloadTimerExpires_idle {s : State} {b : BayId} {t : Tables} {at_ : Track} (h : s.readyAt b t at_) :
    s.unloadTimerExpires b = (s.modBay b fun x => { x with
      power := { x.power with mode := .parkedIdle, unloadTimer := none }, pos := x.pos.unloadStarted }).tell (.poke b) := by
  have hjob : (s.bay b).job = none := by
    obtain ⟨-, -, hjob, -⟩ := h
    exact hjob
  simp only [State.unloadTimerExpires, if_pos h.idle]
  rw [h.unloadOrder (by simp [State.setMode]) (by simpa [State.setMode]) (by cases b <;> rfl)]
  simp only [State.setMode, State.modPower, State.modBay_modBay]

theorem State.readyAt.quiet {s : State} {b : BayId} {t : Tables} {at_ : Track} (h : s.readyAt b t at_) :
    (s.bay b).job = none ∧ (s.bay b).pos.parked = false ∧ s.visiting b = false ∧ s.chan.waiter ≠ some b := by
  obtain ⟨-, -, hjob, -, -, -, -, -, -, -, -, -, -, -, -, hparked, -, -, -, hvisit, hwait⟩ := h
  exact ⟨hjob, hparked, hvisit, hwait⟩

end Sys2Proof.Machine

namespace Sys2Proof
open Machine

/-- Settles O52: in IDLE the heads unload and the mode takes the bay to the class LOAD_DELAY; the rest is read off the events. -/
theorem idleBaysUnloadAndFaultsFlash : Obligations.IdleBaysUnloadAndFaultsFlash := by
  intro b s h hp
  have hact : ∀ f, s.bayAct b f = (f s).conclude := fun f => s.bayAct_taken b f (s.bayLive_of b h.1 hp) h.1.2
  have hunload : exec (.idleUnloadTimerExpiry b) s = _ := hact _
  have hstandby : exec (.standbyTimerExpiry b) s = _ := hact _
  have hflash : exec (.ledFlashToggle b) s = _ := hact _
  refine ⟨fun t at_ hb hf ht hs => ?_, fun ht hs => ?_, fun hm hslot hentry hwake ht hs => ?_, ?_⟩
  · obtain ⟨hjob, hparked, hvisit, hwait⟩ := hb.quiet
    rw [hunload, if_pos (by simp [ht, hb.counts]), if_neg hs, State.unloadTimerExpires_idle hb,
      (State.tell_pokes (by cases b <;> exact h.2.1.1) b).1, State.conclude_unloads h hf hvisit hwait _ (by decide),
      State.conclude_leaves h b]
    · rfl
    · simp [h.2.1.class b, hb.idle, PowerMode.readiness]
    · obtain ⟨-, hslot, -, -, -, hcart, -, -, -, hentry, -⟩ := hb
      exact ⟨⟨rfl, hparked⟩, hjob, by simp [hslot], by simp [hentry], .inl hcart⟩
  · rw [hunload, hstandby]
    simp only [ht, hs, Option.isSome_some, Bool.true_and, if_true]
  · have hcounts : (s.bay b).idleCounting = true := by simp [Bay.idleCounting, hm, hslot, hentry, hwake]
    rw [hunload, if_pos (by simp [ht, hcounts]), if_neg hs]
    simp only [State.unloadTimerExpires, hm, reduceCtorEq, if_false]
    exact State.conclude_modBay s b _ h (h.2.1.class b)
  · rw [hflash]
    split
    next hc =>
      have hfault := State.conclude_modBay s b (fun x => { x with ledLit := !x.ledLit }) h (h.2.1.class b)
      rw [hfault, State.modBay_congr]
      rw [if_pos hc]
    next hc =>
      rw [State.conclude_calm s h, State.modBay_same]
      rw [if_neg hc]

end Sys2Proof

namespace Sys2Proof.Machine

/-! ## Standby entries (R162, R163) -/

/-- A bay whose standby entry has gone on to its unload, its readiness class still to follow. -/
def Bay.entering (x : Bay) (slot : Option Cmd) (source : EntrySource) (unload standby : Timer) : Bay := { x with
  slot := slot
  power := { x.power with
    mode := .parkedIdle, unloadTimer := unload, standbyTimer := standby
    entry := some { source, startMode := .idle, phase := .unload }, wake := none }
  pos := x.pos.unloadStarted }

/-- A standby entry with a clean record begins with its unload. -/
theorem State.readyAt.enterStandby {s u : State} {b : BayId} {t : Tables} {at_ : Track} (h : s.readyAt b t at_)
    (hpos : (u.bay b).pos = (s.bay b).pos) (hjob : (u.bay b).job = none) (hchan : u.chan = s.chan)
    (hm : (u.bay b).power.mode = .idle) (hd : (u.bay b).tu.dirty = false) (source : EntrySource) :
    u.enterStandby b source = ((u.modBay b fun x => x.entering x.slot source
      (if source = .timer then none else x.power.unloadTimer) x.power.standbyTimer).tell (.poke b)).tell (.poke b) := by
  simp only [State.enterStandby, hd, Bool.false_eq_true, if_false, State.standbyUnload]
  rw [h.unloadOrder (by simpa) (by simpa) (by cases b <;> exact hchan)]
  simp only [State.modPower, State.modBay_modBay]
  refine congrArg (fun w : State => (w.tell (.poke b)).tell (.poke b)) (State.modBay_congr ?_)
  simp [Bay.entering, hm]

/-- An event in which a bay at rest goes on to the unload of a standby entry. -/
theorem State.readyAt.conclude_entering {s : State} {b : BayId} {t : Tables} {at_ : Track} (h : s.readyAt b t at_)
    {w : State} (hw : w.calm) (hbay : w.bay b = s.bay b) (hchan : w.chan = s.chan) (hf : w.link.inFrame = none)
    {slot : Option Cmd} (hslot : ∀ c, slot = some c → c.op = .standbyNow) (source : EntrySource) (unload standby : Timer) :
    (((w.modBay b fun x => x.entering slot source unload standby).tell (.poke b)).tell (.poke b)).conclude =
      .next (w.modBay b fun y => { y with
        slot := slot
        power := { mode := .parkedIdle, unloadTimer := unload, standbyTimer := standby, readiness := .loadDelay
                   entry := some { source, startMode := .idle, phase := .unload }, wake := none }
        attn := { y.attn with readiness := { raised := true, payload := 1 } }
        pos := y.pos.unloadStarted }) := by
  obtain ⟨hjob, hparked, hvisit, hwait⟩ := h.quiet
  have hcart : (s.bay b).cart.state = .mounted := by
    obtain ⟨-, -, -, -, -, hcart, -⟩ := h
    exact hcart
  rw [(State.tell_pokes (by cases b <;> exact hw.2.1.1) b).2,
    State.conclude_unloads hw hf (by rwa [State.visiting, hchan]) (by rwa [hchan]) _ (by decide), State.conclude_leaves hw b]
  · rfl
  · have hclass := hw.2.1.class b
    rw [hbay, h.idle] at hclass
    simp [Bay.entering, hbay, hclass, PowerMode.readiness]
  · rw [hbay]
    exact ⟨⟨rfl, hparked⟩, hjob, fun c hc => .inl (hslot c hc), by simp [Bay.entering], .inl hcart⟩

/-- STANDBY NOW of a bay at rest takes its slot and begins the entry. -/
theorem State.takeStandbyNow_enters {s : State} {b : BayId} {t : Tables} {at_ : Track} (h : s.readyAt b t at_)
    (hd : (s.bay b).tu.dirty = false) :
    s.takeStandbyNow b = ((s.reserved.modBay b fun x => x.entering (some (Cmd.fresh .standbyNow 0 0 s.dmt.caps)) .standbyNow
      (s.bay b).power.unloadTimer (s.bay b).power.standbyTimer).tell (.poke b)).tell (.poke b) := by
  set c := Cmd.fresh .standbyNow 0 0 s.dmt.caps with hc
  have htaken : s.takeSlot b c = s.reserved.modBay b fun x => { x with slot := some c } := by cases b <;> rfl
  have henters : s.takeStandbyNow b = (s.takeSlot b c).enterStandby b .standbyNow := by
    obtain ⟨hpresent, hslot, -, -, -, hcart, -, -, hmode, hentry, -⟩ := h
    simp [State.takeStandbyNow, State.mountedRefusal, hpresent, hslot, hcart, hentry, hmode, hc]
  have hbay : (s.takeSlot b c).bay b = { s.bay b with slot := some c } := by rw [htaken, State.bay_modBay, State.reserved_bay]
  rw [henters, h.enterStandby (by rw [hbay]) (by rw [hbay]; exact h.quiet.1) (by cases b <;> rfl) (by rw [hbay]; exact h.idle)
    (by rwa [hbay]), htaken, State.modBay_modBay]
  refine congrArg (fun w : State => (w.tell (.poke b)).tell (.poke b)) (State.modBay_congr ?_)
  rw [State.reserved_bay]
  rfl

/-- The end of the standby timer of a bay at rest begins the entry, with both idle timers stopped. -/
theorem State.standbyTimerExpires_enters {s : State} {b : BayId} {t : Tables} {at_ : Track} (h : s.readyAt b t at_)
    (hd : (s.bay b).tu.dirty = false) :
    s.standbyTimerExpires b =
      ((s.modBay b fun x => x.entering none .timer none none).tell (.poke b)).tell (.poke b) := by
  have hslot : (s.bay b).slot = none := by
    obtain ⟨-, hslot, -⟩ := h
    exact hslot
  rw [State.standbyTimerExpires, State.modPower, h.enterStandby (by rw [State.bay_modBay]) (by rw [State.bay_modBay]; exact h.quiet.1)
    (by cases b <;> rfl) (by rw [State.bay_modBay]; exact h.idle) (by rwa [State.bay_modBay]), State.modBay_modBay]
  refine congrArg (fun w : State => (w.tell (.poke b)).tell (.poke b)) (State.modBay_congr ?_)
  simp only [Bay.entering, if_true, hslot]

end Sys2Proof.Machine

namespace Sys2Proof
open Machine

/-- Settles O35: both sources begin the entry with the unload of its second phase. -/
theorem standbyEntryUnloads : Obligations.StandbyEntryUnloads := by
  intro b t at_ s htakes hsettled hb hd entered
  obtain ⟨hrunning, -, hldir, hframe, -⟩ := State.takesFrame_spec htakes
  have hcalm : s.calm := ⟨hrunning, hsettled, .inl hldir⟩
  have hover : s.frameOver.calm ∧ s.frameOver.readyAt b t at_ := by cases b <;> exact ⟨hcalm, hb⟩
  refine ⟨?_, fun ht => ?_⟩
  · refine (s.frame_taken _ _ htakes).trans ?_
    rw [State.takeStandbyNow_enters hover.2 (by cases b <;> exact hd)]
    refine (hover.2.conclude_entering hover.1.reserved (State.reserved_bay _ b) rfl hframe ?_ _ _ _).trans ?_
    · rintro c ⟨rfl⟩
      rfl
    · cases b <;> rfl
  · refine (s.bayAct_taken b _ (s.bayLive_of b hrunning hb.1) hrunning.2).trans ?_
    rw [if_pos (by simp [ht, hb.counts]), State.standbyTimerExpires_enters hb hd]
    exact hb.conclude_entering hcalm rfl rfl hframe (slot := none) (by simp) _ _ _

end Sys2Proof

namespace Sys2Proof.Machine

/-! ## EJECT (R97, R99, R102) -/

/-- A bay that an EJECT unmounts, with nothing else under way and its readiness class still to follow. -/
def Bay.ejecting (x : Bay) (c : Cmd) (source : EjectSource) (phase : EjectPhase) : Bay := { x with
  slot := some c
  cart := { x.cart with
    state := .unmounting, startupWait := false, eject := some { source, commandWaits := true, phase, discarded := false } }
  power := { x.power with mode := .unmounted, unloadTimer := none, standbyTimer := none } }

/-- EJECT of a bay at rest takes its slot and unmounts the bay. -/
theorem State.takeEjectCommand_unmounts {s : State} {b : BayId} {t : Tables} {at_ : Track} (h : s.readyAt b t at_)
    (hp : (s.bay b).cart.preventRemoval = false) (force : Bool) {source : EjectSource}
    (hs : source = if force then .ejectForce else .eject) :
    s.takeEjectCommand b force = (s.reserved.modBay b fun x =>
      x.ejecting (Cmd.fresh (.eject force) 0 0 s.dmt.caps) source .flush).tell (.poke b) := by
  have hsource : source ≠ .button := by
    rw [hs]
    cases force <;> nofun
  have hwaits : (source != .button) = true := by simpa
  obtain ⟨hpresent, hslot, -, -, hflush, hcart, -, heject, -, hentry, hwake, -⟩ := h
  set c := Cmd.fresh (.eject force) 0 0 s.dmt.caps with hc
  have htaken : s.takeSlot b c = s.reserved.modBay b fun x => { x with slot := some c } := by cases b <;> rfl
  have htakes : s.takeEjectCommand b force = ((s.takeSlot b c).openEject b source .flush).enterUnmounting b := by
    simp [State.takeEjectCommand, hpresent, hslot, hcart, hp, heject, ← hc, ← hs, State.takeEject, State.ejectMounted, hsource,
      htaken]
  have hopened : ((s.takeSlot b c).openEject b source .flush) = s.reserved.modBay b fun x => { x with
      slot := some c
      cart := { x.cart with eject := some { source, commandWaits := true, phase := .flush, discarded := false } } } := by
    rw [htaken, State.openEject, State.modCart, State.modBay_modBay, hwaits]
  rw [htakes, hopened, State.enterUnmounting]
  simp only [State.bay_modBay, State.reserved_bay, hcart, reduceCtorEq, or_self, if_false, State.modCart, State.ejectPhase,
    State.leavePower, State.modPower, State.modBay_modBay]
  refine congrArg (fun w : State => w.tell (.poke b)) (State.modBay_congr ?_)
  simp [Bay.ejecting, hflush, hentry, hwake]

/-- The unmounting of a clean bay goes on to its unload. -/
theorem State.goOn_ejecting {s w : State} {b : BayId} {t : Tables} {at_ : Track} (h : s.readyAt b t at_)
    (hw : w.bay b = s.bay b) (hchan : w.chan = s.chan) (hf : w.link.inFrame = none) (hd : (s.bay b).tu.dirty = false)
    {c : Cmd} {force : Bool} (hc : c.op = .eject force) (source : EjectSource) :
    (w.modBay b fun x => x.ejecting c source .flush).goOn b =
      ((w.modBay b fun x => { x.ejecting c source .unload with pos := x.pos.unloadStarted }).tell (.poke b)).tell (.poke b) := by
  obtain ⟨hjob, hparked, hvisit, hwait⟩ := h.quiet
  have hunload := h.unloadOrder (u := w.modBay b fun x => x.ejecting c source .unload) (by simp [Bay.ejecting, hw])
    (by simp [Bay.ejecting, hw, hjob]) (by cases b <;> exact hchan)
  obtain ⟨-, -, -, -, hflush, -, -, -, -, hentry, -⟩ := h
  set u := w.modBay b fun x => x.ejecting c source .flush with hu
  have hbay : u.bay b = (s.bay b).ejecting c source .flush := by rw [hu, State.bay_modBay, hw]
  have huchan : u.chan = s.chan := by cases b <;> exact hchan
  have hphase : u.ejectPhase b .unload = w.modBay b fun x => x.ejecting c source .unload := by
    rw [hu, State.ejectPhase, State.modCart, State.modBay_modBay]
    rfl
  rw [u.goOn_still b (by simp [hbay, Bay.ejecting, Positioner.rests, hparked]) (by cases b <;> exact hf)
    (by simp [State.stepCommand, hbay, Bay.ejecting, hc]) (by simp [hbay, Bay.ejecting, hjob])
    (by rwa [State.visiting, huchan]) (by rwa [huchan])
    (by simp [State.stepStandby, hbay, Bay.ejecting, hentry])]
  have hstep : u.stepCart b = ((u.ejectPhase b .unload).unloadOrder b).tell (.poke b) := by
    simp [State.stepCart, State.stepUnmount, hbay, Bay.ejecting, hflush, hd]
  rw [hstep, hphase, hunload, State.modBay_modBay]
  rfl

end Sys2Proof.Machine

namespace Sys2Proof
open Machine

/-- Settles O30: the unmounting is poked on to its unload phase in the event of acceptance. -/
theorem ejectUnloadsACleanBay : Obligations.EjectUnloadsACleanBay := by
  intro b force t at_ s hears hb hd hp
  obtain ⟨-, -, -, hframe, -⟩ := State.takesFrame_spec hears.1
  obtain ⟨hjob, hparked, hvisit, hwait⟩ := hb.quiet
  have hcalm := hears.calm.reserved
  have hentry : (s.bay b).power.entry = none := by
    obtain ⟨-, -, -, -, -, -, -, -, -, hentry, -⟩ := hb
    exact hentry
  set c := Cmd.fresh (.eject force) 0 0 s.dmt.caps with hc
  generalize hsource : (if force then EjectSource.ejectForce else .eject) = source
  set u := s.reserved.modBay b fun x => x.ejecting c source .flush with hu
  set w := s.reserved.modBay b fun x => { x.ejecting c source .unload with pos := x.pos.unloadStarted } with hw
  have hquiet : u.signals = [] ∧ w.signals = [] := by cases b <;> exact ⟨hcalm.2.1.1, hcalm.2.1.1⟩
  have hdeliver : ({ u.tell (.poke b) with signals := [] } : State).deliver (.poke b) =
      { w with signals := List.replicate 2 (.poke b) } := by
    rw [← (State.tell_pokes hquiet.2 b).2, hw, ← State.goOn_ejecting hb (State.reserved_bay s b) rfl hframe hd rfl source, ← hu]
    exact congrArg (fun w : State => w.goOn b) (State.signals_same u hquiet.1)
  have hsettle : settle Config.messageBudget (u.tell (.poke b)) = w := by
    rw [show Config.messageBudget = 399 + 1 from rfl, settle_cons 399 _ (.poke b) [] (by simp [State.tell, hquiet.1]), hdeliver]
    refine settle_unloads hcalm hframe hvisit hwait ?_ (by decide)
    rw [State.reserved_bay]
    refine ⟨⟨rfl, hparked⟩, hjob, ?_, by simp [Bay.ejecting, hentry], .inr ⟨rfl, _, rfl, rfl⟩⟩
    rintro _ ⟨rfl⟩
    exact .inr ⟨force, rfl⟩
  refine (hears.frame _ _).trans ?_
  rw [State.takeEjectCommand_unmounts hb hp force hsource.symm, ← hc, ← hu,
    State.conclude_of_settle hsettle (by cases b <;> exact hcalm.1) (by cases b <;> exact hcalm.1) hquiet.2, hw,
    State.conclude_leaves hcalm b]
  · rfl
  · rw [State.reserved_bay, Bay.ejecting, hears.2.1.class b, hb.idle]
    nofun

end Sys2Proof

/-! The end of a command that completes GOOD (R133, R143, R162), and WAKE (O36). -/

namespace Sys2Proof.Machine

/-! ## The end of a command -/

/-- A STATUS queued into its reservation (R176). -/
def Link.posted (l : Link) (d : Desc) : Link := { l with queue := l.queue ++ [d], reservations := l.reservations - 1 }

/-- A bay whose slot has become free, with the idle timers as a completion starts them (R162). -/
def Bay.unslotted (x : Bay) (dmt : Dmt) : Bay := { x with
  slot := none
  power := { x.power with
    unloadTimer := dmtTimer dmt.unloadTimer 1000000, standbyTimer := dmtTimer dmt.standbyTimer 60000000 } }

/-- The STATUS of the bay's command is queued and the slot is free. -/
def State.posted (s : State) (b : BayId) (d : Desc) : State :=
  (s.modLink fun l => l.posted d).modBay b fun x => x.unslotted s.dmt

theorem State.postStatus_posts {s : State} {b : BayId} {c : Cmd} (hc : (s.bay b).slot = some c) (hs : c.silent = false)
    (r : CmdResult) : s.postStatus b r =
      ((s.posted b (.status (.bay b) r.completion r.detail (c.countDone r) c.op.code)).tell (.slotFreed b)).tell (.poke b) := by
  simp only [State.postStatus, hc, hs, Bool.false_eq_true, if_false]
  cases b <;> rfl

/-- No frame of a report of the target is queued, pending or going out. -/
structure State.NoReports (s : State) (target : BayField) : Prop where
  queue : ∀ d ∈ s.link.queue, d.isReportOf target = false
  offered : s.link.offered = []
  going : ∀ f, s.link.outFrame = some f → ¬ (f.target = target ∧ f.slot = none)

theorem State.NoReports.drop {s : State} {target : BayField} (h : s.NoReports target) : s.dropReports target = s := by
  obtain ⟨hqueue, hoffered, hgoing⟩ := h
  have hkept : (s.link.queue.filter fun d => !d.isReportOf target) = s.link.queue :=
    List.filter_eq_self.2 fun d hd => by simp [hqueue d hd]
  have hout : (s.link.outFrame.map fun f => if f.target = target ∧ f.slot = none then { f with owned := false } else f) =
      s.link.outFrame := by
    cases hf : s.link.outFrame with
    | none => rfl
    | some f => simp [hgoing f hf]
  simp only [State.dropReports, State.dropDescs, State.modLink, hkept, hoffered, List.filter_nil, hout]
  rw [← hoffered]

/-- A command that completes GOOD and has no result, no link reset and no report frame behind it posts its STATUS. `u` is the state
once its sector operation has ended and its slots are freed. -/
theorem State.finishCmd_posts {s u : State} {b : BayId} {c : Cmd} (hc : (s.bay b).slot = some c) (hr : c.result = none)
    (hs : c.silent = false) (ho : c.op ≠ .read)
    (hfreed : (s.dropCommandJob b).freeCommandSlots b c (CmdResult.plain .good .none) = u) (hslot : (u.bay b).slot = some c)
    (hreassign : (u.bay b).reassign = none) (hformat : (u.bay b).format = none) (hreports : u.NoReports (.bay b))
    (hstaging : (u.staging.map fun x => x.target) ≠ some (.bay b)) :
    s.finishCmd b (CmdResult.plain .good .none) =
      ((u.posted b (.status (.bay b) .good .none c.done c.op.code)).tell (.slotFreed b)).tell (.poke b) := by
  have hsame : (u.modBay b fun x => { x with reassign := none, format := none }) = u :=
    u.modBay_same b _ (by rw [← hreassign, ← hformat])
  have hcount : c.countDone (CmdResult.plain .good .none) = c.done := if_neg (by simp [ho])
  have hpost := State.postStatus_posts hslot hs (CmdResult.plain .good .none)
  rw [hcount] at hpost
  simp only [State.finishCmd, hc, hr, hfreed, hsame, hreports.drop, State.releaseStaging, if_neg hstaging]
  simp [hs, ho, CmdResult.plain]
  exact hpost

/-- The freed slot of a bay that is not ACTIVE, and whose wake and eject request wait for no command, changes nothing. -/
theorem State.onSlotFreed_same {s : State} {b : BayId} (hm : (s.bay b).power.mode ≠ .active) (hw : (s.bay b).power.wake = none)
    (he : ∀ e, (s.bay b).cart.eject = some e → e.phase ≠ .waitStop) : s.onSlotFreed b = s := by
  have hphase : ((s.bay b).cart.eject.map fun e => e.phase) ≠ some .waitStop := by
    cases heject : (s.bay b).cart.eject with
    | none => nofun
    | some e => simpa using he e heject
  simp only [State.onSlotFreed, hw, if_neg hm, if_neg hphase]

/-- An event whose command ends in a bay that rests, and is not ACTIVE, ends there. -/
theorem State.conclude_freed {u : State} {b : BayId} (hu : u.calm) (hr : ∀ m, ({ u with signals := m } : State).bayRests b = true)
    (hm : (u.bay b).power.mode ≠ .active) (hw : (u.bay b).power.wake = none) (he : (u.bay b).cart.eject = none) :
    ({ u with signals := [.poke b, .slotFreed b, .poke b] } : State).conclude = .next u := by
  have hfreed : ({ u with signals := [.poke b] } : State).deliver (.slotFreed b) = { u with signals := [.poke b] } :=
    State.onSlotFreed_same (by rwa [State.bay_signals]) (by rwa [State.bay_signals]) (by simp [he])
  refine State.conclude_msgs _ u hu.1 ?_ hu
  rw [show Config.messageBudget = 397 + 1 + 1 + 1 from rfl, settle_cons _ _ _ _ rfl, State.deliver_poke _ b (hr _),
    settle_cons _ _ _ _ rfl, hfreed, settle_cons _ _ _ _ rfl, State.deliver_poke _ b (hr _), settle_nil _ _ rfl,
    State.signals_same u hu.2.1.1]

end Sys2Proof.Machine

namespace Sys2Proof.Machine

/-! ## WAKE (R165, R167) -/

theorem State.taken_eq (s : State) (b : BayId) (c : Cmd) :
    s.takeSlot b c = s.reserved.modBay b fun x => { x with slot := some c } := by
  cases b <;> rfl

/-- WAKE of a parked bay that may load begins the first load attempt. -/
theorem State.takeWake_loads {s : State} {b : BayId} (hp : s.bayPresent b = true) (hs : (s.bay b).slot = none)
    (hc : (s.bay b).cart.state = .mounted) (hm : (s.bay b).power.mode = .parkedIdle) (he : (s.bay b).power.entry = none)
    (hw : (s.bay b).power.wake = none) (hload : (s.bay b).mayLoad = true) (hl : s.powerLoss = false)
    (hpos : (s.bay b).pos.state = .parked) :
    s.takeWake b = s.reserved.modBay b fun y => { y with
      slot := some { Cmd.fresh .wake 0 0 s.dmt.caps with wait := .wake }
      power := { y.power with wake := some { startMode := .parkedIdle, waiting := true } }
      pos := { y.pos with
        state := .loading, loadAttempts := 1, loadTimer := some 500000, gain := 1, driveDir := .inward, driveMag := 2
        fault := .none, again := .nothing, loadOpen := true, heldSeek := none, heldSeekOwned := false
        heldLoad := none } } := by
  have hready : (s.bay b).spindle.ready = true := by
    simp only [Bay.mayLoad, Bool.and_eq_true] at hload
    exact hload.1
  set c := Cmd.fresh .wake 0 0 s.dmt.caps with hcmd
  have hbay : (s.takeSlot b c).bay b = { s.bay b with slot := some c } := by
    rw [State.taken_eq, State.bay_modBay, State.reserved_bay]
  have hbegins : s.takeWake b = (s.takeSlot b c).waitForWake b := by
    simp [State.takeWake, hp, hs, hc, State.commandAccepted, hbay, he, State.takeInMode, hm, CmdOp.needsHeads, State.beginWork,
      ← hcmd]
    simp [hcmd, Cmd.fresh]
  rw [hbegins, State.taken_eq]
  simp only [State.waitForWake, State.bay_modBay, State.reserved_bay, hw, State.beginWake, hm, reduceCtorEq, if_false, State.modCmd,
    State.modPower, State.modBay_modBay, hready, if_true, State.loadOrder, hpos, State.loadFromParked, State.modBay_powerLoss,
    show (s.reserved).powerLoss = false from hl, Bool.not_false, Bool.and_true, State.enterLoading, State.modPos]
  rw [if_pos (by exact hload)]
  refine State.modBay_congr ?_
  simp [hcmd, hm, Config.loadTime]

/-- WAKE of a bay in IDLE, or of an UNFORMATTED one, completes GOOD at once. -/
theorem State.takeWake_done {s : State} {b : BayId} (hp : s.bayPresent b = true) (hs : (s.bay b).slot = none)
    (hm : (s.bay b).cart.state = .mounted ∧ (s.bay b).power.mode = .idle ∨ (s.bay b).cart.state = .unformatted)
    (he : (s.bay b).power.entry = none) :
    s.takeWake b = (s.takeSlot b (Cmd.fresh .wake 0 0 s.dmt.caps)).finishCmd b (CmdResult.plain .good .none) := by
  set c := Cmd.fresh .wake 0 0 s.dmt.caps with hcmd
  have hbay : (s.takeSlot b c).bay b = { s.bay b with slot := some c } := by
    rw [State.taken_eq, State.bay_modBay, State.reserved_bay]
  rcases hm with ⟨hc, hm⟩ | hc
  · have hop : c.op = .wake := rfl
    simp [State.takeWake, hp, hs, hc, State.commandAccepted, hbay, he, State.takeInMode, hm, CmdOp.isFormat, State.beginWork,
      ← hcmd, hop]
  · simp [State.takeWake, hp, hs, hc, ← hcmd]

/-- A WAKE that completes at once in a bay that rests posts its STATUS and restarts the idle timers. -/
theorem State.conclude_wakeDone {s : State} (h : s.calm) {b : BayId} (hs : (s.bay b).slot = none) (hrests : s.bayRests b = true)
    (hm : (s.bay b).power.mode ≠ .active) (hjob : (s.bay b).job = none) (hreassign : (s.bay b).reassign = none)
    (hformat : (s.bay b).format = none) (heject : (s.bay b).cart.eject = none) (hw : (s.bay b).power.wake = none)
    (hreports : s.NoReports (.bay b)) (hstaging : (s.staging.map fun x => x.target) ≠ some (.bay b)) :
    ((s.takeSlot b (Cmd.fresh .wake 0 0 s.dmt.caps)).finishCmd b (CmdResult.plain .good .none)).conclude =
      .next (({ s with link := { s.link with
        queue := s.link.queue ++ [Desc.status (.bay b) .good .none 0 0x27] } } : State).modBay b fun y => { y with
          power := { y.power with
            unloadTimer := dmtTimer s.dmt.unloadTimer 1000000, standbyTimer := dmtTimer s.dmt.standbyTimer 60000000 } }) := by
  set c := Cmd.fresh .wake 0 0 s.dmt.caps with hcmd
  have hop : c.op = .wake ∧ c.done = 0 := ⟨rfl, rfl⟩
  have hbay : (s.takeSlot b c).bay b = { s.bay b with slot := some c } := by
    rw [State.taken_eq, State.bay_modBay, State.reserved_bay]
  have hends : ((s.takeSlot b c).dropCommandJob b).freeCommandSlots b c (CmdResult.plain .good .none) =
      (s.takeSlot b c).tell (.poke b) := by
    simp [State.dropCommandJob, hbay, hjob, State.freeCommandSlots, hop]
  generalize hd : ({ s with link := { s.link with
    queue := s.link.queue ++ [Desc.status (.bay b) .good .none 0 0x27] } } : State) = v
  set w := v.modBay b fun y => { y with
    power := { y.power with
      unloadTimer := dmtTimer s.dmt.unloadTimer 1000000, standbyTimer := dmtTimer s.dmt.standbyTimer 60000000 } } with hw'
  have hfinish : (s.takeSlot b c).finishCmd b (CmdResult.plain .good .none) =
      { w with signals := [.poke b, .slotFreed b, .poke b] } := by
    rw [State.finishCmd_posts (c := c) (by rw [hbay]) rfl rfl nofun hends (by simp [hbay]) (by simp [hbay, hreassign])
      (by simp [hbay, hformat])]
    · cases b <;> simp only [State.bay] at hs <;>
        simp [State.posted, State.takeSlot, State.tell, State.modLink, State.modBay, State.setBay, State.bay, Link.posted,
          Bay.unslotted, hw', hs, h.2.1.1, ← hd, CmdOp.code, hop]
    · obtain ⟨hqueue, hoffered, hgoing⟩ := hreports
      cases b <;> exact ⟨hqueue, hoffered, hgoing⟩
    · cases b <;> exact hstaging
  have hv : v.calm := by
    rw [← hd]
    exact h
  have hvbay : v.bay b = s.bay b := by
    rw [← hd]
    cases b <;> rfl
  rw [hfinish]
  refine State.conclude_freed (State.calm_modBay_class hv ?_) (fun m => ?_) ?_ ?_ ?_
  · rw [hvbay]
    exact h.2.1.class b
  · rw [← hrests, hw', ← hd]
    cases b <;> rfl
  all_goals rw [hw', State.bay_modBay, hvbay]
  · exact hm
  · exact hw
  · exact heject

/-- WAKE of a bay whose cartridge is not ready. -/
theorem State.takeWake_notReady {s : State} {b : BayId} (hp : s.bayPresent b = true) (hs : (s.bay b).slot = none)
    (hc : (s.bay b).cart.state ∈ [.seated, .locking, .mounting, .formatting, .unmounting, .releasing, .released]) :
    s.takeWake b = s.refuse b 0x27 (CmdResult.plain .notReady (.cartState (s.bay b).cart.state)) := by
  simp only [List.mem_cons, List.not_mem_nil, or_false] at hc
  rcases hc with hc | hc | hc | hc | hc | hc | hc <;> simp [State.takeWake, hp, hs, hc, CmdOp.code]

end Sys2Proof.Machine

namespace Sys2Proof
open Machine

/-- Settles O36: the three cases of WAKE, of which the second ends a command in a bay that rests. -/
theorem wakeLoadsTheHeads : Obligations.WakeLoadsTheHeads := by
  intro b s hears hp hs
  have hcalm := hears.calm
  have hexec : exec (.wake b) s = (s.takeWake b).conclude := hears.frame _ _
  refine ⟨fun hc hm he hw hready hlock hpos => ?_, fun hm hrests hjob hreassign hformat heject hw hout hstaging hqueue => ?_,
    fun hc => ?_⟩
  · rw [hexec, State.takeWake_loads hp hs hc hm he hw (by simp [Bay.mayLoad, hready, hlock]) hcalm.1.2 hpos]
    refine State.conclude_modBay _ b _ hcalm.reserved ?_
    rw [State.reserved_bay]
    exact hcalm.2.1.class b
  · have hentry : (s.bay b).power.entry = none := by
      have hrest := (State.bayRests_spec hrests).2.2
      simp only [Bay.rests, Bool.and_eq_true, Option.isNone_iff_eq_none] at hrest
      exact hrest.1.2
    rw [hexec, State.takeWake_done hp hs (hm.imp_right And.left) hentry]
    exact State.conclude_wakeDone hcalm hs hrests (by rcases hm with ⟨-, hm⟩ | ⟨-, hm⟩ <;> rw [hm] <;> nofun) hjob hreassign
      hformat heject hw ⟨hqueue, hcalm.2.1.2.1, by simp [hout]⟩ hstaging
  · have hrefuses := s.refuse_senses b 0x27 (CmdResult.plain .notReady (.cartState (s.bay b).cart.state)) nofun nofun rfl
    rw [State.clearUnitChanged_other (by nofun), if_neg (by nofun)] at hrefuses
    rw [hexec, State.takeWake_notReady hp hs hc, hrefuses, s.conclude_senseRefusal hcalm]
    cases b <;> rfl

end Sys2Proof

/-! The heads come to the park sensor (O45), are retracted (O44), and retry what fails (O43). -/

namespace Sys2Proof.Machine

/-! ## A new Positioner in a bay that rests -/

/-- An event that gives a resting bay another Positioner that rests, and pokes the bay, ends there. -/
theorem State.conclude_newPos {s u : State} (h : s.calm) {b : BayId} (hr : s.bayRests b = true) {q : Positioner}
    (hq : q.rests = true) (hu : u = (s.modBay b fun z => { z with pos := q }).tell (.poke b)) :
    u.conclude = .next (s.modBay b fun z => { z with pos := q }) := by
  rw [hu]
  exact State.conclude_poke _ b (s.calm_modBay b _ h rfl) (s.bayRests_pos b _ hr hq)

/-- An event that changes one Positioner of a calm part and tells nothing ends there. -/
theorem State.conclude_modPos {s : State} (h : s.calm) (b : BayId) (f : Positioner → Positioner) :
    (s.modPos b f).conclude = .next (s.modPos b f) :=
  s.conclude_modBay b _ h (h.2.1.class b)

/-- A change of the Positioner, by what becomes of it. -/
theorem State.modPos_eq {s : State} {b : BayId} {f : Positioner → Positioner} {q : Positioner} (h : f (s.bay b).pos = q) :
    s.modPos b f = s.modBay b fun z => { z with pos := q } :=
  State.modBay_congr (by rw [h])

theorem State.modPos_modPos (s : State) (b : BayId) (f g : Positioner → Positioner) :
    (s.modPos b f).modPos b g = s.modPos b fun p => g (f p) := by
  cases b <;> rfl

/-! ## The park sensor (R83, R84, R85) -/

theorem exec_parkSensorChange {s : State} {b : BayId} (h : s.bayLive b = true) (parked : Bool) :
    exec (.parkSensorChange b parked) s = (s.parkSensor b parked).conclude :=
  s.bayEvent_taken b (fun s => s.parkSensor b parked) h

/-- The heads reach PARKED with no fault to enter and no load to follow. -/
theorem State.onParked_rests {s : State} {b : BayId} (hf : (s.bay b).pos.pendingFault = none)
    (ha : (s.bay b).pos.again = .nothing) (hl : (s.bay b).pos.heldLoad = none) :
    s.onParked b = (s.modPos b fun p => { p with
      state := .parked, driveMag := 0, unloadTimer := none, retractTimer := none, unloadTimedOut := false, calibrated := false
      again := .nothing }).tell (.poke b) := by
  simp [State.onParked, hf, ha, State.takeHeldLoad, hl]

end Sys2Proof.Machine

namespace Sys2Proof
open Machine

/-- Settles O45: the sensor ends an unload and a retract, begins a retract in PARKED, and is a level alone elsewhere. -/
theorem parkSensorEndsTheUnload : Obligations.ParkSensorEndsTheUnload := by
  intro b s hp p
  refine ⟨fun h hr => ⟨fun hs hfault hagain hheld => ?_, fun hs hj hload hseek hheld => ?_, fun parked hs => ?_⟩,
    fun parked hreset hloss hsignals hs => ?_⟩
  · have hsensor : s.parkSensor b true = (s.modPos b fun p => { p with parked := true }).onParked b := by
      rcases hs with hs | hs <;> simp only [State.parkSensor, show (s.bay b).pos.state = _ from hs, if_true]
    rw [exec_parkSensorChange (s.bayLive_of b h.1 hp), hsensor, State.onParked_rests (by simpa) (by simpa) (by simpa), State.modPos_modPos]
    exact State.conclude_newPos h hr rfl (congrArg (State.tell · _) (State.modPos_eq rfl))
  · obtain ⟨hvisit, hwait, -⟩ := State.bayRests_spec hr
    have hsensor : s.parkSensor b false = (s.modPos b fun p => { p with parked := false }).enterRetracting b := by
      simp [State.parkSensor, show (s.bay b).pos.state = _ from hs, h.1.2]
    rw [exec_parkSensorChange (s.bayLive_of b h.1 hp), hsensor, State.enterRetracting_idle _ b (by cases b <;> exact hvisit) (by cases b <;> exact hwait)
      (by simpa) (by simpa) (by simpa) (by simpa), State.modPos, State.modBay_modBay]
    exact State.conclude_newPos h hr rfl (congrArg (State.tell · _) (State.modBay_congr rfl))
  · have hsensor : s.parkSensor b parked = s.modPos b fun p => { p with parked := parked } := by
      unfold State.parkSensor
      cases hstate : (s.bay b).pos.state <;> simp_all [PosState.loaded, p]
    rw [exec_parkSensorChange (s.bayLive_of b h.1 hp), hsensor, State.conclude_modPos h, State.modPos_eq rfl]
  · have hsensor : s.parkSensor b parked = s.modPos b fun p => { p with parked := parked } := by
      simp [State.parkSensor, show (s.bay b).pos.state = _ from hs, hloss]
    rw [exec_parkSensorChange (by simp [State.bayLive, hreset, hp]), hsensor, State.conclude_dead _ (by cases b <;> simp [State.running, State.modPos, hloss]),
      State.signals_same _ (by cases b <;> exact hsignals), State.modPos_eq rfl]

end Sys2Proof

namespace Sys2Proof.Machine

/-! ## BAY_FAULT by the actuator (R86, R110) -/

section
variable {s : State} {b : BayId} (h : s.Untasked b)
include h

/-- A bay without a sector operation drops none: only what would answer it is forgotten. -/
theorem State.Untasked.dropJob : s.dropJob b = s.modPos b fun p => { p with seekFor := .nobody, heldSeekOwned := false } := by
  have hsame : s.setJob b none = s := s.modBay_same b _ (by rw [← h.job])
  have hwait : (s.modPos b fun p => { p with seekFor := .nobody, heldSeekOwned := false }).chan.waiter ≠ some b := by
    cases b <;> exact h.noWait
  simp only [State.dropJob, h.noVisit, Bool.false_eq_true, if_false, hsame, State.withdrawChannel, if_neg hwait]

theorem State.Untasked.freeRecordSlots : s.freeRecordSlots b = s.tell (.poke b) := by
  rw [State.freeRecordSlots, State.freeWhere_unowned h.noSlots]

theorem State.Untasked.faultCommand (d : FaultDetail) (releasing : Bool) : s.faultCommand b d releasing = s := by
  simp only [State.faultCommand, h.slot]

/-- What BAY_FAULT ends of a bay without work: its power modes, and what would answer its heads. -/
theorem State.Untasked.faultEnds (d : FaultDetail) (releasing : Bool) :
    (((((s.discard b discardFault).faultCommand b d releasing).leavePower b).dropJob b).freeRecordSlots b).modBay b
        (fun x => { x with flush := none, reassign := none, format := none }) =
      (s.modBay b fun x => { x with
        pos := { x.pos with seekFor := .nobody, heldSeekOwned := false }, power := x.power.departed }).tell (.poke b) := by
  have hleaves := h.modBay (fun x => { x with power := x.power.departed }) fun _ _ => ⟨rfl, rfl, rfl, rfl, rfl, rfl, rfl⟩
  have hdrops := hleaves.modBay (fun x => { x with pos := { x.pos with seekFor := .nobody, heldSeekOwned := false } })
    fun _ _ => ⟨rfl, rfl, rfl, rfl, rfl, rfl, rfl⟩
  rw [State.discard_clean h.clean, h.faultCommand, State.leavePower_eq, State.modPower, hleaves.dropJob, State.modPos,
    hdrops.freeRecordSlots, State.tell_modBay, State.modBay_modBay, State.modBay_modBay]
  refine congrArg (State.tell · _) (State.modBay_congr ?_)
  rw [← h.flush, ← h.reassign, ← h.format]

/-- The entry to BAY_FAULT of a bay without work, by the actuator: the spindle is told to stop (R110). -/
theorem State.Untasked.bayFault_actuator (hc : (s.bay b).cart.state ≠ .bayFault) (a : ActDetail) :
    s.bayFault b (.actuator a) =
      (((s.modBay b fun x => x.faulted (.actuator a)).tell (.poke b)).tell (.poke b)).stopRequest b := by
  rw [State.bayFault, if_neg hc]
  dsimp only
  rw [State.raise, State.modBay_modBay, State.Untasked.faultEnds (h.modBay _ _)]
  · rw [State.modBay_modBay]
    refine congrArg (fun u : State => ((u.tell (.poke b)).tell (.poke b)).stopRequest b) (State.modBay_congr ?_)
    simp [Bay.faulted, Power.departed, Attentions.set, h.format, h.eject]
  · intro x hx
    exact ⟨rfl, rfl, rfl, rfl, rfl, by simp [hx, h.eject], rfl⟩

/-- A poke of such a bay changes nothing while the heads are not confirmed parked. -/
theorem State.Untasked.goOn_faulted (hc : (s.bay b).cart.state = .bayFault) (he : (s.bay b).power.entry = none)
    (hp : (s.bay b).pos.state = .actFault) (hparked : (s.bay b).pos.parked = false) : s.goOn b = s := by
  refine (s.goOn_still b (by simp [Positioner.rests, hparked]) h.noFrame (by simp [State.stepCommand, h.slot]) (by simp [h.job])
    h.noVisit h.noWait (by simp [State.stepStandby, he])).trans ?_
  simp [State.stepCart, hc, State.stepFault, Positioner.confirmedParked, hp, hparked]

end

/-- A stop request to a spindle that spins outside ACCELERATING, under heads out of the loaded states (R48). -/
theorem State.stopRequest_unloaded {s : State} {b : BayId} (hp : s.bayPresent b = true)
    (hs : (s.bay b).spindle.state ∈ [.regulating, .atSpeed, .speedFault]) (hl : (s.bay b).pos.state.loaded = false) :
    s.stopRequest b = s.modSpindle b Spindle.stopping := by
  have hbraked : ((s.enterBraking b).modSpindle b fun x => { x with stopWaiting := true }) = s.modSpindle b Spindle.stopping := by
    cases b <;> rfl
  have hstays : (s.modSpindle b Spindle.stopping).headsLeave b = s.modSpindle b Spindle.stopping := by
    rw [State.headsLeave, State.modSpindle_pos, hl]
    rfl
  simp only [List.mem_cons, List.not_mem_nil, or_false] at hs
  rcases hs with hs | hs | hs <;> simp only [State.stopRequest, if_pos hp, State.takeStopRequest, hs, hbraked, hstays]

/-- A stop request to a spindle at rest is answered by a poke. -/
theorem State.stopRequest_atRest {s : State} {b : BayId} (hp : s.bayPresent b = true) (hs : (s.bay b).spindle.state = .stopped)
    (hw : (s.bay b).spindle.watchOpen = false) : s.stopRequest b = s.tell (.poke b) := by
  simp [State.stopRequest, hp, State.takeStopRequest, hs, hw]

end Sys2Proof.Machine

namespace Sys2Proof.Machine

/-! ## The unload timer and the retract timer (R83 to R86) -/

/-- A Positioner in ACT_FAULT (R86). -/
def Positioner.failed (p : Positioner) (d : ActDetail) : Positioner := { p with
  state := .actFault, fault := d, target := none, onTrack := false
  loadTimer := none, seekTimer := none, recalTimer := none, unloadTimer := none, retractTimer := none
  driveMag := 0, pendingFault := none, unloadTimedOut := false, loadOpen := false, heldLoad := none
  heldSeek := none, heldSeekOwned := false, seekFor := .nobody, givingUp := false, again := .nothing
  reloadTarget := none }

theorem State.enterActFault_eq (s : State) (b : BayId) (d : ActDetail) :
    s.enterActFault b d = (s.modPos b fun p => p.failed d).tell (.actFault b d) := rfl

theorem exec_unloadTimerExpiry {s : State} (h : s.calm) {b : BayId} (hp : s.bayPresent b = true)
    (ht : (s.bay b).pos.unloadTimer.isSome = true) : exec (.positionerUnloadTimerExpiry b) s =
      ((s.modPos b fun p => { p with unloadTimedOut := true }).enterRetracting b).conclude :=
  (s.bayAct_taken b (fun s => if (s.bay b).pos.unloadTimer.isSome then
    (s.modPos b fun p => { p with unloadTimedOut := true }).enterRetracting b else s) (s.bayLive_of b h.1 hp) h.1.2).trans
    (congrArg State.conclude (if_pos ht))

theorem exec_retractTimerExpiry {s : State} {b : BayId} (h : s.bayLive b = true) (ht : (s.bay b).pos.retractTimer.isSome = true)
    {d : ActDetail} (hd : d = if (s.bay b).pos.unloadTimedOut then .unload else .retract) :
    exec (.retractTimerExpiry b) s = ((s.modPos b fun p => p.failed d).tell (.actFault b d)).conclude := by
  subst hd
  exact (s.bayEvent_taken b (fun s => if (s.bay b).pos.retractTimer.isSome then
    s.enterActFault b (if (s.bay b).pos.unloadTimedOut then .unload else .retract) else s) h).trans
    (congrArg State.conclude (if_pos ht))

/-- A second fault of a bay in BAY_FAULT changes nothing there (R110). -/
theorem State.conclude_actFault_again {s : State} (h : s.calm) {b : BayId} (hc : (s.bay b).cart.state = .bayFault) (d : ActDetail) :
    ((s.modPos b fun p => p.failed d).tell (.actFault b d)).conclude = .next (s.modPos b fun p => p.failed d) := by
  have hcalm : (s.modPos b fun p => p.failed d).calm := s.calm_modBay b _ h rfl
  rw [State.tell, hcalm.2.1.1]
  refine State.conclude_ignored hcalm _ (fun m hm l => ?_) (by simp)
  rw [List.mem_singleton.1 hm]
  exact if_pos (by rw [State.bay_signals, State.modPos_cart, hc])

/-- The spindle of a bay whose actuator has failed: one that turns brakes (R48, R110). -/
def Spindle.afterActFault (x : Spindle) : Spindle := if x.state = .stopped then x else x.stopping

/-- A retract that fails in a bay without work takes it to BAY_FAULT. -/
theorem State.settle_actFault {s : State} (h : s.calm) {b : BayId} (hu : s.Untasked b) (hp : s.bayPresent b = true)
    (hc : (s.bay b).cart.state ≠ .bayFault) (hparked : (s.bay b).pos.parked = false)
    (hs : (s.bay b).spindle.state = .stopped ∧ (s.bay b).spindle.watchOpen = false ∨
      (s.bay b).spindle.state ∈ [.regulating, .atSpeed, .speedFault]) (d : ActDetail) :
    settle Config.messageBudget ((s.modPos b fun p => p.failed d).tell (.actFault b d)) = s.modBay b fun x =>
      { ({ x with pos := x.pos.failed d } : Bay).faulted (.actuator d) with spindle := x.spindle.afterActFault } := by
  set v := s.modPos b fun p => p.failed d with hv
  set w := s.modBay b fun x =>
    { ({ x with pos := x.pos.failed d } : Bay).faulted (.actuator d) with spindle := x.spindle.afterActFault } with hw
  have hquiet : v.signals = [] ∧ w.signals = [] := by cases b <;> exact ⟨h.2.1.1, h.2.1.1⟩
  have hvu : v.Untasked b := hu.modBay _ fun _ _ => ⟨rfl, rfl, rfl, rfl, rfl, rfl, rfl⟩
  have hwu : w.Untasked b := hu.modBay _ fun _ _ => ⟨rfl, rfl, rfl, rfl, rfl, rfl, rfl⟩
  have hwbay : w.bay b = { ((({ s.bay b with pos := (s.bay b).pos.failed d } : Bay)).faulted (.actuator d)) with
      spindle := (s.bay b).spindle.afterActFault } := by rw [hw, State.bay_modBay]
  have hstop : ∃ k, k ≤ 3 ∧ v.bayFault b (.actuator d) = { w with signals := List.replicate k (.poke b) } := by
    rw [hvu.bayFault_actuator (by rwa [hv, State.modPos_cart])]
    rcases hs with ⟨hstopped, hwatch⟩ | hspins
    · have hrest : v.modBay b (fun x => x.faulted (.actuator d)) = w := by
        rw [hv, hw, State.modPos, State.modBay_modBay]
        refine State.modBay_congr ?_
        rw [Spindle.afterActFault, if_pos hstopped]
        rfl
      rw [hrest, State.stopRequest_atRest (by cases b <;> exact hp)]
      · exact ⟨3, le_rfl, by simp [State.tell, hquiet.2]⟩
      · simp [hwbay, Spindle.afterActFault, hstopped]
      · simpa [hwbay, Spindle.afterActFault, hstopped]
    · have hstopping : (s.bay b).spindle.afterActFault = (s.bay b).spindle.stopping := by
        refine if_neg fun hstopped => ?_
        simp [hstopped] at hspins
      rw [State.stopRequest_unloaded (by cases b <;> exact hp) (by simpa [hv, Bay.faulted] using hspins)
        (by simp [hv, Bay.faulted, Positioner.failed, PosState.loaded])]
      have hbrakes : w = (v.modBay b fun x => x.faulted (.actuator d)).modSpindle b Spindle.stopping := by
        rw [hv, hw, State.modPos, State.modSpindle, State.modBay_modBay, State.modBay_modBay]
        refine State.modBay_congr ?_
        rw [hstopping]
        rfl
      refine ⟨2, by omega, ?_⟩
      rw [State.tell_tell (by cases b <;> exact h.2.1.1), hbrakes]
      cases b <;> rfl
  obtain ⟨k, hk, hstop⟩ := hstop
  rw [show Config.messageBudget = 399 + 1 from rfl, settle_cons 399 _ (.actFault b d) [] (by simp [State.tell, hquiet.1])]
  have hdeliver : ({ v.tell (.actFault b d) with signals := [] } : State).deliver (.actFault b d) = v.bayFault b (.actuator d) :=
    congrArg (fun u : State => u.bayFault b (.actuator d)) (State.signals_same v hquiet.1)
  rw [hdeliver, hstop, settle_ignored w _ (fun m hm l => ?_) 399 (by rw [List.length_replicate]; omega),
    State.signals_same _ hquiet.2]
  rw [List.eq_of_mem_replicate hm]
  refine (hwu.signals l).goOn_faulted ?_ ?_ ?_ ?_ <;> rw [State.bay_signals, hwbay]
  · rfl
  · rfl
  · rfl
  · exact hparked

end Sys2Proof.Machine

namespace Sys2Proof
open Machine

/-- Settles O44: the retract output goes on after a failed unload, and a retract that fails is a fault of the bay. -/
theorem retractFollowsUnload : Obligations.RetractFollowsUnload := by
  intro b s hp p
  refine ⟨fun h hr hparked hj ht hs hload hseek hheld => ?_, ?_⟩
  · obtain ⟨hvisit, hwait, -⟩ := State.bayRests_spec hr
    rw [exec_unloadTimerExpiry h hp ht, State.enterRetracting_idle _ b (by cases b <;> exact hvisit)
      (by cases b <;> exact hwait) (by simpa) (by simpa) (by simpa) (by simpa), State.modPos, State.modBay_modBay]
    refine State.conclude_newPos h hr ?_ (congrArg (State.tell · _) (State.modBay_congr rfl))
    simp [Positioner.rests, hparked]
  · intro d failed
    refine ⟨fun hreset hcase hsignals ht => ?_, ?_⟩
    · have hfailed : (s.modPos b fun p => p.failed d) = s.modBay b fun z => { z with pos := failed } := State.modPos_eq rfl
      rw [exec_retractTimerExpiry (by simp [State.bayLive, hreset, hp]) ht rfl, ← hfailed]
      rcases hcase with hloss | ⟨h, hc⟩
      · rw [State.conclude_dead _ (by cases b <;> simp [State.running, State.modPos, State.tell, hloss])]
        exact congrArg _ (State.signals_same (s.modPos b fun p => p.failed d) (by cases b <;> exact hsignals))
      · exact State.conclude_actFault_again h hc d
    · intro h ht hparked hc heject hslot hjob hreassign hflush hformat hentry hclean hslots hvisit hwait hframe x hspin
      have hu : s.Untasked b := ⟨hslot, hjob, hformat, hflush, hreassign, heject, hclean, hslots, hvisit, hwait, hframe⟩
      have hsettle := State.settle_actFault h hu hp hc hparked hspin d
      have hclass := h.2.1.class b
      rw [exec_retractTimerExpiry (by simp [State.bayLive, h.1.1, hp]) ht rfl,
        State.conclude_of_settle hsettle (by cases b <;> exact h.1) (by cases b <;> exact h.1) (by cases b <;> exact h.2.1.1)]
      have hcode : BitVec.ofNat 8 (FaultDetail.actuator d).code = if p.unloadTimedOut then (0x34 : Byte) else 0x35 := by
        show BitVec.ofNat 8 (FaultDetail.actuator (if p.unloadTimedOut then .unload else .retract)).code = _
        split <;> rfl
      by_cases hm : (s.bay b).power.mode = .unmounted
      · rw [State.conclude_modBay s b _ h]
        · refine congrArg _ (State.modBay_congr ?_)
          simp only [Bay.faulted, hcode, hm, hentry, hclass, PowerMode.readiness, if_true]
          rfl
        · simp [Bay.faulted, hclass, hm]
      · rw [State.conclude_leaves h b]
        · refine congrArg _ (State.modBay_congr ?_)
          simp only [Bay.faulted, hcode, if_neg hm, hentry]
          rfl
        · simp only [Bay.faulted, hclass]
          cases hmode : (s.bay b).power.mode <;> simp_all [PowerMode.readiness]

end Sys2Proof

/-! What a servo sample does in each state of the Positioner (O42). -/

namespace Sys2Proof.Machine

/-! ## The Positioner put in place -/

/-- The part with another Positioner in a bay. -/
def State.putPos (s : State) (b : BayId) (q : Positioner) : State := s.modBay b fun z => { z with pos := q }

section
variable (s : State) (b : BayId) (q : Positioner)

@[simp] theorem State.putPos_bay : (s.putPos b q).bay b = { s.bay b with pos := q } := s.bay_modBay b _
@[simp] theorem State.modPos_put (f : Positioner → Positioner) : (s.putPos b q).modPos b f = s.putPos b (f q) :=
  (s.modBay_modBay b _ _).trans (State.modBay_congr rfl)
@[simp] theorem State.putPos_chan : (s.putPos b q).chan = s.chan := s.modBay_chan b _
@[simp] theorem State.putPos_profile : (s.putPos b q).profile = s.profile := s.modBay_profile b _
@[simp] theorem State.putPos_dmt : (s.putPos b q).dmt = s.dmt := s.modBay_dmt b _
@[simp] theorem State.putPos_signals : (s.putPos b q).signals = s.signals := s.modBay_signals b _
@[simp] theorem State.putPos_visiting : (s.putPos b q).visiting b = s.visiting b := by cases b <;> rfl

theorem State.putPos_calm {s : State} (h : s.calm) (b : BayId) (q : Positioner) : (s.putPos b q).calm := s.calm_modBay b _ h rfl

theorem State.conclude_putPos {s : State} (h : s.calm) (b : BayId) (q : Positioner) :
    (s.putPos b q).conclude = .next (s.putPos b q) :=
  State.conclude_calm _ (State.putPos_calm h b q)

end

/-! ## A sample is taken (R68, R69, R191) -/

/-- The part with the hand-over of a bay's sample complete (R191). -/
def State.handed (s : State) (b : BayId) : State := { s with servo := s.servo.handedOver b }

@[simp] theorem State.handed_bay (s : State) (b b' : BayId) : (s.handed b).bay b' = s.bay b' := by cases b' <;> rfl
@[simp] theorem State.handed_visiting (s : State) (b b' : BayId) : (s.handed b).visiting b' = s.visiting b' := rfl

theorem State.calm.handed {s : State} (h : s.calm) (b : BayId) : (s.handed b).calm := ⟨h.1, h.2.1, h.2.2⟩

/-- A Positioner that has recorded a sample (R69). -/
def Positioner.recorded (p : Positioner) (x : Sample) : Positioner :=
  { p with last := some x, current := if x.valid then x.track else p.current }

theorem State.recordSample_put (s : State) (b : BayId) (x : Sample) :
    s.recordSample b x = s.putPos b ((s.bay b).pos.recorded x) := State.modPos_eq rfl

/-- A servo field passes no visit of the bay (R120). -/
theorem State.channelSample_idle {s : State} {b : BayId} (h : s.visiting b = false) (indexFlag : Bool) :
    s.channelSample b indexFlag = s := by
  unfold State.channelSample
  split
  next v j hv hj =>
    refine if_neg fun hb => ?_
    simp [State.visiting, hv, hb] at h
  next => rfl

/-- A sample taken by a part that is not calm is recorded only (R170, R191). -/
theorem exec_servoSample_dead {s : State} {b : BayId} (hp : s.bayPresent b = true) (w : ServoWord)
    (h : s.resetHeld = true ∨ s.powerLoss = true) :
    exec (.servoSample b w) s =
      .next ((s.handed b).putPos b ((s.bay b).pos.recorded (sampleOf w (s.bay b).pos.bias))) := by
  have hdead : (s.resetHeld || s.powerLoss) = true := by simpa using h
  show execServoSample b w s = _
  simp only [execServoSample, hp, Bool.not_true, Bool.false_eq_true, if_false, hdead, if_true]
  rw [State.recordSample_put]
  cases b <;> rfl

/-- A sample in a calm part is recorded and acted on, and its event ends with what that leaves. -/
theorem exec_servoSample_acts {s u : State} (h : s.calm) {b : BayId} (hp : s.bayPresent b = true) {w : ServoWord} {x : Sample}
    (hx : x = sampleOf w (s.bay b).pos.bias)
    (hu : ((s.handed b).putPos b ((s.bay b).pos.recorded x)).actOnSample b x = u) (hv : u.visiting b = false) :
    exec (.servoSample b w) s = u.conclude := by
  have hlive : (s.resetHeld || s.powerLoss) = false := by simp [h.1.1, h.1.2]
  have hrecord : (s.handed b).recordSample b x = (s.handed b).putPos b ((s.bay b).pos.recorded x) := by
    rw [State.recordSample_put, State.handed_bay]
  show execServoSample b w s = _
  simp only [execServoSample, hp, Bool.not_true, Bool.false_eq_true, if_false, hlive]
  show ((s.handed b).takeSample b w).conclude = _
  simp only [State.takeSample, State.handed_bay, ← hx, hrecord, hu, State.channelSample_idle hv]

/-- A sample that moves nothing but the Positioner. -/
theorem exec_servoSample_moves {s : State} (h : s.calm) {b : BayId} (hp : s.bayPresent b = true) (hv : s.visiting b = false)
    {w : ServoWord} {x : Sample} (hx : x = sampleOf w (s.bay b).pos.bias) {q : Positioner}
    (hq : ((s.handed b).putPos b ((s.bay b).pos.recorded x)).actOnSample b x = (s.handed b).putPos b q) :
    exec (.servoSample b w) s = .next ((s.handed b).putPos b q) := by
  rw [exec_servoSample_acts h hp hx hq (by simpa), State.conclude_putPos (h.handed b)]

end Sys2Proof.Machine

namespace Sys2Proof.Machine

/-! ## Samples by state (R71 to R82) -/

theorem Sample.forGain_iff (x : Sample) : x.forGain = true ↔ x.sync = true ∧ x.ampA ≠ 255 ∧ x.ampB ≠ 255 := by
  simp [Sample.forGain, and_assoc]

theorem sampleOf_sum (w : ServoWord) (bias : Int) : (sampleOf w bias).sum = (sampleOf w bias).ampA + (sampleOf w bias).ampB :=
  rfl

theorem Positioner.corrected_invalid {x : Sample} (h : x.valid = false) (q : Positioner) : q.corrected x = q := by
  rw [Positioner.corrected, if_neg (by simp [h])]

theorem Positioner.corrected_valid {x : Sample} (h : x.valid = true) (q : Positioner) : q.corrected x = { q with
    driveDir := if 0 < x.pes then .outward else if x.pes < 0 then .inward else q.driveDir
    driveMag := min 15 (x.pes.natAbs / 16) } := by
  rw [Positioner.corrected, if_pos h]
  rfl

section
variable {s : State} {b : BayId} {q : Positioner} {x : Sample}

/-- Outside the loaded states a sample does nothing further (R69). -/
theorem State.actOnSample_unloaded (h : q.state ∈ [PosState.parked, .unloading, .retracting, .actFault]) :
    (s.putPos b q).actOnSample b x = s.putPos b q := by
  simp only [List.mem_cons, List.not_mem_nil, or_false] at h
  rcases h with h | h | h | h <;> simp only [State.actOnSample, State.putPos_bay, h]

theorem State.actOnSample_loading (h : q.state = .loading) :
    (s.putPos b q).actOnSample b x = (s.putPos b q).loadingSample b x := by
  simp only [State.actOnSample, State.putPos_bay, h]

theorem State.actOnSample_calibrating (h : q.state = .calibrating) : (s.putPos b q).actOnSample b x =
    if q.calibration.biasPhase then (s.putPos b q).biasSample b x else (s.putPos b q).gainSample b x := by
  simp only [State.actOnSample, State.putPos_bay, h]

theorem State.actOnSample_seeking (h : q.state = .seeking) :
    (s.putPos b q).actOnSample b x = (s.putPos b q).seekingSample b x := by
  simp only [State.actOnSample, State.putPos_bay, h]

theorem State.actOnSample_settling (h : q.state = .settling) :
    (s.putPos b q).actOnSample b x = (s.putPos b q).settlingSample b x := by
  simp only [State.actOnSample, State.putPos_bay, h]

theorem State.actOnSample_following (h : q.state = .following) :
    (s.putPos b q).actOnSample b x = (s.putPos b q).followingSample b x := by
  simp only [State.actOnSample, State.putPos_bay, h]

theorem State.actOnSample_recalibrating (h : q.state = .recalibrating) :
    (s.putPos b q).actOnSample b x = if x.valid then (s.putPos b q).recalibrated b x else s.putPos b q := by
  simp only [State.actOnSample, State.putPos_bay, h]

/-- A sample in LOADING (R71, R72). -/
theorem State.loadingSample_put : (s.putPos b q).loadingSample b x = s.putPos b (
    if x.valid then { q with
      state := .calibrating, loadTimer := none, gain := 1, driveMag := 0
      calibration := { biasPhase := false, gathered := 0, fields := 0, sum := 0 } }
    else { q with gain := if q.gain = 1 then 2 else if q.gain = 2 then 4 else 1 }) := by
  unfold State.loadingSample
  split <;> simp [State.enterCalibrating]

/-- The calibration samples gathered once a sample has come that counts or does not. -/
def Calibration.gatheredWith (c : Calibration) (counts : Bool) : Nat := if counts then c.gathered + 1 else c.gathered

/-- The sum gathered once a sample has come that counts, with its value, or does not. -/
def Calibration.sumWith (c : Calibration) (counts : Bool) (value : Int) : Int := if counts then c.sum + value else c.sum

/-- A sample of the gain phase that leaves it open (R72). -/
theorem State.gainSample_counts (hg : q.calibration.gatheredWith x.forGain ≠ 8) (hf : q.calibration.fields + 1 < 64) :
    (s.putPos b q).gainSample b x = s.putPos b { q with calibration := {
      biasPhase := false, gathered := q.calibration.gatheredWith x.forGain, fields := q.calibration.fields + 1
      sum := q.calibration.sumWith x.forGain x.sum } } := by
  have hopen : ¬ Config.calibrationFields ≤ q.calibration.fields + 1 := by
    simp only [Config.calibrationFields]
    omega
  simp only [State.gainSample, State.putPos_bay]
  rw [if_neg (by exact hg), if_neg hopen]
  simp [Calibration.gatheredWith, Calibration.sumWith]

/-- The sample that ends the gain phase with a gain (R72). -/
theorem State.gainSample_gains (hg : q.calibration.gatheredWith x.forGain = 8)
    (hs : 6 ≤ (q.calibration.sumWith x.forGain x.sum).toNat / 8) :
    let mean := (q.calibration.sumWith x.forGain x.sum).toNat / 8
    (s.putPos b q).gainSample b x = s.putPos b { q with
      gain := if mean < 64 then 4 else if mean < 128 then 2 else 1
      calibration := { biasPhase := true, gathered := 0, fields := 0, sum := 0 } } := by
  intro mean
  have hgain : gainFor mean = some (if mean < 64 then 4 else if mean < 128 then 2 else 1) := by
    rw [gainFor, if_neg (by omega)]
    split
    · rfl
    · split <;> rfl
  simp only [State.gainSample, State.putPos_bay]
  rw [if_pos (by exact hg)]
  split
  next g hg =>
    cases hgain.symm.trans hg
    rw [State.modPos_put]
  next hg => exact absurd (hgain.symm.trans hg) nofun

/-- A sample of the bias phase that leaves it open (R73). -/
theorem State.biasSample_counts (hg : q.calibration.gatheredWith x.valid ≠ 8) (hf : q.calibration.fields + 1 < 64) :
    (s.putPos b q).biasSample b x = s.putPos b { q with calibration := {
      biasPhase := true, gathered := q.calibration.gatheredWith x.valid, fields := q.calibration.fields + 1
      sum := q.calibration.sumWith x.valid x.rawPes } } := by
  have hopen : ¬ Config.calibrationFields ≤ q.calibration.fields + 1 := by
    simp only [Config.calibrationFields]
    omega
  simp only [State.biasSample, State.putPos_bay]
  rw [if_neg (by exact hg), if_neg hopen, State.modPos_put]
  rfl

/-- The sample that ends the bias phase with a bias (R73). -/
theorem State.biasSample_gains (hg : q.calibration.gatheredWith x.valid = 8)
    (hs : (Int.tdiv (q.calibration.sumWith x.valid x.rawPes) 8).natAbs ≤ 32) :
    (s.putPos b q).biasSample b x = (s.putPos b { q with
      bias := Int.tdiv (q.calibration.sumWith x.valid x.rawPes) 8, calibrated := true }).closingSeek b := by
  simp only [State.biasSample, State.putPos_bay]
  rw [if_pos (by exact hg), if_pos (by exact hs), State.modPos_put]
  rfl

/-- A closing seek to the return cylinder, in no visit and with no channel request (R74, R76). -/
theorem State.closingSeek_returns {row : SeekRow} (hr : q.reloadTarget = none) (hh : q.heldSeek = none)
    (hv : s.visiting b = false) (hw : s.chan.waiter ≠ some b)
    (hrow : s.profile.find? (fun r => decide (q.distance { cyl := q.returnCyl, head := q.head } ≤ r.bound)) = some row) :
    (s.putPos b q).closingSeek b = s.putPos b { q with
      retryUsed := false, reloadUsed := false, seekFor := .nobody, givingUp := false
      state := .seeking, target := some { cyl := q.returnCyl, head := q.head }, row := some row
      seekTimer := some (row.timeout * 1000), settleCount := 0, onTrack := false
      driveDir := if q.current ≤ q.returnCyl then .inward else .outward, driveMag := row.velocity } := by
  simp only [State.closingSeek, State.putPos_bay, hr, hh, State.modPos_put]
  rw [State.startSeek_eq _ b _ row (State.leaveTrack_idle _ b (by simpa) (by simpa))
    (by rw [State.putPos_profile, State.putPos_bay]; exact hrow), State.modPos_put]
  rfl

/-- A sample in SEEKING (R76). -/
theorem State.seekingSample_put {t : Track} (ht : q.target = some t) : (s.putPos b q).seekingSample b x = s.putPos b (
    if x.valid then
      if x.track = t.cyl then ({ q with state := .settling, settleCount := 0 } : Positioner).corrected x
      else { q with driveDir := towards x.track t.cyl }
    else q) := by
  simp only [State.seekingSample, State.putPos_bay, ht]
  split
  · split <;> rw [State.modPos_put, ← ht]
  · rfl

/-- The settle count after a sample on the target (R77). -/
def Positioner.countWith (q : Positioner) (x : Sample) (row : SeekRow) : Nat :=
  if x.valid && decide (x.pes.natAbs ≤ row.window) then q.settleCount + 1 else 0

/-- A Positioner in SETTLING that has counted a sample on the target (R77, R80; notes/assumptions/35.md). -/
def Positioner.settled (q : Positioner) (x : Sample) (row : SeekRow) : Positioner := { q with
  settleCount := q.countWith x row, wrongRun := 0, invalidRun := if x.valid then 0 else min 4 (q.invalidRun + 1) }

/-- A sample in SETTLING that is not of another track (R77). -/
theorem State.settlingSample_put {t : Track} {row : SeekRow} (ht : q.target = some t) (hr : q.row = some row)
    (hx : x.valid = true → x.track = t.cyl) : (s.putPos b q).settlingSample b x =
      if row.settleCount ≤ q.countWith x row then (s.putPos b ((q.settled x row).corrected x)).enterFollowing b t x false
      else s.putPos b ((q.settled x row).corrected x) := by
  have hright : (x.valid && x.track != t.cyl) = false := by
    cases hvalid : x.valid
    · rfl
    · simp [hx hvalid]
  simp only [State.settlingSample, State.putPos_bay, ht, hr, hright, Bool.false_eq_true, if_false, Positioner.settlingRuns,
    State.modPos_put]
  rw [← ht, ← hr]
  rfl

/-- A sample in FOLLOWING that brings neither OFF_CYLINDER nor LOST_SERVO (R80, R82). -/
theorem State.followingSample_put {t : Track} (ht : q.target = some t)
    (hw : x.valid = true → x.track ≠ t.cyl → q.wrongRun + 1 < 2) (hi : x.valid = false → q.invalidRun + 1 < 4) :
    (s.putPos b q).followingSample b x = s.putPos b (({ q with
      wrongRun := if x.valid && x.track != t.cyl then q.wrongRun + 1 else 0
      invalidRun := if x.valid then 0 else q.invalidRun + 1
      onTrack := x.onTrack t.cyl q.writeThreshold } : Positioner).corrected x) := by
  have hstays : ¬ 2 ≤ (if (x.valid && x.track != t.cyl) = true then q.wrongRun + 1 else 0) := by
    split
    next h =>
      obtain ⟨hvalid, htrack⟩ : x.valid = true ∧ x.track ≠ t.cyl := by simpa using h
      have := hw hvalid htrack
      omega
    next => omega
  have hsees : ¬ 4 ≤ (if x.valid = true then 0 else q.invalidRun + 1) := by
    split
    next => omega
    next h =>
      have := hi (by simpa using h)
      omega
  simp only [State.followingSample, State.putPos_bay, ht]
  rw [if_neg hstays, if_neg hsees, State.modPos_put, ← ht]

end

end Sys2Proof.Machine

namespace Sys2Proof.Machine

/-! ## Entry to FOLLOWING (R77, R78) -/

/-- A Positioner that enters FOLLOWING on a track, its orders answered (R65, R77). -/
def Positioner.follows (q : Positioner) (t : Track) (x : Sample) (threshold : Nat) : Positioner := { q with
  state := .following, target := some t, returnCyl := t.cyl, seekTimer := none, wrongRun := 0, invalidRun := 0
  writeThreshold := threshold, onTrack := x.onTrack t.cyl threshold, loadOpen := false, seekFor := .nobody, givingUp := false
  reloadTarget := none }

/-- The messages that answer orders at the entry to FOLLOWING. -/
def Signal.answersHeads (b : BayId) (m : Signal) : Prop :=
  m = .seekDone b ∨ m = .seekFailed b ∨ m = .regained b ∨ m = .regainFailed b ∨ m = .loaded b

/-- The answer to the operation's seek order or to its report, if it waits for one. -/
def SeekFor.answers (f : SeekFor) (b : BayId) (failed : Bool) : List Signal :=
  match f with
  | .nobody => []
  | .operation => [if failed then .seekFailed b else .seekDone b]
  | .regain => [if failed then .regainFailed b else .regained b]

/-- The answers to the open orders of a Positioner that enters FOLLOWING. -/
def Positioner.answers (q : Positioner) (b : BayId) (failed : Bool) : List Signal :=
  q.seekFor.answers b failed ++ if q.loadOpen then [.loaded b] else []

theorem Positioner.answers_spec (q : Positioner) (b : BayId) (failed : Bool) :
    (∀ m ∈ q.answers b failed, m.answersHeads b) ∧ (q.answers b failed).length ≤ 2 := by
  unfold Positioner.answers SeekFor.answers
  cases q.seekFor <;> cases q.loadOpen <;> cases failed <;> simp [Signal.answersHeads]

/-- The entry to FOLLOWING with no seek order held answers the open orders. -/
theorem State.enterFollowing_put (s : State) (b : BayId) (q : Positioner) (hh : q.heldSeek = none) (t : Track) (x : Sample)
    (failed : Bool) : (s.putPos b q).enterFollowing b t x failed =
      { s.putPos b (q.follows t x s.dmt.writeThreshold) with signals := s.signals ++ q.answers b failed } := by
  have hheld : ∀ (u : State) (ms : List Signal), u = s.putPos b (q.follows t x s.dmt.writeThreshold) →
      ({ u with signals := ms } : State).takeHeldSeek b = { u with signals := ms } := by
    rintro u ms rfl
    have hnone : (({ s.putPos b (q.follows t x s.dmt.writeThreshold) with signals := ms } : State).bay b).pos.heldSeek = none := by
      rw [State.bay_signals, State.putPos_bay]
      exact hh
    rw [State.takeHeldSeek, hnone]
  have hfollows : (s.putPos b q).modPos b (fun p => { p with
      state := .following, target := some t, returnCyl := t.cyl, seekTimer := none, wrongRun := 0, invalidRun := 0
      writeThreshold := (s.putPos b q).dmt.writeThreshold, onTrack := x.onTrack t.cyl (s.putPos b q).dmt.writeThreshold
      loadOpen := false, seekFor := .nobody, givingUp := false, reloadTarget := none }) =
      s.putPos b (q.follows t x s.dmt.writeThreshold) := by
    rw [State.modPos_put, State.putPos_dmt]
    rfl
  have hquiet := s.putPos_signals b (q.follows t x s.dmt.writeThreshold)
  rw [← hheld _ _ rfl, ← hquiet]
  simp only [State.enterFollowing, hfollows, State.putPos_bay, Positioner.answers]
  generalize s.putPos b (q.follows t x s.dmt.writeThreshold) = w
  refine congrArg (State.takeHeldSeek · b) ?_
  cases q.seekFor <;> cases q.loadOpen <;> simp [SeekFor.answers, State.tell]

/-- The answers to its heads' orders change nothing in a bay without an operation, a command and a wake. -/
theorem State.deliver_answersHeads {s : State} {b : BayId} (hj : (s.bay b).job = none) (hs : (s.bay b).slot = none)
    (hw : (s.bay b).power.wake = none) {m : Signal} (hm : m.answersHeads b) : s.deliver m = s := by
  rcases hm with rfl | rfl | rfl | rfl | rfl <;> simp [State.deliver, State.onLoaded, hj, hs, hw]

/-- An event that enters FOLLOWING in such a bay ends there. -/
theorem State.conclude_follows {s : State} (h : s.calm) {b : BayId} (hj : (s.bay b).job = none) (hs : (s.bay b).slot = none)
    (hw : (s.bay b).power.wake = none) {q : Positioner} (hh : q.heldSeek = none) (t : Track) (x : Sample) (failed : Bool) :
    ((s.putPos b q).enterFollowing b t x failed).conclude = .next (s.putPos b (q.follows t x s.dmt.writeThreshold)) := by
  obtain ⟨hanswers, hlength⟩ := q.answers_spec b failed
  rw [State.enterFollowing_put s b q hh, h.2.1.1, List.nil_append]
  refine State.conclude_ignored (State.putPos_calm h b _) _ (fun m hm l => ?_) (by omega)
  refine State.deliver_answersHeads ?_ ?_ ?_ (hanswers m hm) <;> rw [State.bay_signals, State.putPos_bay] <;> assumption

end Sys2Proof.Machine

namespace Sys2Proof.Machine

/-- Toward another cylinder there is one direction (R76). -/
theorem towards_ne {current target : Nat} (h : current ≠ target) :
    towards current target = if current < target then .inward else .outward := by
  unfold towards
  by_cases hlt : current < target
  · rw [if_pos hlt, if_pos hlt.le]
  · rw [if_neg hlt, if_neg (by omega)]

theorem Calibration.gatheredWith_forGain (c : Calibration) (x : Sample) : c.gatheredWith x.forGain =
    if x.sync = true ∧ x.ampA ≠ 255 ∧ x.ampB ≠ 255 then c.gathered + 1 else c.gathered :=
  if_congr x.forGain_iff rfl rfl

theorem Calibration.sumWith_forGain (c : Calibration) (x : Sample) (value : Int) : c.sumWith x.forGain value =
    if x.sync = true ∧ x.ampA ≠ 255 ∧ x.ampB ≠ 255 then c.sum + value else c.sum :=
  if_congr x.forGain_iff rfl rfl

/-- A sample in SEEKING that is invalid changes nothing (R76). -/
theorem State.seekingSample_invalid {s : State} {b : BayId} {q : Positioner} {x : Sample} (hx : x.valid = false) :
    (s.putPos b q).seekingSample b x = s.putPos b q := by
  simp only [State.seekingSample, State.putPos_bay, hx, Bool.false_eq_true, if_false]
  split <;> rfl

theorem Sample.onTrack_valid {x : Sample} (hx : x.valid = true) {cyl : Nat} (hc : x.track = cyl) (threshold : Nat) :
    x.onTrack cyl threshold = decide (x.pes.natAbs ≤ threshold) := by
  simp [Sample.onTrack, hx, hc]

theorem Sample.onTrack_wrong {x : Sample} {cyl : Nat} (hc : x.track ≠ cyl) (threshold : Nat) :
    x.onTrack cyl threshold = false := by
  simp [Sample.onTrack, hc]

theorem Sample.onTrack_invalid {x : Sample} (hx : x.valid = false) (cyl threshold : Nat) : x.onTrack cyl threshold = false := by
  simp [Sample.onTrack, hx]

/-- A sample that brings the heads to FOLLOWING in a bay without an operation, a command and a wake. -/
theorem exec_servoSample_follows {s : State} (h : s.calm) {b : BayId} (hp : s.bayPresent b = true) (hv : s.visiting b = false)
    {w : ServoWord} {x : Sample} (hx : x = sampleOf w (s.bay b).pos.bias) (hj : (s.bay b).job = none)
    (hs : (s.bay b).slot = none) (hw : (s.bay b).power.wake = none) {q : Positioner} (hh : q.heldSeek = none) {t : Track}
    {failed : Bool} (hq : ((s.handed b).putPos b ((s.bay b).pos.recorded x)).actOnSample b x =
      ((s.handed b).putPos b q).enterFollowing b t x failed) :
    exec (.servoSample b w) s = .next ((s.handed b).putPos b (q.follows t x s.dmt.writeThreshold)) := by
  have hbay := State.handed_bay s b b
  have hvisits : (((s.handed b).putPos b q).enterFollowing b t x failed).visiting b = false := by
    rw [State.enterFollowing_put _ b q hh]
    exact (State.putPos_visiting ..).trans hv
  rw [exec_servoSample_acts h hp hx hq hvisits]
  exact State.conclude_follows (h.handed b) (by rw [hbay]; exact hj) (by rw [hbay]; exact hs) (by rw [hbay]; exact hw) hh t x failed

theorem Positioner.countWith_eq (q : Positioner) (x : Sample) (row : SeekRow) :
    q.countWith x row = if x.valid = true ∧ x.pes.natAbs ≤ row.window then q.settleCount + 1 else 0 :=
  if_congr (by simp) rfl rfl

end Sys2Proof.Machine

namespace Sys2Proof
open Machine

/-- Settles O42: the sample is recorded, and what it does further is one lemma for each state of the Positioner. -/
theorem servoSampleActsByState : Obligations.ServoSampleActsByState := by
  intro b w s hp p x recorded with_ corrected
  refine ⟨fun hdead => exec_servoSample_dead hp w hdead, fun h hv => ?_⟩
  have hmoves : ∀ q, ((s.handed b).putPos b (p.recorded x)).actOnSample b x = (s.handed b).putPos b q →
      exec (.servoSample b w) s = .next (with_ q) := fun q hq => exec_servoSample_moves h hp hv rfl hq
  refine ⟨fun hs => ?_, fun hs hx => ?_, fun hs hx => ?_, fun hs hc => ?_, fun hs hc => ?_, fun t hs ht hx hc => ?_,
    fun t hs ht hx hc => ?_, fun hs hx => ?_, fun t row hs ht hr hx => ?_, fun t hs ht hx hc => ?_, fun t hs ht hx hc hw => ?_,
    fun t hs ht hx hi => ?_⟩
  · exact hmoves _ (State.actOnSample_unloaded (q := p.recorded x) hs)
  · refine hmoves _ ?_
    rw [State.actOnSample_loading (q := p.recorded x) hs, State.loadingSample_put (q := p.recorded x), if_neg (by simp [hx])]
    rfl
  · refine hmoves _ ?_
    rw [State.actOnSample_loading (q := p.recorded x) hs, State.loadingSample_put (q := p.recorded x), if_pos hx]
    rfl
  · intro counts gathered sum
    have hact : ((s.handed b).putPos b (p.recorded x)).actOnSample b x = ((s.handed b).putPos b (p.recorded x)).gainSample b x := by
      rw [State.actOnSample_calibrating (q := p.recorded x) hs, if_neg (by simp [Positioner.recorded, hc])]
    have hgathered : p.calibration.gatheredWith x.forGain = gathered := p.calibration.gatheredWith_forGain x
    have hsum : p.calibration.sumWith x.forGain x.sum = sum := p.calibration.sumWith_forGain x _
    rw [← hgathered, ← hsum]
    refine ⟨fun hg hf => hmoves _ ?_, fun hg hm => hmoves _ ?_⟩
    · rw [hact, State.gainSample_counts (q := p.recorded x) hg hf]
      rfl
    · rw [hact, State.gainSample_gains (q := p.recorded x) hg hm]
      rfl
  · intro gathered sum
    have hact : ((s.handed b).putPos b (p.recorded x)).actOnSample b x = ((s.handed b).putPos b (p.recorded x)).biasSample b x := by
      rw [State.actOnSample_calibrating (q := p.recorded x) hs, if_pos (by simp [Positioner.recorded, hc])]
    refine ⟨fun hg hf => hmoves _ ?_, fun row hg hm hreload hheld hwaiter hrow => hmoves _ ?_⟩
    · rw [hact, State.biasSample_counts (q := p.recorded x) hg hf]
      rfl
    · rw [hact, State.biasSample_gains (q := p.recorded x) hg hm]
      exact State.closingSeek_returns hreload hheld (by simpa) hwaiter hrow
  · refine hmoves _ ?_
    rw [State.actOnSample_seeking (q := p.recorded x) hs, State.seekingSample_put (q := p.recorded x) ht, if_pos hx, if_pos hc,
      Positioner.corrected_valid hx]
    rfl
  · refine hmoves _ ?_
    rw [State.actOnSample_seeking (q := p.recorded x) hs, State.seekingSample_put (q := p.recorded x) ht, if_pos hx, if_neg hc,
      towards_ne hc]
    rfl
  · refine hmoves _ ?_
    rcases hs with hs | hs
    · rw [State.actOnSample_seeking (q := p.recorded x) hs, State.seekingSample_invalid hx]
      rfl
    · rw [State.actOnSample_recalibrating (q := p.recorded x) hs, if_neg (by simp [hx])]
      rfl
  · intro count counted
    have hact := (State.actOnSample_settling (s := s.handed b) (b := b) (x := x) (q := p.recorded x) hs).trans
      (State.settlingSample_put (q := p.recorded x) ht hr hx)
    have hcount : (p.recorded x).countWith x row = count := (p.recorded x).countWith_eq x row
    have hcounted : (p.recorded x).settled x row = counted := by
      rw [Positioner.settled, hcount]
      rfl
    rw [hcount, hcounted] at hact
    refine ⟨fun hless => hmoves _ ?_, fun hvalid hreach hj hslot hwake hheld => ?_⟩
    · rw [hact, if_neg (by omega)]
      cases hvalid : x.valid
      · rw [Positioner.corrected_invalid hvalid, if_neg (by simp)]
      · rw [Positioner.corrected_valid hvalid, if_pos rfl]
    · rw [if_pos hreach, Positioner.corrected_valid hvalid] at hact
      refine (exec_servoSample_follows h hp hv rfl hj hslot hwake (q := corrected counted) hheld hact).trans ?_
      rw [Positioner.follows, Sample.onTrack_valid hvalid (hx hvalid)]
      simp only [with_, corrected, counted, recorded, hvalid, if_true, ht]
      rfl
  · refine hmoves _ ?_
    rw [State.actOnSample_following (q := p.recorded x) hs,
      State.followingSample_put (q := p.recorded x) ht (fun _ hne => absurd hc hne) (by simp [hx]), Positioner.corrected_valid hx,
      Sample.onTrack_valid hx hc]
    simp only [hx, hc, bne_self_eq_false, Bool.and_false, Bool.false_eq_true, if_false, if_true]
    rfl
  · refine hmoves _ ?_
    rw [State.actOnSample_following (q := p.recorded x) hs,
      State.followingSample_put (q := p.recorded x) ht (fun _ _ => hw) (by simp [hx]), Positioner.corrected_valid hx,
      Sample.onTrack_wrong hc, if_pos (by simp [hx, hc]), if_pos hx]
    rfl
  · refine hmoves _ ?_
    rw [State.actOnSample_following (q := p.recorded x) hs,
      State.followingSample_put (q := p.recorded x) ht (by simp [hx]) (fun _ => hi), Positioner.corrected_invalid hx,
      Sample.onTrack_invalid hx, if_neg (by simp [hx]), if_neg (by simp [hx])]
    rfl

end Sys2Proof

/-! The first failure of a load attempt, of a seek and of a recalibration, and what follows it (O43). -/

namespace Sys2Proof.Machine

/-! ## The heads retreat for a retry of their own (R71, R73, R79) -/

/-- A Positioner sent to unload for a retry of its own, its orders left open. -/
def Positioner.leaving (q : Positioner) (again : Again) : Positioner := { q with
  state := .unloading, target := none, calibrated := false, onTrack := false, loadTimer := none, seekTimer := none
  recalTimer := none, unloadTimer := some 300000, driveDir := .outward, driveMag := 4, again := again }

/-- A Positioner that begins a recalibration as its one retry (R78, R79). -/
def Positioner.recalibrating (q : Positioner) : Positioner := { q with
  retryUsed := true, state := .recalibrating, recalTimer := some 100000, seekTimer := none, onTrack := false
  driveDir := .outward, driveMag := 1 }

theorem State.putPos_self (s : State) (b : BayId) : s.putPos b (s.bay b).pos = s := s.modBay_same b _ rfl

/-- Heads that retreat to a park sensor that does not read parked end the event of a resting bay. -/
theorem State.conclude_leaving {s : State} (h : s.calm) {b : BayId} (hr : s.bayRests b = true) {q : Positioner}
    (hp : q.parked = false) : ((s.putPos b q).tell (.poke b)).conclude = .next (s.putPos b q) :=
  State.conclude_newPos h hr (by simp [Positioner.rests, hp]) rfl

section
variable {s : State} {b : BayId} {q : Positioner} {x : Sample}

section
variable (hv : s.visiting b = false) (hw : s.chan.waiter ≠ some b)
include hv hw

/-- The first load attempt fails (R71, R73). -/
theorem State.loadFails_first (ha : q.loadAttempts < 2) (d : ActDetail) :
    (s.putPos b q).loadFails b d = (s.putPos b (q.leaving .secondLoad)).tell (.poke b) := by
  simp only [State.loadFails, State.putPos_bay]
  rw [if_pos (by exact ha), State.enterUnloading_own _ b _ (by simpa) (by simpa)]
  exact congrArg (State.tell · _) (State.modPos_put s b q fun q => q.leaving .secondLoad)

/-- A recalibration fails before the reload (R79). -/
theorem State.recalibrationFails_first (hu : q.reloadUsed = false) : (s.putPos b q).recalibrationFails b =
    (s.putPos b { q.leaving .reload with reloadUsed := true, reloadTarget := q.target }).tell (.poke b) := by
  simp only [State.recalibrationFails, State.putPos_bay]
  rw [if_neg (by simp [hu]), State.enterUnloading_own _ b _ (by simpa) (by simpa)]
  exact congrArg (State.tell · _)
    (State.modPos_put s b q fun r => { r.leaving .reload with reloadUsed := true, reloadTarget := q.target })

/-- The entry to RECALIBRATING of heads in no visit (R79). -/
theorem State.enterRecalibrating_put (givingUp : Bool) : (s.putPos b q).enterRecalibrating b givingUp =
    s.putPos b { q with
      state := .recalibrating, recalTimer := some 100000, seekTimer := none, onTrack := false, driveDir := .outward
      driveMag := 1, givingUp := givingUp } := by
  rw [State.enterRecalibrating, State.leaveTrack_idle _ b (by simpa) (by simpa), State.modPos_put]
  rfl

/-- A seek fails (R78): the first time it is to be tried again, the second time given up. -/
theorem State.seekFailure_put (cause : SeekCause) : (s.putPos b q).seekFailure b cause =
    s.putPos b { q.recalibrating with lastCause := cause, givingUp := q.retryUsed } := by
  simp only [State.seekFailure, State.putPos_bay, State.modPos_put]
  exact State.enterRecalibrating_put hv hw _

/-- The sample that ends a calibration phase without a result fails the load attempt (R72, R73). -/
theorem State.gainSample_fails (ha : q.loadAttempts < 2)
    (hf : q.calibration.gatheredWith x.forGain = 8 ∧ (q.calibration.sumWith x.forGain x.sum).toNat / 8 < 6 ∨
      q.calibration.gatheredWith x.forGain ≠ 8 ∧ 64 ≤ q.calibration.fields + 1) :
    (s.putPos b q).gainSample b x = (s.putPos b (q.leaving .secondLoad)).tell (.poke b) := by
  rw [← State.loadFails_first hv hw ha .noServo]
  simp only [State.gainSample, State.putPos_bay]
  rcases hf with ⟨hg, hm⟩ | ⟨hg, hf⟩
  · have hnone : gainFor ((q.calibration.sumWith x.forGain x.sum).toNat / 8) = none := if_pos hm
    rw [if_pos (by exact hg)]
    split
    next g hg => exact absurd (hnone.symm.trans hg) nofun
    next => rfl
  · rw [if_neg (by exact hg), if_pos (by exact hf)]

theorem State.biasSample_fails (ha : q.loadAttempts < 2)
    (hf : q.calibration.gatheredWith x.valid = 8 ∧ 32 < (Int.tdiv (q.calibration.sumWith x.valid x.rawPes) 8).natAbs ∨
      q.calibration.gatheredWith x.valid ≠ 8 ∧ 64 ≤ q.calibration.fields + 1) :
    (s.putPos b q).biasSample b x = (s.putPos b (q.leaving .secondLoad)).tell (.poke b) := by
  simp only [State.biasSample, State.putPos_bay]
  rcases hf with ⟨hg, hm⟩ | ⟨hg, hf⟩
  · rw [if_pos (by exact hg), if_neg (by exact Nat.not_le.2 hm), State.loadFails_first hv hw ha]
  · rw [if_neg (by exact hg), if_pos (by exact hf), State.loadFails_first hv hw ha]

/-- A valid sample of another track in SETTLING fails the seek (R77, R80; notes/assumptions/35.md). -/
theorem State.settlingSample_wrong {t : Track} {row : SeekRow} (ht : q.target = some t) (hr : q.row = some row)
    (hx : x.valid = true) (hc : x.track ≠ t.cyl) : (s.putPos b q).settlingSample b x =
      s.putPos b { q.recalibrating with
        lastCause := .trackMismatch, givingUp := q.retryUsed, wrongRun := min 2 (q.wrongRun + 1), invalidRun := 0 } := by
  have hwrong : (x.track != t.cyl) = true := by simpa
  simp only [State.settlingSample, State.putPos_bay, ht, hr, hx, hwrong, Bool.and_true, if_true, Positioner.settlingRuns,
    State.modPos_put]
  rw [State.seekFailure_put hv hw, ← ht, ← hr]
  rfl

/-- A seek from heads in no visit (R75, R76). -/
theorem State.startSeek_put {t : Track} {row : SeekRow}
    (hrow : s.profile.find? (fun r => decide (q.distance t ≤ r.bound)) = some row) :
    (s.putPos b q).startSeek b t = s.putPos b { q with
      state := .seeking, target := some t, head := t.head, row := some row, seekTimer := some (row.timeout * 1000)
      settleCount := 0, onTrack := false, driveDir := towards q.current t.cyl, driveMag := row.velocity } := by
  rw [State.startSeek_eq _ b t row (State.leaveTrack_idle _ b (by simpa) (by simpa))
    (by rw [State.putPos_profile, State.putPos_bay]; exact hrow), State.modPos_put]

/-- OFF_CYLINDER in FOLLOWING (R80). -/
theorem State.followingSample_off {t : Track} {row : SeekRow} (ht : q.target = some t) (hx : x.valid = true)
    (hc : x.track ≠ t.cyl) (hrun : 2 ≤ q.wrongRun + 1)
    (hrow : s.profile.find? (fun r => decide (q.distance t ≤ r.bound)) = some row) :
    (s.putPos b q).followingSample b x = (s.putPos b { q with
      wrongRun := q.wrongRun + 1, invalidRun := 0, retryUsed := true, reloadUsed := false, seekFor := .regain
      givingUp := false, state := .seeking, target := some t, head := t.head, row := some row
      seekTimer := some (row.timeout * 1000), settleCount := 0, onTrack := false, driveDir := towards q.current t.cyl
      driveMag := row.velocity }).tell (.trackLost b) := by
  have hwrong : (x.valid && x.track != t.cyl) = true := by simp [hx, hc]
  simp only [State.followingSample, State.putPos_bay, ht, hwrong, if_true, State.modPos_put, Positioner.corrected_valid hx]
  rw [if_pos hrun]
  simp only [State.offCylinder, State.putPos_bay, State.modPos_put, Option.getD_some]
  rw [State.startSeek_put hv hw (by exact hrow)]
  simp only [hx, if_true]

/-- LOST_SERVO in FOLLOWING (R81). -/
theorem State.followingSample_lost {t : Track} (ht : q.target = some t) (hx : x.valid = false)
    (hrun : 4 ≤ q.invalidRun + 1) : (s.putPos b q).followingSample b x = (s.putPos b { q.recalibrating with
      wrongRun := 0, invalidRun := q.invalidRun + 1, reloadUsed := false, seekFor := .regain, givingUp := false }).tell
        (.trackLost b) := by
  simp only [State.followingSample, State.putPos_bay, ht, hx, Bool.false_and, Bool.false_eq_true, if_false, State.modPos_put,
    Positioner.corrected_invalid hx]
  rw [if_neg (by omega), if_pos hrun]
  simp only [State.lostServo, State.modPos_put]
  rw [State.enterRecalibrating_put hv hw, ← ht]
  rfl

end

/-- The loss of the track sends an operation at it to wait for it again (R80, R81). -/
theorem State.conclude_trackLost (h : s.calm) (q : Positioner) : ((s.putPos b q).tell (.trackLost b)).conclude =
    .next (s.modBay b fun z => { z with
      pos := q, job := z.job.map fun j => if j.stage = .atTrack then { j with stage := .regain } else j }) := by
  have hput := State.putPos_calm h b q
  refine State.conclude_msgs _ _ ⟨hput.1.1, hput.1.2⟩ ?_ (s.calm_modBay b _ h rfl)
  show settle (399 + 1) _ = _
  rw [settle_cons 399 _ (.trackLost b) [] (by simp [State.tell, h.2.1.1])]
  have hdelivered : ∀ u : State, u.signals = [] → ({ u.tell (.trackLost b) with signals := [] } : State).deliver (.trackLost b) =
      u.modJob b fun j => if j.stage = .atTrack then { j with stage := .regain } else j := by
    intro u hu
    rw [← State.signals_same u hu]
    rfl
  rw [hdelivered _ hput.2.1.1, State.modJob, settle_nil _ _ ((State.modBay_signals ..).trans hput.2.1.1)]
  exact s.modBay_modBay b _ _

end

end Sys2Proof.Machine

namespace Sys2Proof.Machine

section
variable {s : State} (h : s.calm) {b : BayId} (hp : s.bayPresent b = true)
include h hp

theorem exec_loadTimerExpiry (ht : (s.bay b).pos.loadTimer.isSome = true) (hs : (s.bay b).pos.state = .loading) :
    exec (.loadTimerExpiry b) s = (s.loadFails b .load).conclude :=
  (s.bayAct_taken b (fun s => if (s.bay b).pos.loadTimer.isSome && (s.bay b).pos.state == .loading then s.loadFails b .load else s)
    (s.bayLive_of b h.1 hp) h.1.2).trans (congrArg State.conclude (if_pos (by simp [ht, hs])))

theorem exec_seekTimerExpiry (ht : (s.bay b).pos.seekTimer.isSome = true)
    (hs : (s.bay b).pos.state = .seeking ∨ (s.bay b).pos.state = .settling) :
    exec (.seekTimerExpiry b) s = (s.seekFailure b .seekTimeout).conclude :=
  (s.bayAct_taken b (fun s =>
      if (s.bay b).pos.seekTimer.isSome && ((s.bay b).pos.state == .seeking || (s.bay b).pos.state == .settling)
      then s.seekFailure b .seekTimeout else s)
    (s.bayLive_of b h.1 hp) h.1.2).trans (congrArg State.conclude (if_pos (by simpa [ht] using hs)))

theorem exec_recalibrateTimerExpiry (ht : (s.bay b).pos.recalTimer.isSome = true) :
    exec (.recalibrateTimerExpiry b) s = (s.recalibrationFails b).conclude :=
  (s.bayAct_taken b (fun s => if (s.bay b).pos.recalTimer.isSome then s.recalibrationFails b else s)
    (s.bayLive_of b h.1 hp) h.1.2).trans (congrArg State.conclude (if_pos ht))

end

/-- A valid sample gives the cylinder from which a seek starts (R69, R76). -/
theorem Positioner.recorded_towards {x : Sample} (hx : x.valid = true) (p : Positioner) (cyl : Nat) :
    towards (p.recorded x).current cyl = towards x.track cyl :=
  congrArg (towards · cyl) (if_pos hx)

section
variable {s : State} {b : BayId} {q : Positioner} {x : Sample}

/-- The first valid sample of RECALIBRATING ends it with another seek of the target (R79). -/
theorem State.recalibrated_seeks (hv : s.visiting b = false) (hw : s.chan.waiter ≠ some b) {t : Track} {row : SeekRow}
    (hg : q.givingUp = false) (ht : q.target = some t)
    (hrow : s.profile.find? (fun r => decide (q.distance t ≤ r.bound)) = some row) :
    (s.putPos b q).recalibrated b x = s.putPos b { q with
      recalTimer := none, state := .seeking, target := some t, head := t.head, row := some row
      seekTimer := some (row.timeout * 1000), settleCount := 0, onTrack := false, driveDir := towards q.current t.cyl
      driveMag := row.velocity } := by
  simp only [State.recalibrated, State.putPos_bay, hg, Bool.false_eq_true, if_false, ht, Option.getD_some, State.modPos_put]
  rw [State.startSeek_put hv hw (by exact hrow)]

/-- The first valid sample of RECALIBRATING gives the seek up where the heads are (R78). -/
theorem State.recalibrated_gives_up (hg : q.givingUp = true) : (s.putPos b q).recalibrated b x =
    (s.putPos b (({ q with recalTimer := none } : Positioner).corrected x)).enterFollowing b
      { cyl := x.track, head := q.head } x true := by
  simp only [State.recalibrated, State.putPos_bay, hg, if_true, State.modPos_put]

end

end Sys2Proof.Machine

namespace Sys2Proof
open Machine

/-- Settles O43: each failure is one lemma about the Positioner, and none of them calls the bay's own work to go on. -/
theorem positionerRetriesOnce : Obligations.PositionerRetriesOnce := by
  intro b s h hp hv hw hparked p leaving recalibrating
  refine ⟨fun hr => ⟨fun ht hs ha => ?_, fun ht hu => ?_⟩, fun ht hs => ?_, ?_⟩
  · have hfails := State.loadFails_first (q := p) hv hw ha .load
    rw [State.putPos_self] at hfails
    rw [exec_loadTimerExpiry h hp ht hs, hfails]
    exact State.conclude_leaving h hr hparked
  · have hfails := State.recalibrationFails_first (q := p) hv hw hu
    rw [State.putPos_self] at hfails
    rw [exec_recalibrateTimerExpiry h hp ht, hfails]
    exact State.conclude_leaving h hr hparked
  · have hfails := State.seekFailure_put (q := p) hv hw .seekTimeout
    rw [State.putPos_self] at hfails
    rw [exec_seekTimerExpiry h hp ht hs, hfails]
    exact State.conclude_putPos h b _
  intro w x recorded from_ with_ corrected astray reseek
  have hvisits : (s.handed b).visiting b = false := hv
  have hwaits : (s.handed b).chan.waiter ≠ some b := hw
  have hmoves : ∀ q, ((s.handed b).putPos b (p.recorded x)).actOnSample b x = (s.handed b).putPos b q →
      exec (.servoSample b w) s = .next (with_ q) := fun q hq => exec_servoSample_moves h hp hv rfl hq
  have hlost : ∀ q, ((s.handed b).putPos b (p.recorded x)).actOnSample b x = ((s.handed b).putPos b q).tell (.trackLost b) →
      exec (.servoSample b w) s = .next (astray q) := fun q hq => by
    rw [exec_servoSample_acts h hp rfl hq ((State.putPos_visiting ..).trans hvisits)]
    exact State.conclude_trackLost (h.handed b) q
  refine ⟨fun hr hs ha => ?_, fun t row hs ht hrow hx hc => ?_, fun t row hs hx hg ht hrow => ?_,
    fun hs hx hg hj hslot hwake hheld => ?_, fun t row hs ht hx hc hrun hrow => ?_, fun t hs ht hx hrun => ?_⟩
  · intro c forGain counts gathered sum
    have hleaves : ((s.handed b).putPos b (p.recorded x)).actOnSample b x =
          ((s.handed b).putPos b ((p.recorded x).leaving .secondLoad)).tell (.poke b) →
        exec (.servoSample b w) s = .next (with_ (leaving .secondLoad recorded)) := fun hq => by
      rw [exec_servoSample_acts h hp rfl hq ((State.putPos_visiting ..).trans hvisits)]
      exact State.conclude_leaving (h.handed b) hr hparked
    have hsteps := State.actOnSample_calibrating (s := s.handed b) (b := b) (x := x) (q := p.recorded x) hs
    by_cases hphase : c.biasPhase = true
    · have hact := hsteps.trans (if_pos hphase)
      have hgathered : c.gatheredWith x.valid = gathered := by simp only [gathered, counts, hphase, if_true]; rfl
      have hsum : c.sumWith x.valid x.rawPes = sum := by simp only [sum, hphase, if_true]; rfl
      rw [if_pos hphase, ← hgathered, ← hsum]
      exact ⟨fun hg hm => hleaves (hact.trans (State.biasSample_fails hvisits hwaits ha (.inl ⟨hg, hm⟩))),
        fun hg hf => hleaves (hact.trans (State.biasSample_fails hvisits hwaits ha (.inr ⟨hg, hf⟩)))⟩
    · have hact := hsteps.trans (if_neg hphase)
      have hgathered : c.gatheredWith x.forGain = gathered := by
        simp only [gathered, counts, hphase, Bool.false_eq_true, if_false]
        exact c.gatheredWith_forGain x
      have hsum : c.sumWith x.forGain x.sum = sum := by
        simp only [sum, hphase, Bool.false_eq_true, if_false]
        exact c.sumWith_forGain x _
      rw [if_neg hphase, ← hgathered, ← hsum]
      exact ⟨fun hg hm => hleaves (hact.trans (State.gainSample_fails hvisits hwaits ha (.inl ⟨hg, hm⟩))),
        fun hg hf => hleaves (hact.trans (State.gainSample_fails hvisits hwaits ha (.inr ⟨hg, hf⟩)))⟩
  · refine hmoves _ ?_
    rw [State.actOnSample_settling (q := p.recorded x) hs,
      State.settlingSample_wrong (q := p.recorded x) hvisits hwaits ht hrow hx hc]
    rfl
  · refine hmoves _ ?_
    rw [State.actOnSample_recalibrating (q := p.recorded x) hs, if_pos hx,
      State.recalibrated_seeks (q := p.recorded x) hvisits hwaits hg ht hrow, Positioner.recorded_towards hx]
    rfl
  · have hact := (State.actOnSample_recalibrating (s := s.handed b) (b := b) (x := x) (q := p.recorded x) hs).trans
      ((if_pos hx).trans (State.recalibrated_gives_up (q := p.recorded x) hg))
    rw [Positioner.corrected_valid hx] at hact
    refine (exec_servoSample_follows h hp hv rfl hj hslot hwake (q := corrected { recorded with recalTimer := none }) hheld
      hact).trans ?_
    rw [Positioner.follows, Sample.onTrack_valid hx rfl]
    rfl
  · refine hlost _ ?_
    rw [State.actOnSample_following (q := p.recorded x) hs,
      State.followingSample_off (q := p.recorded x) hvisits hwaits ht hx hc hrun hrow, Positioner.recorded_towards hx]
    rfl
  · refine hlost _ ?_
    rw [State.actOnSample_following (q := p.recorded x) hs, State.followingSample_lost (q := p.recorded x) hvisits hwaits ht hx hrun]
    rfl

end Sys2Proof

/-! Data fields move the record and end a mount, a flush or a command (O54). -/

namespace Sys2Proof.Machine

/-! ## What an event of the Data Channel moves -/

/-- What an event of a bay's sector operation moves: the buffer slots, the Data Channel, the Link Interface, the bay, and the messages
left to deliver. -/
structure Moves where
  slots : List SlotRec
  chan : Channel
  link : Link
  bay : Bay
  signals : List Signal

/-- The part with these in place. -/
def State.moved (s : State) (b : BayId) (x : Moves) : State :=
  { s.modBay b fun _ => x.bay with slots := x.slots, chan := x.chan, link := x.link, signals := x.signals }

/-- These of a part as it stands. -/
def State.moves (s : State) (b : BayId) : Moves := ⟨s.slots, s.chan, s.link, s.bay b, s.signals⟩

theorem State.moved_self (s : State) (b : BayId) : s.moved b (s.moves b) = s := by cases b <;> rfl

/-- An end of an event without messages, written as a change of the bay. -/
theorem State.moved_eq (s : State) (b : BayId) (x : Moves) (h : x.signals = s.signals) (f : Bay → Bay) (hf : x.bay = f (s.bay b)) :
    s.moved b x = ({ s with slots := x.slots, chan := x.chan, link := x.link } : State).modBay b f := by
  obtain ⟨slots, chan, link, bay, signals⟩ := x
  cases h
  cases hf
  cases b <;> rfl

/-- The same with the parts that changed named. -/
theorem State.moved_put {s : State} {b : BayId} {x : Moves} {slots : List SlotRec} {chan : Channel} {link : Link} {f : Bay → Bay}
    (hm : x.signals = s.signals) (hs : x.slots = slots) (hc : x.chan = chan) (hl : x.link = link) (hf : x.bay = f (s.bay b)) :
    s.moved b x = ({ s with slots, chan, link } : State).modBay b f := by
  rw [State.moved_eq s b x hm f hf, hs, hc, hl]

theorem State.moved_visit {s : State} {b : BayId} {x : Moves} {slots : List SlotRec} {chan : Channel} {f : Bay → Bay}
    (hm : x.signals = s.signals) (hl : x.link = s.link) (hs : x.slots = slots) (hc : x.chan = chan) (hf : x.bay = f (s.bay b)) :
    s.moved b x = ({ s with slots, chan } : State).modBay b f :=
  State.moved_put hm hs hc hl hf

section
variable (s : State) (b : BayId) (x : Moves)

@[simp] theorem State.moved_bay : (s.moved b x).bay b = x.bay := by cases b <;> rfl
@[simp] theorem State.moved_slots : (s.moved b x).slots = x.slots := rfl
@[simp] theorem State.moved_chan : (s.moved b x).chan = x.chan := rfl
@[simp] theorem State.moved_link : (s.moved b x).link = x.link := rfl
@[simp] theorem State.moved_signals : (s.moved b x).signals = x.signals := rfl
@[simp] theorem State.moved_dmt : (s.moved b x).dmt = s.dmt := by cases b <;> rfl
@[simp] theorem State.moved_profile : (s.moved b x).profile = s.profile := by cases b <;> rfl
@[simp] theorem State.moved_staging : (s.moved b x).staging = s.staging := by cases b <;> rfl
@[simp] theorem State.moved_modBay (f : Bay → Bay) : (s.moved b x).modBay b f = s.moved b { x with bay := f x.bay } := by
  cases b <;> rfl
@[simp] theorem State.moved_modChan (f : Channel → Channel) :
    (s.moved b x).modChan f = s.moved b { x with chan := f x.chan } := rfl
@[simp] theorem State.moved_modLink (f : Link → Link) : (s.moved b x).modLink f = s.moved b { x with link := f x.link } := rfl
@[simp] theorem State.moved_tell (m : Signal) : (s.moved b x).tell m = s.moved b { x with signals := x.signals ++ [m] } := rfl
@[simp] theorem State.moved_slotRec (k : Nat) : (s.moved b x).slotRec k = x.slots.getD k SlotRec.free := rfl
@[simp] theorem State.moved_modSlot (k : Nat) (f : SlotRec → SlotRec) :
    (s.moved b x).modSlot k f = s.moved b { x with slots := x.slots.set k (f (x.slots.getD k SlotRec.free)) } := rfl
@[simp] theorem State.moved_freeWhere (p : SlotRec → Bool) : (s.moved b x).freeWhere b p =
    s.moved b { x with slots := x.slots.map fun r => if r.owner == some b && p r then SlotRec.free else r } := rfl
@[simp] theorem State.moved_withSignals (l : List Signal) :
    ({ s.moved b x with signals := l } : State) = s.moved b { x with signals := l } := rfl

theorem State.moved_running {s : State} {b : BayId} (x : Moves) (h : s.running) : (s.moved b x).running := by
  cases b <;> exact h

/-- Such a part is calm where its link carries on as it did and the bay's class is that of its mode. -/
theorem State.moved_calm {s : State} (h : s.calm) (hs : x.signals = []) (hl : ∃ queue reservations inFrame, x.link =
      { s.link with queue, reservations, inFrame })
    (hp : x.bay.power.readiness = x.bay.power.mode.readiness) : (s.moved b x).calm := by
  obtain ⟨queue, reservations, inFrame, hl⟩ := hl
  refine State.calm_of h (by cases b <;> rfl) (by cases b <;> rfl) ?_ ?_ ?_ ?_ ?_ fun b' => ?_
  · exact hs.trans h.2.1.1.symm
  any_goals rw [State.moved_link, hl]
  have hclass := h.2.1.class b'
  cases b <;> cases b' <;> assumption

/-! ## The messages of such an event -/

theorem settle_moved (n : Nat) (m : Signal) (l : List Signal) :
    settle (n + 1) (s.moved b { x with signals := m :: l }) = settle n ((s.moved b { x with signals := l }).deliver m) :=
  settle_cons n _ m l rfl

end

end Sys2Proof.Machine

namespace Sys2Proof.Machine

/-! ## A data field has passed (R122, R123, R125) -/

/-- The bay with its recovered count raised by a sector that asks for it (R188). -/
def Bay.counted (y : Bay) (again : Bool) : Bay := { y with
  sense := { y.sense with recovered := if again = true then min 65535 (y.sense.recovered + 1) else y.sense.recovered } }

theorem Bay.counted_eq (y : Bay) (again : Bool) : y.counted again =
    if again = true then { y with sense := { y.sense with recovered := min 65535 (y.sense.recovered + 1) } } else y := by
  cases again <;> rfl

/-- A sector operation whose data field was read and not delivered. -/
def Job.unread (j : Job) : Job := { j with fieldRead := true, tries := j.tries + 1 }

/-- The visit between two sectors. -/
def Channel.between (c : Channel) : Channel := { c with visit := c.visit.map fun v => { v with phase := .between } }

/-- A data field that is read is classed by the decoder. -/
theorem exec_dataFieldRead {s : State} (h : s.calm) {v : Visit} {j : Job} (hv : s.chan.visit = some v)
    (hj : (s.bay v.bay).job = some j) (hp : v.phase = .reading) (data : List Byte) (check : BitVec 48) :
    exec (.dataFieldRead data check) s =
      (s.fieldClassed v.bay j (decodeField { data, check }).1 (decodeField { data, check }).2).conclude := by
  show execDataFieldRead data check s = _
  rw [execDataFieldRead, State.visitEvent_taken s _ v j h.1 hv hj, if_pos hp]

theorem exec_dataFieldWritten {s : State} (h : s.calm) {v : Visit} {j : Job} (hv : s.chan.visit = some v)
    (hj : (s.bay v.bay).job = some j) (hp : v.phase = .writing) :
    exec .dataFieldWritten s = (s.fieldWritten v.bay j).conclude := by
  show execDataFieldWritten s = _
  rw [execDataFieldWritten, State.visitEvent_taken s _ v j h.1 hv hj, if_pos hp]

section
variable {s : State} {b : BayId} {x : Moves} {j : Job}

/-- The caps of a sector operation do not change while its field passes. -/
theorem State.jobCaps_moved (y : Moves) (hm : y.bay.cart.mountCaps = x.bay.cart.mountCaps) (hf : y.bay.flush = x.bay.flush)
    (hs : y.bay.slot = x.bay.slot) (j : Job) : (s.moved b y).jobCaps b j = (s.moved b x).jobCaps b j := by
  simp only [State.jobCaps, State.moved_bay, State.moved_dmt, hm, hf, hs]

theorem State.jobTries_moved (hm : x.bay.cart.mountCaps = (s.bay b).cart.mountCaps) (hf : x.bay.flush = (s.bay b).flush)
    (hs : x.bay.slot = (s.bay b).slot) {j' : Job} (hk : j'.kind = j.kind) : (s.moved b x).jobTries b j' = s.jobTries b j := by
  simp only [State.jobTries, State.jobCaps, State.moved_bay, State.moved_dmt, hm, hf, hs, hk]

theorem State.countRecovered_moved (again : Bool) :
    (if again = true then (s.moved b x).countRecovered b else s.moved b x) = s.moved b { x with bay := x.bay.counted again } := by
  cases again
  · rfl
  · simp [State.countRecovered, Bay.counted]

/-- The channel has finished with the sector in hand. -/
theorem State.endSector_moved (m : Signal) : (s.moved b x).endSector b m =
    s.moved b { x with chan := x.chan.between, signals := x.signals ++ [m, .poke b] } := by
  simp [State.endSector, State.modVisit, Channel.between]

/-- The part once the data field of a sector operation has been read and delivered into its slot. -/
def Moves.delivered (x : Moves) (b : BayId) (j : Job) (k : Nat) (ecc : EccClass) (data : List Byte)
    (r : SectorResult) : Moves := { x with
  slots := x.slots.set k { x.slots.getD k SlotRec.free with state := .full, ecc := some ecc, data }
  chan := { x.chan with decoder := some ecc }.between
  bay := { x.bay with job := some { j with fieldRead := true } }.counted (decide (0 < j.tries) || eccCorrectable ecc)
  signals := x.signals ++ [.sector b r, .poke b] }

/-- A data field that the correction span delivers. -/
theorem State.fieldClassed_delivers {ecc : EccClass} {data : List Byte} {k : Nat} (hj : x.bay.job = some j)
    (hc : j.kind ≠ .certRead) (hk : ∀ u : State, u.jobSlot b j = some k)
    (hd : eccDelivered ((s.moved b x).jobCaps b j).correctionSpan ecc = true) :
    (s.moved b x).fieldClassed b j ecc data =
      s.moved b (x.delivered b j k ecc data (eccResult ((s.moved b x).jobCaps b j).reportThreshold ecc)) := by
  simp only [State.fieldClassed, if_neg hc, State.moved_modChan, State.modJob, State.moved_modBay, hj, Option.map_some]
  rw [if_pos (by exact hd)]
  simp only [State.deliverSector, hk, State.moved_modSlot, State.countRecovered_moved, State.endSector_moved]
  rw [State.jobCaps_moved (x := x), Bool.or_comm]
  all_goals rfl

/-- A data field that the correction span does not deliver is a failed try. -/
theorem State.fieldClassed_fails {ecc : EccClass} {data : List Byte} (hj : x.bay.job = some j)
    (hc : j.kind ≠ .certRead) (hd : eccDelivered ((s.moved b x).jobCaps b j).correctionSpan ecc = false) :
    (s.moved b x).fieldClassed b j ecc data = (s.moved b { x with
      chan := { x.chan with decoder := some ecc }
      bay := { x.bay with job := some j.unread } }).afterFailedTry b := by
  simp only [State.fieldClassed, if_neg hc, State.moved_modChan, State.modJob, State.moved_modBay, hj, Option.map_some]
  rw [if_neg (by rw [show _ = _ from hd]; nofun)]
  simp [State.countTry, State.modJob, Job.unread]

/-- A failed try with another left is followed by another search, at which the sector is at a boundary (R123, R125). -/
theorem State.afterFailedTry_moved {v : Visit} (hv : x.chan.visit = some v) (hj : x.bay.job = some j) (hk : j.kind ≠ .formatTrack)
    (he : v.ending = false) (ht : j.tries < (s.moved b x).jobTries b j) : (s.moved b x).afterFailedTry b =
      (s.moved b { x with chan := { x.chan with
        visit := some { v with phase := .searching, search := 0 } } }).tell (.boundary b) :=
  State.afterFailedTry_again _ b v j hv (by rwa [State.moved_bay]) hk he ht

/-- The last try of a sector that has failed ends it (R123, R125). -/
theorem State.afterFailedTry_last (hj : x.bay.job = some j) (hk : j.kind ≠ .certRead)
    (ht : (s.moved b x).jobTries b j ≤ j.tries) :
    (s.moved b x).afterFailedTry b = (s.moved b x).endSector b (.sector b j.failure) := by
  simp [State.afterFailedTry, hj, ht, hk]

/-- The part once the data field of a sector operation has been written whole from its slot. -/
def Moves.written (x : Moves) (b : BayId) (j : Job) (k : Nat) : Moves := { x with
  slots := if (x.slots.getD k SlotRec.free).isRecordPart = true then
    x.slots.set k { x.slots.getD k SlotRec.free with state := .full } else x.slots
  chan := { x.chan with
    gate := false
    lastWritten := some (j.sector.addr, dataField (x.slots.getD k SlotRec.free).data) }.between
  bay := x.bay.counted (j.kind == .recordWrite && decide (0 < j.tries))
  signals := x.signals ++ [.sector b .good, .poke b] }

/-- A data field has been written whole. -/
theorem State.fieldWritten_moved {k : Nat} (hk : ∀ u : State, u.jobSlot b j = some k) :
    (s.moved b x).fieldWritten b j = s.moved b (x.written b j k) := by
  simp only [State.fieldWritten, State.moved_modChan, hk, Option.map_some, State.moved_slotRec, State.moved_modSlot]
  rw [← apply_ite (State.moved s b), State.countRecovered_moved, State.endSector_moved, Moves.written]
  split <;> rfl

end

end Sys2Proof.Machine

namespace Sys2Proof.Machine

/-! ## From one record sector to the next in the same visit (R94, R100, R120) -/

/-- The next record sector in the slots of the one in hand, as it is taken at the same track. -/
def Job.nextPart (j : Job) (n : Nat) : Job := { Job.start j.kind (recordSector (n + 1)) j.slots with stage := .atTrack }

/-- A poke of a bay whose record sector has its four slots, and its image once it writes, is the channel's step alone. -/
theorem State.goOn_record {u w : State} {b : BayId} {j : Job} (hj : (u.bay b).job = some j) (hslots : j.slots.length = 4)
    (hkind : j.kind = .recordRead ∨ j.kind = .recordWrite ∧ ∃ f, (u.bay b).flush = some f ∧ f.writing = true)
    (hpos : (u.bay b).pos.on systemTrack = true) (hf : u.link.inFrame = none) (he : (u.bay b).power.entry = none)
    (hc : (u.bay b).cart.state = .mounting ∨ (u.bay b).cart.state = .mounted) (hw : u.stepChannel b = w)
    (hbay : w.bay b = u.bay b) : u.goOn b = w := by
  have hfollowing : (u.bay b).pos.state = .following := by
    simp only [Positioner.on, Bool.and_eq_true, beq_iff_eq] at hpos
    exact hpos.1
  have hparked : u.stepParked b = u := by simp [State.stepParked, hfollowing]
  have hheld : u.stepHeld b = u := by simp [State.stepHeld, State.stepByte, hf]
  have hcommand : u.stepCommand b = u := by
    unfold State.stepCommand
    split
    · rfl
    · simp [hj]
  have hfill : State.fillSlots 4 u b = u := by
    have hneeded : j.kind.slotsNeeded = 4 := by rcases hkind with hk | ⟨hk, -⟩ <;> rw [hk] <;> rfl
    simp [State.fillSlots, hj, hneeded, hslots]
  have himage : ∀ n, u.buildImage b n = u := by
    intro n
    simp only [State.buildImage, hj, hslots]
    rcases hkind with hk | ⟨hk, f, hflush, hwriting⟩
    · simp [hk]
    · rw [hk, hflush]
      cases (u.bay b).tu.tables <;> simp [hwriting]
  have hstandby : w.stepStandby b = w := by simp [State.stepStandby, hbay, he]
  have hcart : w.stepCart b = w := by rcases hc with hc | hc <;> simp [State.stepCart, hbay, hc]
  unfold State.goOn
  simp only [hparked, hheld, hcommand, hfill, himage, hw, hstandby, hcart]

section
variable {s : State} {b : BayId} {x : Moves} {v : Visit} {j : Job}

/-- The next sector of a visit that is between two comes into hand (R120). -/
theorem State.stepChannel_takes (hv : x.chan.visit = some v) (hb : v.bay = b) (hj : x.bay.job = some j)
    (hp : v.phase = .between) (he : v.ending = false) (ht : v.track = j.sector.track) (hk : j.kind ≠ .formatTrack)
    (hready : (s.moved b x).jobReady b j = true) (htries : j.tries < (s.moved b x).jobTries b j) :
    (s.moved b x).stepChannel b = s.moved b { x with chan := { x.chan with
      visit := some { v with kind := j.kind, phase := .searching, search := 0 } } } := by
  rcases v
  subst hb hp he ht
  simp only [State.stepChannel, State.moved_chan, State.moved_bay, hv, hj, hready, htries, if_true, State.modVisit,
    State.moved_modChan]
  simp [hk]

theorem State.stepChannel_searching (hv : x.chan.visit = some v) (hb : v.bay = b) (hj : x.bay.job = some j)
    (hp : v.phase = .searching) : (s.moved b x).stepChannel b = s.moved b x := by
  simp [State.stepChannel, hv, hj, hb, hp]

theorem State.jobTries_pos (s : State) (b : BayId) (j : Job) : 0 < s.jobTries b j := by
  unfold State.jobTries
  split
  · exact Nat.one_pos
  · split <;> omega

/-- The next record sector is ready at once where its slots are held and the heads are on the track (R119). -/
theorem State.jobReady_nextPart {u : State} {n : Nat} (hn : n < 3) (hk : j.kind = .recordRead ∨ j.kind = .recordWrite)
    (hslots : j.slots.length = 4) (hpos : (u.bay b).pos.on systemTrack = true) : u.jobReady b (j.nextPart n) = true := by
  have hon : (u.bay b).pos.on (j.nextPart n).sector.track = true := hpos
  have hpart : (recordSector (n + 1)).part < 4 := Nat.add_lt_add_right hn 1
  simp only [State.jobReady, hon, Bool.and_true]
  rcases hk with hk | hk <;> simp [Job.nextPart, Job.start, hk, State.jobSlot, hslots, hpart]

/-- A record sector that was read, short of the last (R94). -/
theorem State.onSector_read {n : Nat} {r : SectorResult} (hj : x.bay.job = some j) (hk : j.kind = .recordRead)
    (hs : j.sector = recordSector n) (hn : n < 3) (hr : r = .good ∨ r = .recovered) : (s.moved b x).onSector b r =
      s.moved b { x with bay := { x.bay with job := some (j.nextPart n) }, signals := x.signals ++ [.poke b] } := by
  have hpart : j.sector.part = n := by rw [hs]; rfl
  have hmount : (s.moved b x).onSector b r = (s.moved b x).mountSector b j r := by
    simp [State.onSector, hj, hk]
  rw [hmount]
  rcases hr with rfl | rfl <;>
    simp only [State.mountSector, hpart, if_pos hn, State.setJob, State.moved_modBay, State.moved_tell, Job.nextPart, hk]

/-- A record sector that was written, short of the last, with its flush not stopped (R100). -/
theorem State.onSector_written {n : Nat} {f : Flush} (hj : x.bay.job = some j) (hk : j.kind = .recordWrite)
    (hs : j.sector = recordSector n) (hn : n < 3) (hf : x.bay.flush = some f) (hstop : x.bay.flushStopped f = false) :
    (s.moved b x).onSector b .good =
      s.moved b { x with bay := { x.bay with job := some (j.nextPart n) }, signals := x.signals ++ [.poke b] } := by
  have hpart : j.sector.part = n := by rw [hs]; rfl
  have hleft : ¬ 3 ≤ n := by omega
  have hflush : (s.moved b x).onSector b .good = (s.moved b x).flushSector b j .good := by
    simp [State.onSector, hj, hk]
  rw [hflush]
  simp only [State.flushSector, State.moved_bay, hf, hpart, if_neg hleft, hstop, Bool.false_eq_true, if_false, State.setJob,
    State.moved_modBay, State.moved_tell, Job.nextPart, hk]

/-- An event whose record sector ends short of the last: the next one is searched for in the same visit. -/
theorem State.conclude_nextPart {n : Nat} {r : SectorResult} (h : s.calm) (hlink : x.link = s.link)
    (hpower : x.bay.power = (s.bay b).power) (hm : x.signals = [.sector b r, .poke b]) (hv : x.chan.visit = some v) (hb : v.bay = b)
    (hp : v.phase = .between) (he : v.ending = false) (ht : v.track = systemTrack) (hslots : j.slots.length = 4) (hn : n < 3)
    (hkind : j.kind = .recordRead ∨ j.kind = .recordWrite ∧ ∃ f, x.bay.flush = some f ∧ f.writing = true)
    (hpos : x.bay.pos.on systemTrack = true) (hf : s.link.inFrame = none) (hentry : x.bay.power.entry = none)
    (hc : x.bay.cart.state = .mounting ∨ x.bay.cart.state = .mounted)
    (hon : ∀ l, (s.moved b { x with signals := l }).onSector b r =
      s.moved b { x with bay := { x.bay with job := some (j.nextPart n) }, signals := l ++ [.poke b] }) :
    (s.moved b x).conclude = .next (s.moved b { x with
      chan := { x.chan with visit := some { v with kind := j.kind, phase := .searching, search := 0 } }
      bay := { x.bay with job := some (j.nextPart n) }, signals := [] }) := by
  set y : Moves := { x with bay := { x.bay with job := some (j.nextPart n) } } with hy
  set z : Moves := { y with chan := { x.chan with
    visit := some { v with kind := j.kind, phase := .searching, search := 0 } } } with hz
  have hformat : j.kind ≠ .formatTrack := by rcases hkind with hk | ⟨hk, -⟩ <;> rw [hk] <;> nofun
  have hgo : ∀ l, (s.moved b { y with signals := l }).goOn b = s.moved b { z with signals := l } := fun l =>
    State.goOn_record (j := j.nextPart n) (by rw [State.moved_bay]) hslots (by rw [State.moved_bay]; exact hkind)
      (by rw [State.moved_bay]; exact hpos) (by rw [State.moved_link]; exact (congrArg _ hlink).trans hf)
      (by rw [State.moved_bay]; exact hentry) (by rw [State.moved_bay]; exact hc)
      (State.stepChannel_takes (j := j.nextPart n) hv hb rfl hp he ht hformat
        (State.jobReady_nextPart hn (hkind.imp_right And.left) hslots (by rw [State.moved_bay]; exact hpos))
        (State.jobTries_pos _ _ _)) (by simp [hz])
  have hstay : ∀ l, (s.moved b { z with signals := l }).goOn b = s.moved b { z with signals := l } := fun l =>
    State.goOn_record (j := j.nextPart n) (by rw [State.moved_bay]) hslots (by rw [State.moved_bay]; exact hkind)
      (by rw [State.moved_bay]; exact hpos) (by rw [State.moved_link]; exact (congrArg _ hlink).trans hf)
      (by rw [State.moved_bay]; exact hentry) (by rw [State.moved_bay]; exact hc)
      (State.stepChannel_searching (j := j.nextPart n) rfl hb rfl rfl) rfl
  have hcalm : (s.moved b { z with signals := [] }).calm := by
    refine State.moved_calm b _ h rfl ⟨_, _, _, hlink⟩ ?_
    show x.bay.power.readiness = x.bay.power.mode.readiness
    rw [hpower]
    exact h.2.1.class b
  have hstart : x = { x with signals := .sector b r :: [.poke b] } := by rw [← hm]
  refine State.conclude_msgs _ _ (State.moved_running x h.1) ?_ hcalm
  rw [show Config.messageBudget = 397 + 1 + 1 + 1 from rfl, hstart, settle_moved]
  show settle (397 + 1 + 1) ((s.moved b { x with signals := [.poke b] }).onSector b r) = _
  rw [hon]
  show settle (397 + 1 + 1) (s.moved b { y with signals := [.poke b, .poke b] }) = _
  rw [settle_moved]
  show settle (397 + 1) ((s.moved b { y with signals := [.poke b] }).goOn b) = _
  rw [hgo, settle_moved]
  show settle 397 ((s.moved b { z with signals := [] }).goOn b) = _
  rw [hstay, settle_nil _ _ rfl]

end

end Sys2Proof.Machine

namespace Sys2Proof.Machine

/-! ## A record operation ends with its visit (R94, R100, R119) -/

/-- The Data Channel released with no bay waiting (R119). -/
def Channel.released (c : Channel) : Channel := { c with holder := none, visit := none, gate := false }

/-- A bay whose sector operation has ended. -/
def Bay.quieted (y : Bay) : Bay := { y with job := none, pos := { y.pos with seekFor := .nobody, heldSeekOwned := false } }

/-- The slots with a bay's record parts freed (R118). -/
def recordFreed (b : BayId) (slots : List SlotRec) : List SlotRec :=
  slots.map fun r => if r.owner = some b ∧ r.isRecordPart = true then SlotRec.free else r

section
variable {s : State} {b : BayId} {x : Moves} {v : Visit} {j : Job}

theorem State.freeRecordSlots_moved :
    (s.moved b x).freeRecordSlots b = s.moved b { x with slots := recordFreed b x.slots, signals := x.signals ++ [.poke b] } := by
  simp [State.freeRecordSlots, recordFreed]

/-- The operation of a visit ends: the channel is released. -/
theorem State.dropJob_moved (hv : x.chan.visit = some v) (hb : v.bay = b) (hh : x.chan.holder = some b)
    (hw : x.chan.waiter = none) : (s.moved b x).dropJob b =
      s.moved b { x with chan := x.chan.released, bay := x.bay.quieted, signals := x.signals ++ [.poke b] } := by
  have hvisiting : (s.moved b x).visiting b = true := by simp [State.visiting, hv, hb]
  simp [State.dropJob, hvisiting, State.setJob, State.modPos, State.releaseChannel, hh, hw, Channel.released, Bay.quieted]

/-! ## The end of an event that leaves nothing to do -/

/-- An event that reports a sector ends with what its operation leaves, where that ignores the messages still to come. -/
theorem State.conclude_ended {r : SectorResult} {y : Moves} {ms : List Signal} (h : s.calm)
    (hm : x.signals = [.sector b r, .poke b])
    (hon : (s.moved b { x with signals := [.poke b] }).onSector b r = s.moved b { y with signals := ms })
    (hd : ∀ m ∈ ms, ∀ l, (s.moved b { y with signals := l }).deliver m = s.moved b { y with signals := l })
    (hn : ms.length ≤ 399) : (s.moved b x).conclude = .next (s.moved b { y with signals := [] }).closeEvent := by
  have hstart : x = { x with signals := .sector b r :: [.poke b] } := by rw [← hm]
  refine State.conclude_settle _ (State.moved_running x h.1) _ ?_ rfl
  rw [show Config.messageBudget = 399 + 1 from rfl, hstart, settle_moved]
  show settle 399 ((s.moved b { x with signals := [.poke b] }).onSector b r) = _
  rw [hon]
  exact settle_ignored (s.moved b y) ms hd 399 hn

/-- A bay at rest under no frame, visit or channel request is not moved by a poke. -/
theorem State.poke_moved (hr : x.bay.rests = true) (hf : x.link.inFrame = none) (hv : x.chan.visit = none)
    (hw : x.chan.waiter = none) (l : List Signal) :
    (s.moved b { x with signals := l }).deliver (.poke b) = s.moved b { x with signals := l } :=
  State.deliver_poke _ b (State.bayRests_of (by rwa [State.moved_bay]) hf hv hw)

/-- The bay's class once it has followed its mode, which raises READINESS (R168). -/
def Bay.classed (y : Bay) : Bay := { y with
  power := { y.power with readiness := y.power.mode.readiness }
  attn := { y.attn with readiness := { raised := true, payload := BitVec.ofNat 8 y.power.mode.readiness.code } } }

theorem State.closeEvent_moved_class (h : s.calm) (hs : x.signals = []) (hlink : x.link = s.link)
    (hp : x.bay.power.readiness ≠ x.bay.power.mode.readiness) :
    (s.moved b x).closeEvent = s.moved b { x with bay := x.bay.classed } := by
  have hclass := State.closeEvent_class (s.moved b x) b (State.moved_running x h.1) hs
    (by rw [State.moved_link, hlink]; exact h.2.1.2.1)
    (by unfold State.linkBusy; rw [State.moved_link, hlink]; exact h.2.2) (by rwa [State.moved_bay])
    (by cases b; exacts [h.2.1.class .bayB, h.2.1.class .bayA])
  rw [hclass, State.moved_modBay]
  rfl

theorem State.closeEvent_moved (h : (s.moved b x).calm) : (s.moved b x).closeEvent = s.moved b x :=
  State.closeEvent_same _ h.2.1 h.2.2

end

end Sys2Proof.Machine

namespace Sys2Proof.Machine

/-! ## The end of a mount's read (R94, R95, R161) -/

/-- A bay in which a record was invalid (R14, R95, R188). -/
def Bay.unmounted (y : Bay) (d : MountDetail) : Bay := { y with
  tu := { y.tu with tables := none, dirty := false }
  cart := { y.cart with state := .unformatted, mountDetail := d, unitChanged := true }
  sense := { y.sense with
    completion := some .unformatted, detail := .mount d, command := 0, lba := none, addr := none, count := 0 } }

/-- A bay in which a record was installed, its class still to follow (R14, R94, R95, R161). -/
def Bay.mounts (y : Bay) (dmt : Dmt) (t : Tables) (row : SeekRow) : Bay := { y with
  tu := { y.tu with tables := some t, dirty := false }
  cart := { y.cart with state := .mounted, mountDetail := .none, unitChanged := true }
  power := { y.power with
    mode := .idle, unloadTimer := dmtTimer dmt.unloadTimer 1000000, standbyTimer := dmtTimer dmt.standbyTimer 60000000 }
  pos := { y.pos.seekStarted { cyl := 1, head := 0 } row with seekFor := .nobody } }

section
variable {s : State} {b : BayId} {x : Moves} {v : Visit} {j : Job}

theorem State.unformatted_moved (d : MountDetail) : (s.moved b x).unformatted b d =
    s.moved b { x with bay := x.bay.unmounted d, signals := x.signals ++ [.mountOver b] } := by
  simp [State.unformatted, State.writeSense, CmdResult.plain, Bay.unmounted]

/-- A seek of heads that no visit and no request hold (R75, R76). -/
theorem State.startSeek_moved {t : Track} {row : SeekRow} (hv : x.chan.visit = none) (hw : x.chan.waiter = none)
    (hrow : s.profile.find? (fun r => decide (x.bay.pos.distance t ≤ r.bound)) = some row) :
    (s.moved b x).startSeek b t = s.moved b { x with bay := { x.bay with pos := { x.bay.pos with
      state := .seeking, target := some t, head := t.head, row := some row, seekTimer := some (row.timeout * 1000)
      settleCount := 0, onTrack := false, driveDir := towards x.bay.pos.current t.cyl, driveMag := row.velocity } } } := by
  rw [State.startSeek_eq _ b t row (State.leaveTrack_idle _ b (by simp [State.visiting, hv]) (by simp [hw])) (by simpa using hrow)]
  simp [State.modPos]

/-- The heads leave the record for cylinder 1 (R75, R76). -/
theorem State.mounted_moved {t : Tables} {row : SeekRow} (hv : x.chan.visit = none) (hw : x.chan.waiter = none)
    (hpos : x.bay.pos.on systemTrack = true)
    (hrow : s.profile.find? (fun r => decide (x.bay.pos.distance { cyl := 1, head := 0 } ≤ r.bound)) = some row) :
    (s.moved b x).mounted b t =
      s.moved b { x with bay := x.bay.mounts s.dmt t row, signals := x.signals ++ [.mountOver b] } := by
  obtain ⟨hstate, htarget⟩ : x.bay.pos.state = .following ∧ x.bay.pos.target = some systemTrack := by
    simpa [Positioner.on] using hpos
  simp only [State.mounted, State.setMode, State.restartIdleTimers, State.modPower, State.moved_modBay, State.seekOrder,
    State.moved_bay, hstate, State.seekFromFollowing, htarget, State.modPos, State.moved_dmt, Bool.false_eq_true, if_false]
  rw [if_neg (by decide), if_neg (by decide), State.startSeek_moved (row := row)]
  · simp only [State.moved_tell, Bay.mounts, Positioner.seekStarted, towards]
  · exact hv
  · exact hw
  · exact hrow

/-- The part once a record operation has ended with its visit and given its slots back. -/
def Moves.recordEnded (x : Moves) (b : BayId) : Moves := { x with
  slots := recordFreed b x.slots, chan := x.chan.released, bay := x.bay.quieted
  signals := x.signals ++ [.poke b, .poke b] }

section
variable (hv : x.chan.visit = some v) (hb : v.bay = b) (hh : x.chan.holder = some b) (hw : x.chan.waiter = none)
include hv hb hh hw

theorem State.recordEnded_moved :
    ((s.moved b x).dropJob b).freeRecordSlots b = s.moved b (x.recordEnded b) := by
  simp [State.dropJob_moved hv hb hh hw, State.freeRecordSlots_moved, Moves.recordEnded]

/-- The record's read ends with a sector that failed, its mount not cancelled (R94). -/
theorem State.endMountRead_failed (he : x.bay.cart.eject = none) (d : MountDetail) :
    (s.moved b x).endMountRead b j (some d) = (s.moved b (x.recordEnded b)).unformatted b d := by
  simp only [State.endMountRead, State.recordEnded_moved hv hb hh hw, State.moved_bay, he, Option.isSome_none, Bool.false_eq_true,
    if_false]

/-- The record's read ends with all four sectors, its mount not cancelled (R94). -/
theorem State.endMountRead_read (he : x.bay.cart.eject = none) :
    let image := j.slots.flatMap fun k => (x.slots.getD k SlotRec.free).data
    (s.moved b x).endMountRead b j none = if recordDetail image = .none then
      (s.moved b (x.recordEnded b)).mounted b (recordTables image)
    else (s.moved b (x.recordEnded b)).unformatted b (recordDetail image) := by
  intro image
  have himage : (s.moved b x).recordRead j.slots = image := rfl
  simp only [State.endMountRead, State.recordEnded_moved hv hb hh hw, State.moved_bay, he, Option.isSome_none, Bool.false_eq_true,
    if_false, himage]
  cases recordDetail image <;> simp

end

/-- The messages that the end of a mount leaves find nothing to do in a bay without a command that rests. -/
theorem State.mountOver_ignored {ms : List Signal} (hs : x.bay.slot = none) (hr : x.bay.rests = true) (hf : x.link.inFrame = none)
    (hv : x.chan.visit = none) (hw : x.chan.waiter = none) (hm : ∀ m ∈ ms, m = .poke b ∨ m = .mountOver b) :
    ∀ m ∈ ms, ∀ l, (s.moved b { x with signals := l }).deliver m = s.moved b { x with signals := l } := by
  intro m hmem l
  rcases hm m hmem with rfl | rfl
  · exact State.poke_moved hr hf hv hw l
  · simp [State.deliver, State.mountIsOver, hs]

end

end Sys2Proof.Machine

namespace Sys2Proof.Machine

/-! ## The last record sector of a mount -/

section
variable {s : State} {b : BayId} {x : Moves} {v : Visit} {j : Job}

/-- A record sector whose result is not that of a further one ends the read (R94). -/
theorem State.onSector_lastRead {r : SectorResult} (hj : x.bay.job = some j) (hk : j.kind = .recordRead)
    (hs : j.sector = recordSector 3) (hr : r = .good ∨ r = .recovered) :
    (s.moved b x).onSector b r = (s.moved b x).endMountRead b j none := by
  have hpart : ¬ j.sector.part < 3 := by rw [hs]; decide
  have hmount : (s.moved b x).onSector b r = (s.moved b x).mountSector b j r := by
    simp [State.onSector, hj, hk]
  rw [hmount]
  rcases hr with rfl | rfl <;> simp only [State.mountSector, if_neg hpart]

theorem State.onSector_unread (hj : x.bay.job = some j) (hk : j.kind = .recordRead) :
    (s.moved b x).onSector b .mediumError = (s.moved b x).endMountRead b j (some .recordCheck) := by
  simp [State.onSector, hj, hk, State.mountSector]

/-- The conditions under which the end of a record operation leaves the bay and the part nothing to do. -/
structure State.EndsRecord (s : State) (b : BayId) (x : Moves) (v : Visit) : Prop where
  calm : s.calm
  link : x.link = s.link ∧ s.link.inFrame = none
  power : x.bay.power = (s.bay b).power ∧ x.bay.power.entry = none
  slot : x.bay.slot = none
  visit : x.chan.visit = some v ∧ v.bay = b
  channel : x.chan.holder = some b ∧ x.chan.waiter = none
  heads : x.bay.pos.on systemTrack = true
  eject : x.bay.cart.eject = none

/-- A mount whose record was invalid ends in UNFORMATTED. -/
theorem State.EndsRecord.unformatted {r : SectorResult} {d : MountDetail} (h : s.EndsRecord b x v)
    (hm : x.signals = [.sector b r, .poke b])
    (hon : (s.moved b { x with signals := [.poke b] }).onSector b r =
      (s.moved b (({ x with signals := [.poke b] } : Moves).recordEnded b)).unformatted b d) :
    (s.moved b x).conclude = .next (s.moved b { x with
      slots := recordFreed b x.slots, chan := x.chan.released, bay := x.bay.quieted.unmounted d, signals := [] }) := by
  obtain ⟨hcalm, ⟨hlink, hframe⟩, ⟨hpower, hentry⟩, hslot, ⟨hv, hb⟩, ⟨hh, hw⟩, hpos, heject⟩ := h
  set y : Moves := { x with
    slots := recordFreed b x.slots, chan := x.chan.released, bay := x.bay.quieted.unmounted d, signals := [] } with hy
  have hstate : y.bay.pos.state = .following := by
    simp only [Positioner.on, Bool.and_eq_true, beq_iff_eq] at hpos
    exact hpos.1
  have hrests : y.bay.rests = true := by
    have hjob : y.bay.job = none := rfl
    have hunformatted : y.bay.cart.state = .unformatted := rfl
    simp [Bay.rests, Positioner.rests, hstate, Cartridge.rests, hunformatted, hjob, show y.bay.power.entry = none from hentry,
      show y.bay.slot = none from hslot]
  have hyframe : y.link.inFrame = none := (congrArg _ hlink).trans hframe
  rw [State.conclude_ended (y := y) hcalm hm (hon.trans (State.unformatted_moved d))
    (State.mountOver_ignored hslot hrests hyframe rfl hw (by simp [Moves.recordEnded])) (by simp [Moves.recordEnded]),
    State.closeEvent_moved]
  refine State.moved_calm b _ hcalm rfl ⟨_, _, _, hlink⟩ ?_
  show x.bay.power.readiness = x.bay.power.mode.readiness
  rw [hpower]
  exact hcalm.2.1.class b

/-- A mount whose record was valid ends in IDLE, and the heads leave for cylinder 1. -/
theorem State.EndsRecord.mounted {r : SectorResult} {t : Tables} {row : SeekRow} (h : s.EndsRecord b x v)
    (hmode : x.bay.power.mode = .unmounted)
    (hrow : s.profile.find? (fun r => decide (x.bay.pos.distance { cyl := 1, head := 0 } ≤ r.bound)) = some row)
    (hm : x.signals = [.sector b r, .poke b])
    (hon : (s.moved b { x with signals := [.poke b] }).onSector b r =
      (s.moved b (({ x with signals := [.poke b] } : Moves).recordEnded b)).mounted b t) :
    (s.moved b x).conclude = .next (s.moved b { x with
      slots := recordFreed b x.slots, chan := x.chan.released, bay := (x.bay.quieted.mounts s.dmt t row).classed
      signals := [] }) := by
  obtain ⟨hcalm, ⟨hlink, hframe⟩, ⟨hpower, hentry⟩, hslot, ⟨hv, hb⟩, ⟨hh, hw⟩, hpos, heject⟩ := h
  set y : Moves := { x with
    slots := recordFreed b x.slots, chan := x.chan.released, bay := x.bay.quieted.mounts s.dmt t row, signals := [] } with hy
  have hrests : y.bay.rests = true := by
    have hjob : y.bay.job = none := rfl
    have hmounted : y.bay.cart.state = .mounted := rfl
    have hstate : y.bay.pos.state = .seeking := rfl
    simp [Bay.rests, Positioner.rests, hstate, Cartridge.rests, hmounted, hjob, show y.bay.power.entry = none from hentry,
      show y.bay.slot = none from hslot]
  have hyframe : y.link.inFrame = none := (congrArg _ hlink).trans hframe
  have hmounted := hon.trans (State.mounted_moved (t := t) rfl hw hpos hrow)
  rw [State.conclude_ended (y := y) hcalm hm hmounted
    (State.mountOver_ignored hslot hrests hyframe rfl hw (by simp [Moves.recordEnded])) (by simp [Moves.recordEnded]),
    State.closeEvent_moved_class (x := y) hcalm rfl hlink]
  show x.bay.power.readiness ≠ PowerMode.idle.readiness
  rw [hpower, hcalm.2.1.class b, ← hpower, hmode]
  nofun

end

end Sys2Proof.Machine

namespace Sys2Proof.Machine

/-! ## Data fields of a record that is read -/

theorem eccResult_delivers (threshold : Nat) (ecc : EccClass) :
    eccResult threshold ecc = .good ∨ eccResult threshold ecc = .recovered := by
  cases ecc with
  | correctable n =>
    simp only [eccResult]
    split <;> simp
  | clean => exact .inl rfl
  | uncorrectable => exact .inl rfl

section
variable {s : State} (h : s.calm) {v : Visit} {j : Job} (hv : s.chan.visit = some v) (hj : (s.bay v.bay).job = some j)
include h hv hj

/-- A field that is not delivered, with a try left, is searched for again. -/
theorem exec_dataFieldRead_again {data : List Byte} {check : BitVec 48} (hp : v.phase = .reading) (hc : j.kind ≠ .certRead)
    (hk : j.kind ≠ .formatTrack) (he : v.ending = false)
    (hd : eccDelivered (s.jobCaps v.bay j).correctionSpan (decodeField { data, check }).1 = false)
    (ht : j.tries + 1 < s.jobTries v.bay j) (hstop : ∀ c, (s.bay v.bay).slot = some c → c.stop = none)
    (hflush : ∀ f, (s.bay v.bay).flush = some f → f.stop = false) :
    exec (.dataFieldRead data check) s = .next ({ s with chan := { s.chan with
      decoder := some (decodeField { data, check }).1, visit := some { v with phase := .searching, search := 0 } } }.modBay v.bay
        fun y => { y with job := some { j with fieldRead := true, tries := j.tries + 1 } }) := by
  have hfails := State.fieldClassed_fails (s := s) (x := s.moves v.bay) (data := (decodeField { data, check }).2) hj hc
    (by rwa [State.moved_self])
  rw [State.moved_self] at hfails
  rw [exec_dataFieldRead h hv hj hp, hfails, State.afterFailedTry_moved (j := j.unread) hv rfl hk he]
  · rw [State.conclude_boundary]
    · refine congrArg _ ((State.moved_eq s v.bay _ rfl (fun y => { y with job := some j.unread }) rfl).trans ?_)
      rfl
    · exact State.moved_calm v.bay _ h h.2.1.1 ⟨_, _, _, rfl⟩ (h.2.1.class v.bay)
    · rw [State.moved_bay]
      exact hstop
    · rw [State.moved_bay]
      exact hflush
  · exact ht.trans_eq (State.jobTries_moved rfl rfl rfl rfl).symm

/-- A field that is delivered fills its slot and ends its sector. -/
theorem exec_dataFieldRead_delivers {data : List Byte} {check : BitVec 48} {k : Nat} (hp : v.phase = .reading)
    (hc : j.kind ≠ .certRead) (hk : ∀ u : State, u.jobSlot v.bay j = some k)
    (hd : eccDelivered (s.jobCaps v.bay j).correctionSpan (decodeField { data, check }).1 = true) :
    exec (.dataFieldRead data check) s = (s.moved v.bay ((s.moves v.bay).delivered v.bay j k (decodeField { data, check }).1
      (decodeField { data, check }).2
      (eccResult (s.jobCaps v.bay j).reportThreshold (decodeField { data, check }).1))).conclude := by
  have hdelivers := State.fieldClassed_delivers (s := s) (x := s.moves v.bay) (data := (decodeField { data, check }).2) hj hc hk
    (by rwa [State.moved_self])
  rw [State.moved_self] at hdelivers
  rw [exec_dataFieldRead h hv hj hp, hdelivers]

/-- A delivered record sector of a mount, short of the last. -/
theorem exec_dataFieldRead_nextPart {data : List Byte} {check : BitVec 48} {k n : Nat} (hs : j.sector = recordSector n) (hn : n < 3)
    (hslots : j.slots.length = 4) (hslot : j.slots[n]? = some k) (hvk : v.kind = j.kind) (ht : v.track = systemTrack)
    (he : v.ending = false) (hpos : (s.bay v.bay).pos.on systemTrack = true) (hf : s.link.inFrame = none)
    (hentry : (s.bay v.bay).power.entry = none) (hp : v.phase = .reading) (hk : j.kind = .recordRead)
    (hc : (s.bay v.bay).cart.state = .mounting)
    (hd : eccDelivered (s.jobCaps v.bay j).correctionSpan (decodeField { data, check }).1 = true) :
    exec (.dataFieldRead data check) s = .next ({ s with
      slots := s.slots.set k { (s.slotRec k) with
        state := .full, ecc := some (decodeField { data, check }).1, data := (decodeField { data, check }).2 }
      chan := { s.chan with
        decoder := some (decodeField { data, check }).1
        visit := some { v with phase := .searching, search := 0 } } }.modBay v.bay fun y =>
          { y.counted (decide (0 < j.tries) || eccCorrectable (decodeField { data, check }).1) with
            job := some (j.nextPart n) }) := by
  have hslot' : ∀ u : State, u.jobSlot v.bay j = some k := fun u => by
    simp only [State.jobSlot, hk, hs]
    exact hslot
  rw [exec_dataFieldRead_delivers h hv hj hp (by rw [hk]; nofun) hslot' hd]
  generalize hr : eccResult (s.jobCaps v.bay j).reportThreshold (decodeField { data, check }).1 = r
  have hgood : r = .good ∨ r = .recovered := by
    rw [← hr]
    exact eccResult_delivers _ _
  rw [State.conclude_nextPart (v := { v with phase := .between }) (j := { j with fieldRead := true }) (n := n) h rfl rfl
    (by simp [Moves.delivered, State.moves, h.2.1.1]) (by simp [Moves.delivered, State.moves, Channel.between, hv]) rfl rfl he ht
    hslots hn (.inl hk) hpos hf hentry (.inl hc)
    (fun l => State.onSector_read (x := { (Moves.delivered _ _ _ _ _ _ _) with signals := l }) rfl hk hs hn hgood)]
  refine congrArg _ (State.moved_visit h.2.1.1.symm rfl rfl ?_ rfl)
  rw [← hvk]
  rfl

end

end Sys2Proof.Machine

namespace Sys2Proof.Machine

/-! ## The last field of a mount -/

/-- A mount that is not cancelled, in a visit with its heads on the record, and with no command, entry or wake of its bay. -/
structure State.Mounting (s : State) (v : Visit) (j : Job) : Prop where
  calm : s.calm
  visit : s.chan.visit = some v
  job : (s.bay v.bay).job = some j
  reading : v.phase = .reading
  kind : j.kind = .recordRead
  eject : (s.bay v.bay).cart.eject = none
  slot : (s.bay v.bay).slot = none
  mode : (s.bay v.bay).power.mode = .unmounted
  entry : (s.bay v.bay).power.entry = none
  heads : (s.bay v.bay).pos.on systemTrack = true
  holder : s.chan.holder = some v.bay
  waiter : s.chan.waiter = none
  noFrame : s.link.inFrame = none

section
variable {s : State} {v : Visit} {j : Job} {data : List Byte} {check : BitVec 48} {k : Nat}

/-- The part that leaves a mount's read when its channel is released: the decoder has classed the field, the bay is as given. -/
def State.mountEnded (s : State) (v : Visit) (ecc : EccClass) (slots : List SlotRec) (f : Bay → Bay) : State :=
  ({ s with
    slots := recordFreed v.bay slots
    chan := { s.chan with decoder := some ecc, holder := none, visit := none, gate := false } } : State).modBay v.bay f

theorem State.Mounting.ends (h : s.Mounting v j) {x : Moves} (hl : x.link = s.link) (hp : x.bay.power = (s.bay v.bay).power)
    (hs : x.bay.slot = (s.bay v.bay).slot) (hv : x.chan.visit = some { v with phase := .between })
    (hc : x.chan.holder = s.chan.holder ∧ x.chan.waiter = s.chan.waiter) (hpos : x.bay.pos = (s.bay v.bay).pos)
    (he : x.bay.cart = (s.bay v.bay).cart) : s.EndsRecord v.bay x { v with phase := .between } where
  calm := h.calm
  link := ⟨hl, h.noFrame⟩
  power := ⟨hp, by rw [hp]; exact h.entry⟩
  slot := hs.trans h.slot
  visit := ⟨hv, rfl⟩
  channel := ⟨hc.1.trans h.holder, hc.2.trans h.waiter⟩
  heads := by rw [hpos]; exact h.heads
  eject := by rw [he]; exact h.eject

/-- A record sector whose last try is not delivered ends the mount with RECORD_CHECK (R94, R123). -/
theorem State.Mounting.check_fails (h : s.Mounting v j)
    (hd : eccDelivered (s.jobCaps v.bay j).correctionSpan (decodeField { data, check }).1 = false)
    (ht : s.jobTries v.bay j ≤ j.tries + 1) : exec (.dataFieldRead data check) s =
      .next (s.mountEnded v (decodeField { data, check }).1 s.slots fun y => y.quieted.unmounted .recordCheck) := by
  have hkind : j.kind ≠ .certRead := by rw [h.kind]; nofun
  have hfails := State.fieldClassed_fails (s := s) (x := s.moves v.bay) (data := (decodeField { data, check }).2) h.job hkind
    (by rwa [State.moved_self])
  rw [State.moved_self, State.afterFailedTry_last (j := j.unread) rfl hkind
    ((State.jobTries_moved rfl rfl rfl rfl).trans_le ht), State.endSector_moved] at hfails
  have hfailure : j.unread.failure = .mediumError := by simp [Job.failure, Job.unread, h.kind, JobKind.writes]
  rw [hfailure] at hfails
  rw [exec_dataFieldRead h.calm h.visit h.job h.reading, hfails, State.EndsRecord.unformatted (v := { v with phase := .between })
    (r := .mediumError) (d := .recordCheck)]
  · exact congrArg _ (State.moved_visit h.calm.2.1.1.symm rfl rfl rfl rfl)
  · exact h.ends rfl rfl rfl (by simp [State.moves, Channel.between, h.visit]) ⟨rfl, rfl⟩ rfl rfl
  · simp [State.moves, h.calm.2.1.1]
  · exact (State.onSector_unread (j := j.unread) rfl h.kind).trans (State.endMountRead_failed (v := { v with phase := .between })
      (by simp [State.moves, Channel.between, h.visit]) rfl h.holder h.waiter h.eject _)

section
variable (h : s.Mounting v j) (hs : j.sector = recordSector 3) (hslot : j.slots[3]? = some k)
  (hd : eccDelivered (s.jobCaps v.bay j).correctionSpan (decodeField { data, check }).1 = true) {slots : List SlotRec}
  (hslots : slots = s.slots.set k { (s.slotRec k) with
    state := .full, ecc := some (decodeField { data, check }).1, data := (decodeField { data, check }).2 })
  {image : List Byte} (himage : image = j.slots.flatMap fun i => (slots.getD i SlotRec.free).data)
include h hs hslot hd hslots himage

/-- The last record sector is delivered: the event goes on with the checks of the image. -/
theorem State.Mounting.delivers : ∃ (r : SectorResult) (x : Moves),
    exec (.dataFieldRead data check) s = (s.moved v.bay x).conclude ∧ s.EndsRecord v.bay x { v with phase := .between } ∧
      x.signals = [.sector v.bay r, .poke v.bay] ∧ x.slots = slots ∧ x.link = s.link ∧
      x.chan = { s.chan with decoder := some (decodeField { data, check }).1, visit := some { v with phase := .between } } ∧
      x.bay.quieted = (s.bay v.bay).quieted.counted (decide (0 < j.tries) || eccCorrectable (decodeField { data, check }).1) ∧
      (s.moved v.bay { x with signals := [.poke v.bay] }).onSector v.bay r = if recordDetail image = .none then
          (s.moved v.bay (({ x with signals := [.poke v.bay] } : Moves).recordEnded v.bay)).mounted v.bay (recordTables image)
        else (s.moved v.bay (({ x with signals := [.poke v.bay] } : Moves).recordEnded v.bay)).unformatted v.bay
          (recordDetail image) := by
  have hkind : j.kind ≠ .certRead := by rw [h.kind]; nofun
  have hslot' : ∀ u : State, u.jobSlot v.bay j = some k := fun u => by
    simp only [State.jobSlot, h.kind, hs]
    exact hslot
  have hvisit : ({ s.chan with decoder := some (decodeField { data, check }).1 } : Channel).between =
      { s.chan with decoder := some (decodeField { data, check }).1, visit := some { v with phase := .between } } := by
    simp [Channel.between, h.visit]
  refine ⟨eccResult (s.jobCaps v.bay j).reportThreshold (decodeField { data, check }).1, _,
    exec_dataFieldRead_delivers h.calm h.visit h.job h.reading hkind hslot' hd, ?_, ?_,
    hslots.symm, rfl, hvisit, rfl, ?_⟩
  · exact h.ends rfl rfl rfl (by simp [Moves.delivered, State.moves, hvisit]) ⟨rfl, rfl⟩ rfl rfl
  · simp [Moves.delivered, State.moves, h.calm.2.1.1]
  · subst hslots himage
    exact (State.onSector_lastRead (x := { (Moves.delivered _ _ _ _ _ _ _) with signals := _ }) rfl h.kind hs
      (eccResult_delivers _ _)).trans (State.endMountRead_read (v := { v with phase := .between })
        (by simp [Moves.delivered, State.moves, hvisit]) rfl h.holder h.waiter h.eject)

/-- A record whose image fails a check of R13 ends the mount in UNFORMATTED. -/
theorem State.Mounting.rejects (hne : recordDetail image ≠ .none) : exec (.dataFieldRead data check) s =
    .next (s.mountEnded v (decodeField { data, check }).1 slots fun y =>
      (y.quieted.counted (decide (0 < j.tries) || eccCorrectable (decodeField { data, check }).1)).unmounted
        (recordDetail image)) := by
  obtain ⟨r, x, hexec, hends, hm, hxslots, hlink, hchan, hbay, hon⟩ := h.delivers hs hslot hd hslots himage
  rw [if_neg hne] at hon
  rw [hexec, hends.unformatted hm hon]
  exact congrArg _ (State.moved_visit h.calm.2.1.1.symm hlink (congrArg _ hxslots) (by rw [hchan]; rfl)
    (congrArg (Bay.unmounted · _) hbay))

/-- A record whose image passes the checks of R13 is installed. -/
theorem State.Mounting.installs {row : SeekRow} (hok : recordDetail image = .none)
    (hrow : s.profile.find? (fun r => decide ((s.bay v.bay).pos.distance { cyl := 1, head := 0 } ≤ r.bound)) = some row) :
    exec (.dataFieldRead data check) s = .next (s.mountEnded v (decodeField { data, check }).1 slots fun y =>
      ((y.quieted.counted (decide (0 < j.tries) || eccCorrectable (decodeField { data, check }).1)).mounts s.dmt
        (recordTables image) row).classed) := by
  obtain ⟨r, x, hexec, hends, hm, hxslots, hlink, hchan, hbay, hon⟩ := h.delivers hs hslot hd hslots himage
  rw [if_pos hok] at hon
  have hcurrent : x.bay.pos.current = (s.bay v.bay).pos.current := congrArg (fun y => y.pos.current) hbay
  have hrow' : s.profile.find? (fun r => decide (x.bay.pos.distance { cyl := 1, head := 0 } ≤ r.bound)) = some row := by
    simp only [Positioner.distance, hcurrent]
    exact hrow
  rw [hexec, hends.mounted (by rw [hends.power.1, h.mode]) hrow' hm hon]
  exact congrArg _ (State.moved_visit h.calm.2.1.1.symm hlink (congrArg _ hxslots) (by rw [hchan]; rfl)
    (congrArg (fun y => (Bay.mounts y s.dmt _ row).classed) hbay))

end

end

end Sys2Proof.Machine

namespace Sys2Proof.Machine

/-! ## Data fields of a record that is written -/

section
variable {s : State} (h : s.calm) {v : Visit} {j : Job} (hv : s.chan.visit = some v) (hj : (s.bay v.bay).job = some j)
include h hv hj

/-- A field that has been written ends its sector. -/
theorem exec_dataFieldWritten_ends {k : Nat} (hp : v.phase = .writing) (hk : ∀ u : State, u.jobSlot v.bay j = some k) :
    exec .dataFieldWritten s = (s.moved v.bay ((s.moves v.bay).written v.bay j k)).conclude := by
  have hwritten := State.fieldWritten_moved (s := s) (x := s.moves v.bay) hk
  rw [State.moved_self] at hwritten
  rw [exec_dataFieldWritten h hv hj hp, hwritten]

/-- A record sector of a flush that is written, short of the last. -/
theorem exec_dataFieldWritten_nextPart {k n : Nat} {f : Flush} (hs : j.sector = recordSector n) (hn : n < 3)
    (hslots : j.slots.length = 4) (hslot : j.slots[n]? = some k) (hvk : v.kind = j.kind) (ht : v.track = systemTrack)
    (he : v.ending = false) (hpos : (s.bay v.bay).pos.on systemTrack = true) (hf : s.link.inFrame = none)
    (hentry : (s.bay v.bay).power.entry = none) (hp : v.phase = .writing) (hk : j.kind = .recordWrite)
    (hflush : (s.bay v.bay).flush = some f) (hwriting : f.writing = true) (hstop : (s.bay v.bay).flushStopped f = false)
    (hc : (s.bay v.bay).cart.state = .mounted) (hpart : (s.slotRec k).isRecordPart = true) :
    exec .dataFieldWritten s = .next ({ s with
      slots := s.slots.set k { (s.slotRec k) with state := .full }
      chan := { s.chan with
        gate := false
        lastWritten := some (j.sector.addr, dataField (s.slotRec k).data)
        visit := some { v with phase := .searching, search := 0 } } }.modBay v.bay fun y =>
          { y.counted (decide (0 < j.tries)) with job := some (j.nextPart n) }) := by
  have hslot' : ∀ u : State, u.jobSlot v.bay j = some k := fun u => by
    simp only [State.jobSlot, hk, hs]
    exact hslot
  rw [exec_dataFieldWritten_ends h hv hj hp hslot',
    State.conclude_nextPart (v := { v with phase := .between }) (j := j) (n := n) h rfl rfl
    (by simp [Moves.written, State.moves, h.2.1.1]) (by simp [Moves.written, State.moves, Channel.between, hv]) rfl rfl he ht
    hslots hn (.inr ⟨hk, f, hflush, hwriting⟩) hpos hf hentry (.inr hc)
    (fun l => State.onSector_written (x := { (s.moves v.bay).written v.bay j k with signals := l }) hj hk hs hn hflush hstop)]
  refine congrArg _ (State.moved_visit h.2.1.1.symm rfl (if_pos hpart) ?_ ?_)
  · rw [← hvk]
    rfl
  · simp only [Moves.written, hk, beq_self_eq_true, Bool.true_and]
    rfl

end

end Sys2Proof.Machine

namespace Sys2Proof.Machine

/-! ## The last record sector of a flush (R100, R102, R163) -/

/-- A bay whose record is written with a new generation (R39, R100). -/
def Bay.flushed (y : Bay) (t : Tables) (f : Flush) : Bay :=
  { y with flush := none, tu := { y.tu with tables := some { t with generation := f.generation }, dirty := false } }

section
variable {s : State} {b : BayId} {x : Moves} {v : Visit} {j : Job}

/-- Messages that change nothing are skipped. -/
theorem settle_moved_skip {ms : List Signal} (hd : ∀ m ∈ ms, ∀ l, (s.moved b { x with signals := l }).deliver m =
    s.moved b { x with signals := l }) (n : Nat) (rest : List Signal) :
    settle (ms.length + n) (s.moved b { x with signals := ms ++ rest }) = settle n (s.moved b { x with signals := rest }) := by
  induction ms with
  | nil => rw [List.length_nil, Nat.zero_add, List.nil_append]
  | cons m ms ih =>
    rw [List.length_cons, Nat.succ_add, List.cons_append, settle_moved, hd m (by simp)]
    exact ih fun m hm => hd m (by simp [hm])

/-- An unload order to heads that FOLLOW for no operation: an open load order is answered (R83). -/
theorem State.unloadOrder_moved (hpos : x.bay.pos.state = .following) (hv : x.chan.visit = none) (hw : x.chan.waiter = none)
    (hj : x.bay.job = none) (hs : x.bay.pos.seekFor = .nobody) (hh : x.bay.pos.heldSeekOwned = false) :
    (s.moved b x).unloadOrder b = s.moved b { x with
      bay := { x.bay with pos := x.bay.pos.unloadStarted }
      signals := x.signals ++ ((if x.bay.pos.loadOpen then [.loadFailed b] else []) ++ [.poke b]) } := by
  have hleave : (s.moved b x).leaveTrack b = s.moved b x :=
    State.leaveTrack_idle _ b (by simp [State.visiting, hv]) (by simp [hw])
  simp only [State.unloadOrder, State.moved_bay, hpos, State.enterUnloading, hleave, State.jobLosesHeads, hj, State.answerUnloaded,
    hs, hh, Bool.and_false, Bool.false_eq_true, if_false, if_true, State.modPos, State.moved_modBay]
  cases x.bay.pos.loadOpen <;> simp [Positioner.unloadStarted, Config.unloadTime]

/-- The last sector of a flush, written, ends it (R100). -/
theorem State.onSector_lastWritten {f : Flush} (hj : x.bay.job = some j) (hk : j.kind = .recordWrite)
    (hs : j.sector = recordSector 3) (hf : x.bay.flush = some f) :
    (s.moved b x).onSector b .good = (s.moved b x).flushSucceeded b f := by
  have hpart : 3 ≤ j.sector.part := by rw [hs]; decide
  have hflush : (s.moved b x).onSector b .good = (s.moved b x).flushSector b j .good := by
    simp [State.onSector, hj, hk]
  rw [hflush]
  simp only [State.flushSector, State.moved_bay, hf, if_pos hpart]

/-- What a flush leaves when its record is written. -/
def Moves.flushEnded (x : Moves) (b : BayId) (t : Tables) (f : Flush) : Moves :=
  { x.recordEnded b with bay := x.bay.quieted.flushed t f }

/-- The requester of a flush goes on once its record is written (R100, R106, R163). -/
def State.afterFlush (u : State) (b : BayId) (f : Flush) : State :=
  match f.requester with
  | .unmount => if f.stop then (u.backToMounted b).finishCmd b (CmdResult.plain .aborted .none) else u.tell (.poke b)
  | .flushRecord => u.finishCmd b (CmdResult.plain .good .none)
  | .standby => u.afterStandbyFlush b none

theorem State.flushSucceeded_moved {t : Tables} {f : Flush} (hv : x.chan.visit = some v) (hb : v.bay = b)
    (hh : x.chan.holder = some b) (hw : x.chan.waiter = none) (ht : x.bay.tu.tables = some t) :
    (s.moved b x).flushSucceeded b f = (s.moved b (x.flushEnded b t f)).afterFlush b f := by
  have hdrop : ((s.moved b x).dropFlush b).modTu b (fun u => { u with
      tables := u.tables.map fun t => { t with generation := f.generation }, dirty := false }) =
        s.moved b (x.flushEnded b t f) := by
    simp only [State.dropFlush, State.recordEnded_moved hv hb hh hw, State.modTu, State.moved_modBay]
    simp [Moves.recordEnded, Moves.flushEnded, Bay.flushed, Bay.quieted, ht]
  unfold State.flushSucceeded State.afterFlush
  cases f.requester <;> simp only [hdrop]

/-- The messages of an unload find nothing to do in a bay that unloads. -/
theorem State.unloads_ignored {ms : List Signal} (hu : x.bay.Unloads) (hf : x.link.inFrame = none) (hv : x.chan.visit = none)
    (hw : x.chan.waiter = none) (hm : ∀ m ∈ ms, m = .poke b ∨ m = .loadFailed b) :
    ∀ m ∈ ms, ∀ l, (s.moved b { x with signals := l }).deliver m = s.moved b { x with signals := l } := by
  intro m hmem l
  rcases hm m hmem with rfl | rfl
  · exact State.goOn_unloads (by rwa [State.moved_bay]) hf (by simp [State.visiting, hv]) (by simp [hw])
  · simp [State.deliver, State.onLoadFailed, hu.job]

end

end Sys2Proof.Machine

namespace Sys2Proof.Machine

/-- The last record sector of a flush under way in a visit of its bay, and nothing else of the bay's but at most a command and a
standby entry. -/
structure State.Flushing (s : State) (v : Visit) (j : Job) (k : Nat) (f : Flush) (t : Tables) : Prop where
  calm : s.calm
  visit : s.chan.visit = some v
  job : (s.bay v.bay).job = some j
  phase : v.phase = .writing
  kind : j.kind = .recordWrite
  sector : j.sector = recordSector 3
  slot : j.slots[3]? = some k
  recordPart : (s.slotRec k).isRecordPart = true
  flush : (s.bay v.bay).flush = some f
  tables : (s.bay v.bay).tu.tables = some t
  heads : (s.bay v.bay).pos.on systemTrack = true
  notParked : (s.bay v.bay).pos.parked = false
  holder : s.chan.holder = some v.bay
  waiter : s.chan.waiter = none
  noFrame : s.link.inFrame = none

section
variable {s : State} {v : Visit} {j : Job} {k : Nat} {f : Flush} {t : Tables}

/-- What the end of a flush moves, the bay as given and the messages those of its visit and its slots. -/
def State.flushMoves (s : State) (v : Visit) (j : Job) (k : Nat) (y : Bay) : Moves where
  slots := recordFreed v.bay (s.slots.set k { (s.slotRec k) with state := .full })
  chan := { s.chan with
    gate := false, holder := none, visit := none
    lastWritten := some (j.sector.addr, dataField (s.slotRec k).data) }
  link := s.link
  bay := y
  signals := [.poke v.bay, .poke v.bay, .poke v.bay]

/-- The bay once its record is written. -/
def Bay.recordWritten (y : Bay) (j : Job) (t : Tables) (f : Flush) : Bay :=
  (y.quieted.counted (decide (0 < j.tries))).flushed t f

theorem State.Flushing.following (h : s.Flushing v j k f t) : (s.bay v.bay).pos.state = .following := by
  have hpos := h.heads
  simp only [Positioner.on, Bool.and_eq_true, beq_iff_eq] at hpos
  exact hpos.1

/-- The event ends with what the requester of the flush leaves. -/
theorem State.Flushing.concludes (h : s.Flushing v j k f t) {y : Moves}
    (hset : settle 399 ((s.moved v.bay (s.flushMoves v j k ((s.bay v.bay).recordWritten j t f))).afterFlush v.bay f) =
      s.moved v.bay y) (hy : y.signals = []) :
    exec .dataFieldWritten s = .next (s.moved v.bay y).closeEvent := by
  have hslot : ∀ u : State, u.jobSlot v.bay j = some k := fun u => by
    simp only [State.jobSlot, h.kind, h.sector]
    exact h.slot
  obtain ⟨x, hx⟩ : ∃ x, x = { (s.moves v.bay).written v.bay j k with signals := [.poke v.bay] } := ⟨_, rfl⟩
  have hstart : (s.moves v.bay).written v.bay j k = { x with signals := .sector v.bay .good :: [.poke v.bay] } := by
    simp [hx, Moves.written, State.moves, h.calm.2.1.1]
  have hvisit : x.chan.visit = some { v with phase := .between } := by simp [hx, Moves.written, State.moves, Channel.between, h.visit]
  have hlast := State.onSector_lastWritten (s := s) (b := v.bay) (x := x) (by rw [hx]; exact h.job) h.kind h.sector
    (by rw [hx]; exact h.flush)
  rw [State.flushSucceeded_moved (v := { v with phase := .between }) (t := t) hvisit rfl (by rw [hx]; exact h.holder)
    (by rw [hx]; exact h.waiter) (by rw [hx]; exact h.tables)] at hlast
  have hmoves : x.flushEnded v.bay t f = s.flushMoves v j k ((s.bay v.bay).recordWritten j t f) := by
    have hfull : x.slots = s.slots.set k { (s.slotRec k) with state := .full } := by
      rw [hx]
      exact if_pos h.recordPart
    have hbay : x.bay.quieted.flushed t f = (s.bay v.bay).recordWritten j t f := by
      rw [hx]
      simp only [Moves.written, h.kind, beq_self_eq_true, Bool.true_and]
      rfl
    simp only [Moves.flushEnded, Moves.recordEnded, hfull, hbay]
    rw [hx]
    rfl
  rw [exec_dataFieldWritten_ends h.calm h.visit h.job h.phase hslot]
  refine State.conclude_settle _ (State.moved_running _ h.calm.1) _ ?_ hy
  rw [show Config.messageBudget = 399 + 1 from rfl, hstart, settle_moved, ← hset, ← hmoves, ← hlast, hx]
  rfl

end

end Sys2Proof.Machine

namespace Sys2Proof.Machine

section
variable {s : State} {v : Visit} {j : Job} {k : Nat} {f : Flush} {t : Tables}

/-- The part that the end of a flush leaves, the bay as given. -/
def State.flushEnded (s : State) (v : Visit) (j : Job) (k : Nat) (g : Bay → Bay) : State :=
  ({ s with
    slots := recordFreed v.bay (s.slots.set k { (s.slotRec k) with state := .full })
    chan := { s.chan with
      gate := false, holder := none, visit := none
      lastWritten := some (j.sector.addr, dataField (s.slotRec k).data) } } : State).modBay v.bay g

theorem State.Flushing.unloadOrder (h : s.Flushing v j k f t) {y : Bay} (hp : y.pos = ((s.bay v.bay).recordWritten j t f).pos)
    (hj : y.job = none) (l : List Signal) :
    (s.moved v.bay { s.flushMoves v j k y with signals := l }).unloadOrder v.bay =
      s.moved v.bay { s.flushMoves v j k { y with pos := y.pos.unloadStarted } with
        signals := l ++ ((if y.pos.loadOpen then [.loadFailed v.bay] else []) ++ [.poke v.bay]) } :=
  State.unloadOrder_moved (by rw [State.flushMoves, hp]; exact h.following) rfl h.waiter hj (by rw [State.flushMoves, hp]; rfl)
    (by rw [State.flushMoves, hp]; rfl)

/-- What the messages of the end of a flush and of the unload that follows come to in a bay that unloads. -/
theorem State.Flushing.settle_unloads (h : s.Flushing v j k f t) {y : Bay} (hy : y.Unloads) {ms : List Signal}
    (hm : ∀ m ∈ ms, m = .poke v.bay ∨ m = .loadFailed v.bay) {n : Nat} (hn : ms.length ≤ n) :
    settle n (s.moved v.bay { s.flushMoves v j k y with signals := ms }) =
      s.moved v.bay { s.flushMoves v j k y with signals := [] } :=
  settle_ignored (s.moved v.bay (s.flushMoves v j k y)) ms
    (State.unloads_ignored (x := s.flushMoves v j k y) hy h.noFrame rfl h.waiter hm) n hn

/-- The answer to an open load order, if there is one. -/
theorem mem_loadFailed {open_ : Bool} {b : BayId} {m : Signal} (h : m ∈ if open_ then [Signal.loadFailed b] else []) :
    m = .loadFailed b := by
  cases open_
  · simp at h
  · simpa using h

/-- A standby entry goes on to its unload (R163). -/
theorem State.Flushing.standby (h : s.Flushing v j k f t) {e : StandbyEntry} (hr : f.requester = .standby)
    (he : (s.bay v.bay).power.entry = some e) (hs : (s.bay v.bay).slot = none) (hc : (s.bay v.bay).cart.state = .mounted)
    (hm : (s.bay v.bay).power.mode = .idle) :
    exec .dataFieldWritten s = .next (s.flushEnded v j k fun y =>
      let z := y.recordWritten j t f
      Bay.classed { z with
        power := { z.power with mode := .parkedIdle, entry := some { e with phase := .unload } }
        pos := z.pos.unloadStarted }) := by
  obtain ⟨z, hz⟩ : ∃ z, z = (s.bay v.bay).recordWritten j t f := ⟨_, rfl⟩
  obtain ⟨w, hw⟩ : ∃ w : Bay, w = { z with
    power := { z.power with mode := .parkedIdle, entry := some { e with phase := .unload } } } := ⟨_, rfl⟩
  have hslot : z.slot = none := by rw [hz]; exact hs
  have hentry : z.power.entry = some e := by rw [hz]; exact he
  have hunloads : ({ w with pos := w.pos.unloadStarted } : Bay).Unloads := by
    subst hw hz
    exact ⟨⟨rfl, h.notParked⟩, rfl, by simp [hslot], by simp, .inl hc⟩
  have hafter : (s.moved v.bay (s.flushMoves v j k z)).afterFlush v.bay f =
      s.moved v.bay { s.flushMoves v j k { w with pos := w.pos.unloadStarted } with
        signals := [.poke v.bay, .poke v.bay, .poke v.bay] ++ ((if w.pos.loadOpen then [.loadFailed v.bay] else []) ++
          [.poke v.bay]) ++ [.poke v.bay] } := by
    have hstandby : (s.moved v.bay (s.flushMoves v j k z)).afterFlush v.bay f =
        ((s.moved v.bay { s.flushMoves v j k w with
          signals := [.poke v.bay, .poke v.bay, .poke v.bay] }).unloadOrder v.bay).tell (.poke v.bay) := by
      simp only [State.afterFlush, hr, State.afterStandbyFlush, State.moved_bay, State.flushMoves, hentry, hslot,
        State.standbyUnload, State.modPower, State.moved_modBay, Option.map_some, hw]
    rw [hstandby, h.unloadOrder (by rw [hw, hz]) (by rw [hw, hz]; rfl), State.moved_tell]
  have hsettle : settle 399 ((s.moved v.bay (s.flushMoves v j k z)).afterFlush v.bay f) =
      s.moved v.bay { s.flushMoves v j k { w with pos := w.pos.unloadStarted } with signals := [] } := by
    rw [hafter]
    refine h.settle_unloads hunloads (fun m hm => ?_) ?_
    · refine or_iff_not_imp_left.2 fun hne => mem_loadFailed (open_ := w.pos.loadOpen) ?_
      simpa [hne] using hm
    · cases w.pos.loadOpen <;> simp
  rw [h.concludes (by rw [← hz]; exact hsettle) rfl, State.closeEvent_moved_class h.calm rfl rfl]
  · subst hw hz
    exact congrArg _ (State.moved_visit h.calm.2.1.1.symm rfl rfl rfl rfl)
  · have hclass : w.power.readiness = .ready := by
      rw [hw, hz]
      exact (h.calm.2.1.class v.bay).trans (by rw [hm]; rfl)
    simp [State.flushMoves, hclass, show w.power.mode = .parkedIdle by rw [hw], PowerMode.readiness]

/-- An UNMOUNTING bay whose record is clean leaves phase FLUSH when it is poked (R102). -/
theorem State.Flushing.stepUnmount (h : s.Flushing v j k f t) {z : Bay} (hz : z = (s.bay v.bay).recordWritten j t f)
    {e : Eject} (hc : (s.bay v.bay).cart.state = .unmounting) (he : (s.bay v.bay).cart.eject = some e) (hp : e.phase = .flush)
    (hentry : (s.bay v.bay).power.entry = none) (hs : ∀ c, (s.bay v.bay).slot = some c → ∃ force, c.op = .eject force)
    (l : List Signal) : (s.moved v.bay { s.flushMoves v j k z with signals := l }).goOn v.bay =
      ((s.moved v.bay { s.flushMoves v j k { z with cart := { z.cart with eject := some { e with phase := .unload } } } with
        signals := l }).unloadOrder v.bay).tell (.poke v.bay) := by
  generalize hu : s.moved v.bay { s.flushMoves v j k z with signals := l } = u
  have hbay : u.bay v.bay = z := by rw [← hu, State.moved_bay]; rfl
  have hcommand : u.stepCommand v.bay = u := by
    unfold State.stepCommand
    rw [hbay]
    cases hslot : z.slot with
    | none => rfl
    | some c =>
      obtain ⟨force, ho⟩ := hs c (by rw [hz] at hslot; exact hslot)
      simp [ho]
  have hstandby : u.stepStandby v.bay = u := by
    have hnone : z.power.entry = none := by rw [hz]; exact hentry
    simp [State.stepStandby, hbay, hnone]
  have hfollowing : z.pos.state = .following := by rw [hz]; exact h.following
  rw [u.goOn_still v.bay (by simp [hbay, Positioner.rests, hfollowing]) (by rw [← hu]; exact h.noFrame) hcommand
    (by rw [hbay, hz]; nofun) (by rw [← hu]; rfl) (by rw [← hu]; simp [State.flushMoves, h.waiter]) hstandby]
  have hcart : z.cart.state = .unmounting ∧ z.cart.eject = some e := by rw [hz]; exact ⟨hc, he⟩
  have hclean : z.flush = none ∧ z.tu.dirty = false := by rw [hz]; exact ⟨rfl, rfl⟩
  have hstep : u.stepCart v.bay = ((u.ejectPhase v.bay .unload).unloadOrder v.bay).tell (.poke v.bay) := by
    simp [State.stepCart, State.stepUnmount, hbay, hcart.1, hcart.2, hp, hclean.1, hclean.2]
  have hphase : u.ejectPhase v.bay .unload = s.moved v.bay { s.flushMoves v j k { z with
      cart := { z.cart with eject := some { e with phase := .unload } } } with signals := l } := by
    rw [← hu]
    simp [State.ejectPhase, State.modCart, State.flushMoves, hcart.2]
  rw [hstep, hphase]

/-- An UNMOUNTING bay goes on to its unload (R102). -/
theorem State.Flushing.unmount (h : s.Flushing v j k f t) {e : Eject} (hr : f.requester = .unmount) (hstop : f.stop = false)
    (hc : (s.bay v.bay).cart.state = .unmounting) (he : (s.bay v.bay).cart.eject = some e) (hp : e.phase = .flush)
    (hentry : (s.bay v.bay).power.entry = none) (hs : ∀ c, (s.bay v.bay).slot = some c → ∃ force, c.op = .eject force) :
    exec .dataFieldWritten s = .next (s.flushEnded v j k fun y =>
      let z := y.recordWritten j t f
      { z with cart := { z.cart with eject := some { e with phase := .unload } }, pos := z.pos.unloadStarted }) := by
  obtain ⟨z, hz⟩ : ∃ z, z = (s.bay v.bay).recordWritten j t f := ⟨_, rfl⟩
  obtain ⟨w, hw⟩ : ∃ w : Bay, w = { z with cart := { z.cart with eject := some { e with phase := .unload } } } := ⟨_, rfl⟩
  have hunloads : ({ w with pos := w.pos.unloadStarted } : Bay).Unloads := by
    subst hw hz
    exact ⟨⟨rfl, h.notParked⟩, rfl, fun c hslot => .inr (hs c hslot), fun e' he' => absurd (hentry.symm.trans he') nofun,
      .inr ⟨hc, _, rfl, rfl⟩⟩
  have hgo := h.stepUnmount hz hc he hp hentry hs [.poke v.bay, .poke v.bay, .poke v.bay]
  rw [← hw, h.unloadOrder (by rw [hw, hz]) (by rw [hw, hz]; rfl), State.moved_tell] at hgo
  have hsettle : settle 399 ((s.moved v.bay (s.flushMoves v j k z)).afterFlush v.bay f) =
      s.moved v.bay { s.flushMoves v j k { w with pos := w.pos.unloadStarted } with signals := [] } := by
    have hafter : (s.moved v.bay (s.flushMoves v j k z)).afterFlush v.bay f = s.moved v.bay { s.flushMoves v j k z with
        signals := .poke v.bay :: [.poke v.bay, .poke v.bay, .poke v.bay] } := by
      simp only [State.afterFlush, hr, hstop, Bool.false_eq_true, if_false, State.moved_tell]
      rfl
    rw [hafter, show (399 : Nat) = 398 + 1 from rfl, settle_moved]
    refine (congrArg (settle 398) hgo).trans (h.settle_unloads hunloads (fun m hm => ?_) ?_)
    · refine or_iff_not_imp_left.2 fun hne => mem_loadFailed (open_ := w.pos.loadOpen) ?_
      simpa [hne] using hm
    · cases w.pos.loadOpen <;> simp
  have hcalm : (s.moved v.bay { s.flushMoves v j k { w with pos := w.pos.unloadStarted } with signals := [] }).calm := by
    refine State.moved_calm v.bay _ h.calm rfl ⟨_, _, _, rfl⟩ ?_
    subst hw hz
    exact h.calm.2.1.class v.bay
  rw [h.concludes (by rw [← hz]; exact hsettle) rfl, State.closeEvent_moved hcalm]
  subst hw hz
  exact congrArg _ (State.moved_visit h.calm.2.1.1.symm rfl rfl rfl rfl)

end

end Sys2Proof.Machine

namespace Sys2Proof.Machine

/-! ## A command ends with its last field (R133, R143, R161, R162) -/

section
variable {s : State} {b : BayId} {x : Moves}

theorem State.modBay_modLink (s : State) (b : BayId) (f : Bay → Bay) (g : Link → Link) :
    (s.modBay b f).modLink g = ({ s with link := g s.link } : State).modBay b f := by cases b <;> rfl

/-- A command without a sector operation, reports and a held staging area completes GOOD: its STATUS is queued and its
slot is free. -/
theorem State.finishCmd_moved {c : Cmd} (hc : x.bay.slot = some c) (hj : x.bay.job = none) (hr : c.result = none)
    (hs : c.silent = false) (ho : c.op ≠ .read)
    (hfreed : (s.moved b x).freeCommandSlots b c (CmdResult.plain .good .none) = (s.moved b x).tell (.poke b))
    (hreassign : x.bay.reassign = none) (hformat : x.bay.format = none) (hreports : (s.moved b x).NoReports (.bay b))
    (hstaging : (s.staging.map fun y => y.target) ≠ some (.bay b)) :
    (s.moved b x).finishCmd b (CmdResult.plain .good .none) = s.moved b { x with
      link := x.link.posted (.status (.bay b) .good .none c.done c.op.code), bay := x.bay.unslotted s.dmt
      signals := x.signals ++ [.poke b] ++ [.slotFreed b] ++ [.poke b] } := by
  have hdropped : (s.moved b x).dropCommandJob b = s.moved b x := by simp [State.dropCommandJob, hj]
  rw [State.finishCmd_posts (c := c) (by rwa [State.moved_bay]) hr hs ho
    ((congrArg (State.freeCommandSlots · b c _) hdropped).trans hfreed)
    (by rwa [State.moved_tell, State.moved_bay]) (by rwa [State.moved_tell, State.moved_bay])
    (by rwa [State.moved_tell, State.moved_bay]) ⟨hreports.queue, hreports.offered, hreports.going⟩
    (by rwa [State.moved_tell, State.moved_staging])]
  simp only [State.posted, State.moved_tell, State.moved_modLink, State.moved_modBay, State.moved_dmt]

/-- The slot of an ACTIVE bay with loaded heads becomes free: the bay is in IDLE, and nothing waits to go on. -/
theorem settle_slotFreed (hr : x.bay.rests = true) (hf : x.link.inFrame = none) (hv : x.chan.visit = none)
    (hw : x.chan.waiter = none) (hm : x.bay.power.mode = .active) (hwake : x.bay.power.wake = none)
    (hl : x.bay.pos.state.loaded = true) (he : x.bay.cart.eject = none) {ms rest : List Signal} (hms : ∀ m ∈ ms, m = .poke b)
    (hrest : ∀ m ∈ rest, m = .poke b) {n : Nat} (hn : ms.length + (rest.length + 1) ≤ n) :
    settle n (s.moved b { x with signals := ms ++ .slotFreed b :: rest }) =
      s.moved b { x with bay := { x.bay with power := { x.bay.power with mode := .idle } }, signals := [] } := by
  obtain ⟨n, rfl⟩ := Nat.exists_eq_add_of_le hn
  have hfreed : ∀ l, (s.moved b { x with signals := l }).deliver (.slotFreed b) =
      s.moved b { x with bay := { x.bay with power := { x.bay.power with mode := .idle } }, signals := l } := by
    intro l
    simp [State.deliver, State.onSlotFreed, hwake, hm, he, State.setMode, State.modPower, Bay.mechanismMode, hl]
  have hrests : ({ x.bay with power := { x.bay.power with mode := .idle } } : Bay).rests = true := hr
  rw [show ms.length + (rest.length + 1) + n = ms.length + (rest.length + n + 1) by omega,
    settle_moved_skip (fun m hm l => by rw [hms m hm]; exact State.poke_moved hr hf hv hw l), settle_moved, hfreed]
  exact settle_ignored (s.moved b { x with bay := { x.bay with power := { x.bay.power with mode := .idle } } }) rest
    (fun m hm l => by
      rw [hrest m hm]
      exact State.poke_moved (x := { x with bay := { x.bay with power := { x.bay.power with mode := .idle } } }) hrests hf hv hw l) _
    (by omega)

end

section
variable {s : State} {v : Visit} {j : Job} {k : Nat} {f : Flush} {t : Tables}

/-- FLUSH RECORD completes (R106). -/
theorem State.Flushing.flushRecord (h : s.Flushing v j k f t) {c : Cmd} (hr : f.requester = .flushRecord)
    (hs : (s.bay v.bay).slot = some c) (ho : c.op = .flushRecord) (hresult : c.result = none) (hsilent : c.silent = false)
    (hc : (s.bay v.bay).cart.state = .mounted) (he : (s.bay v.bay).cart.eject = none) (hm : (s.bay v.bay).power.mode = .active)
    (hentry : (s.bay v.bay).power.entry = none) (hwake : (s.bay v.bay).power.wake = none)
    (hreassign : (s.bay v.bay).reassign = none) (hformat : (s.bay v.bay).format = none) (hreports : s.NoReports (.bay v.bay))
    (hstaging : (s.staging.map fun y => y.target) ≠ some (.bay v.bay)) :
    exec .dataFieldWritten s =
      .next ((s.flushEnded v j k fun y =>
        let z := y.recordWritten j t f
        { z with slot := none, power := { z.power with
          mode := .idle, unloadTimer := dmtTimer s.dmt.unloadTimer 1000000
          standbyTimer := dmtTimer s.dmt.standbyTimer 60000000 } }).modLink
        fun l => l.posted (.status (.bay v.bay) .good .none c.done 0x16)) := by
  obtain ⟨z, hz⟩ : ∃ z, z = (s.bay v.bay).recordWritten j t f := ⟨_, rfl⟩
  have hcode : c.op.code = 0x16 := by rw [ho]; rfl
  have hfinish := State.finishCmd_moved (s := s) (b := v.bay) (x := s.flushMoves v j k z) (c := c) 
    (by rw [hz]; exact hs) (by rw [hz]; rfl) hresult hsilent (by rw [ho]; nofun) (by simp [State.freeCommandSlots, ho]) (by rw [hz]; exact hreassign)
    (by rw [hz]; exact hformat)
    ⟨hreports.queue, hreports.offered, hreports.going⟩ hstaging
  rw [hcode] at hfinish
  obtain ⟨x, hx⟩ : ∃ x : Moves, x = { s.flushMoves v j k z with
    link := s.link.posted (.status (.bay v.bay) .good .none c.done 0x16), bay := z.unslotted s.dmt } := ⟨_, rfl⟩
  have hfollowing : x.bay.pos.state = .following := by rw [hx, hz]; exact h.following
  have hrests : x.bay.rests = true := by
    have hmounted : x.bay.cart.state = .mounted := by rw [hx, hz]; exact hc
    have hnone : x.bay.power.entry = none ∧ x.bay.job = none ∧ x.bay.slot = none := by
      rw [hx, hz]
      exact ⟨hentry, rfl, rfl⟩
    simp [Bay.rests, Positioner.rests, hfollowing, Cartridge.rests, hmounted, hnone]
  have hsettle : settle 399 ((s.moved v.bay (s.flushMoves v j k z)).afterFlush v.bay f) = s.moved v.bay { x with
      bay := { x.bay with power := { x.bay.power with mode := .idle } }, signals := [] } := by
    rw [State.afterFlush, hr]
    refine (congrArg (settle 399) hfinish).trans ?_
    rw [← settle_slotFreed (x := x) (ms := [.poke v.bay, .poke v.bay, .poke v.bay] ++ [.poke v.bay]) hrests
      (by rw [hx]; exact h.noFrame) (by rw [hx]; rfl) (by rw [hx]; exact h.waiter) (by rw [hx, hz]; exact hm) (by rw [hx, hz]; exact hwake)
      (by rw [hfollowing]; rfl) (by rw [hx, hz]; exact he) (rest := [.poke v.bay])
      (by simp) (by simp) (n := 399) (by simp), hx]
    rfl
  have hcalm : (s.moved v.bay { x with
      bay := { x.bay with power := { x.bay.power with mode := .idle } }, signals := [] }).calm := by
    refine State.moved_calm v.bay _ h.calm rfl ⟨s.link.queue ++ [_], s.link.reservations - 1, s.link.inFrame, by rw [hx]; rfl⟩ ?_
    rw [hx, hz]
    exact (h.calm.2.1.class v.bay).trans (by rw [hm]; rfl)
  rw [h.concludes (by rw [← hz]; exact hsettle) rfl, State.closeEvent_moved hcalm, State.flushEnded, State.modBay_modLink]
  subst hx hz
  exact congrArg _ (State.moved_eq s v.bay _ h.calm.2.1.1.symm _ rfl)

end

end Sys2Proof.Machine

namespace Sys2Proof.Machine

/-! ## The last block of a command (R116, R117, R137, R138) -/

section
variable {s : State} {b : BayId} {x : Moves} {v : Visit} {j : Job} {c : Cmd} {k : Nat}

theorem State.freeWhere_none {p : SlotRec → Bool} (h : ∀ r ∈ x.slots, r.owner = some b → p r = false) :
    (s.moved b x).freeWhere b p = s.moved b x := by
  have hsame : (x.slots.map fun r => if r.owner == some b && p r then SlotRec.free else r) = x.slots := by
    refine (List.map_congr_left fun r hr => if_neg ?_).trans x.slots.map_id
    rw [Bool.and_eq_true, beq_iff_eq]
    rintro ⟨ho, hp⟩
    exact absurd (h r hr ho) (by simp [hp])
  rw [State.moved_freeWhere, hsame]

/-- A command that has done its last block. -/
theorem Cmd.blockDone_last (hc : c.done + 1 = c.count) (lba : Nat) (a : PhysAddr) :
    c.blockDone lba a false = { c with done := c.count } := by
  simp [Cmd.blockDone, hc]

/-- After its last block a command that is not stopped ends. -/
theorem State.nextBlock_last (hs : x.bay.slot = some { c with done := c.count }) (hstop : c.stop = none)
    (hrecovered : c.recovered = none) :
    (s.moved b x).nextBlock b = (s.moved b x).finishCmd b (CmdResult.plain .good .none) := by
  simp [State.nextBlock, hs, hstop, Cmd.doneResult, hrecovered]

section
variable (hj : x.bay.job = some j) (hk : j.kind = .mediaRead ∨ j.kind = .mediaVerify ∨ j.kind = .mediaWrite)
  (hs : x.bay.slot = some c) (hslots : j.slots = [k]) (hlast : c.done + 1 = c.count) (hstop : c.stop = none)
  (hrecovered : c.recovered = none)
include hj hk hs hslots hlast hstop hrecovered

/-- The last block of a VERIFY or a WRITE frees its slot. -/
theorem State.onSector_frees (ho : c.op = .verify ∨ c.op = .write) (howner : (x.slots.getD k SlotRec.free).owner = some b) :
    (s.moved b x).onSector b .good = (s.moved b { x with
      slots := x.slots.set k SlotRec.free
      bay := { x.bay with job := none, slot := some { c with done := c.count } }
      signals := x.signals ++ [.poke b] }).finishCmd b (CmdResult.plain .good .none) := by
  have hblock : (s.moved b x).onSector b .good = (s.moved b x).blockGood b c j false := by
    rcases hk with hk | hk | hk <;> simp [State.onSector, hj, hk, State.blockResult, hs]
  have hfreed : ∀ y : Moves, y.slots = x.slots →
      (s.moved b y).freeSlot k = s.moved b { y with slots := x.slots.set k SlotRec.free, signals := y.signals ++ [.poke b] } := by
    intro y hy
    simp only [State.freeSlot, State.moved_slotRec, hy, howner, State.moved_modSlot, State.moved_tell]
  rw [hblock, ← State.nextBlock_last rfl hstop hrecovered]
  rcases ho with ho | ho <;>
    simp [State.blockGood, State.setJob, State.modCmd, hs, Cmd.blockDone_last hlast, ho, hslots, hfreed]

/-- The last block of a READ offers its frame, which joins a queue with room (R176). -/
theorem State.onSector_offers (ho : c.op = .read) (hoffered : x.link.offered = [])
    (hroom : x.link.queue.length + x.link.reservations ≤ Config.dataInRoom) :
    (s.moved b x).onSector b .good = (s.moved b { x with
      link := { x.link with queue := x.link.queue ++ [.slotData b k] }
      bay := { x.bay with job := none, slot := some { c with done := c.count } } }).finishCmd b
        (CmdResult.plain .good .none) := by
  have hblock : (s.moved b x).onSector b .good = (s.moved b x).blockGood b c j false := by
    rcases hk with hk | hk | hk <;> simp [State.onSector, hj, hk, State.blockResult, hs]
  have hjoined : ∀ y : Moves, y.link = x.link → (s.moved b y).offer (.slotData b k) =
      s.moved b { y with link := { x.link with queue := x.link.queue ++ [.slotData b k] } } := by
    intro y hy
    simp [State.offer, State.joinPending, hy, hoffered, joinOffered, hroom]
  rw [hblock, ← State.nextBlock_last rfl hstop hrecovered]
  simp [State.blockGood, State.setJob, State.modCmd, hs, Cmd.blockDone_last hlast, ho, hslots, hjoined]

end

end

end Sys2Proof.Machine

namespace Sys2Proof.Machine

section
variable {s : State} {b : BayId} {x : Moves} {v : Visit} {c : Cmd} {k : Nat}

/-- A visit whose bay has no sector operation left ends when the bay is poked (R120). -/
theorem State.goOn_releases (hj : x.bay.job = none) (hv : x.chan.visit = some v) (hb : v.bay = b) (hh : x.chan.holder = some b)
    (hw : x.chan.waiter = none) (hpos : x.bay.pos.rests = true) (hf : x.link.inFrame = none)
    (hs : ∀ c, x.bay.slot = some c → c.result.isSome = true) (he : x.bay.power.entry = none)
    (hc : x.bay.cart.state = .mounted) :
    (s.moved b x).goOn b = s.moved b { x with chan := x.chan.released, signals := x.signals ++ [.poke b] } := by
  have hparked : (s.moved b x).stepParked b = s.moved b x := by
    have hrests := Positioner.rests_spec hpos
    simp only [State.stepParked, State.moved_bay, hrests, if_false]
  have hheld : (s.moved b x).stepHeld b = s.moved b x := by simp [State.stepHeld, State.stepByte, hf]
  have hcommand : (s.moved b x).stepCommand b = s.moved b x := by
    unfold State.stepCommand
    rw [State.moved_bay]
    cases hslot : x.bay.slot with
    | none => rfl
    | some c => simp [hs c hslot]
  have hfill : State.fillSlots 4 (s.moved b x) b = s.moved b x := by simp [State.fillSlots, hj]
  have himage : ∀ n, (s.moved b x).buildImage b n = s.moved b x := fun n => by simp [State.buildImage, hj]
  have hchannel : (s.moved b x).stepChannel b =
      s.moved b { x with chan := x.chan.released, signals := x.signals ++ [.poke b] } := by
    simp [State.stepChannel, hv, hj, hb, State.releaseChannel, hh, hw, Channel.released]
  unfold State.goOn
  simp only [hparked, hheld, hcommand, hfill, himage, hchannel]
  simp [State.stepStandby, he, State.stepCart, hc]

/-- A poke of a bay whose ended READ waits for its frame finds nothing to do. -/
theorem State.resulted_poke (hj : x.bay.job = none) (hv : x.chan.visit = none) (hw : x.chan.waiter = none)
    (hpos : x.bay.pos.rests = true) (hf : x.link.inFrame = none) (hs : ∀ c, x.bay.slot = some c → c.result.isSome = true)
    (he : x.bay.power.entry = none) (hc : x.bay.cart.state = .mounted) (l : List Signal) :
    (s.moved b { x with signals := l }).deliver (.poke b) = s.moved b { x with signals := l } := by
  have hcommand : (s.moved b { x with signals := l }).stepCommand b = s.moved b { x with signals := l } := by
    unfold State.stepCommand
    rw [State.moved_bay]
    cases hslot : x.bay.slot with
    | none => rfl
    | some c => simp [hs c hslot]
  refine (State.goOn_still _ b (by rwa [State.moved_bay]) hf hcommand (by simp [hj]) (by simp [State.visiting, hv]) (by simp [hw])
    (by simp [State.stepStandby, he])).trans ?_
  simp [State.stepCart, hc]

/-- A slot list with one slot replaced holds that slot and those of the list with it freed. -/
theorem mem_set_or_mem_set {l : List SlotRec} {k : Nat} {r a a' : SlotRec} (h : r ∈ l.set k a) : r = a ∨ r ∈ l.set k a' := by
  obtain ⟨i, hi, rfl⟩ := List.getElem_of_mem h
  rw [List.getElem_set]
  split
  next => exact .inl rfl
  next hne =>
    refine .inr (List.mem_iff_getElem.2 ⟨i, by simpa using hi, ?_⟩)
    rw [List.getElem_set, if_neg hne]

/-- A READ whose last slot is full, and is the only one that its bay holds, waits for its frame with its result (R138). -/
theorem State.finishCmd_waits {r : SlotRec} (hc : x.bay.slot = some c) (hj : x.bay.job = none) (hr : c.result = none)
    (hs : c.silent = false) (ho : c.op = .read) (hslots : x.slots = s.slots.set k r) (hk : k < s.slots.length)
    (howner : r.owner = some b) (hpurpose : r.purpose = some .mediaData) (hfull : r.state = .full)
    (honly : ∀ r ∈ s.slots.set k SlotRec.free, r.owner ≠ some b) (hreassign : x.bay.reassign = none)
    (hformat : x.bay.format = none) (hreports : (s.moved b x).NoReports (.bay b))
    (hstaging : (s.staging.map fun y => y.target) ≠ some (.bay b)) :
    (s.moved b x).finishCmd b (CmdResult.plain .good .none) = s.moved b { x with
      bay := { x.bay with slot := some { c with result := some (CmdResult.plain .good .none) } }
      signals := x.signals ++ [.poke b] } := by
  have hdropped : (s.moved b x).dropCommandJob b = s.moved b x := by simp [State.dropCommandJob, hj]
  have hnone : ∀ r' ∈ x.slots, r'.owner = some b → (r'.purpose == some .mediaData && r'.state == .filling) = false := by
    intro r' hmem hb
    rw [hslots] at hmem
    rcases mem_set_or_mem_set hmem with rfl | hother
    · simp [hfull]
    · exact absurd hb (honly r' hother)
  obtain ⟨u, hu⟩ : ∃ u, u = (s.moved b x).tell (.poke b) := ⟨_, rfl⟩
  have hbay : u.bay b = x.bay := by rw [hu, State.moved_tell, State.moved_bay]
  have hfreed : (s.moved b x).freeCommandSlots b c (CmdResult.plain .good .none) = u := by
    simp [State.freeCommandSlots, ho, hs, CmdResult.plain, State.freeWhere_none hnone, hu]
  have hsame : (u.modBay b fun y => { y with reassign := none, format := none }) = u :=
    State.modBay_same u b _ (by rw [hbay, ← hreassign, ← hformat])
  have hdrop : u.dropReports (.bay b) = u := by
    rw [hu]
    exact State.NoReports.drop ⟨hreports.queue, hreports.offered, hreports.going⟩
  have hrelease : u.releaseStaging (.bay b) = u := if_neg (by rwa [hu, State.moved_tell, State.moved_staging])
  have houtstanding : u.outstanding b = true := by
    have hset : u.slots = s.slots.set k r := by rw [hu]; exact hslots
    have hrec : u.slotRec k = r := by simp [State.slotRec, hset, hk]
    have hmem : k ∈ u.slotsWhere b fun y => y.purpose == some .mediaData && (y.state == .full || y.state == .draining) :=
      List.mem_filter.2 ⟨by simpa [hset] using hk, by simp [hrec, howner, hpurpose, hfull]⟩
    rw [State.outstanding, Bool.not_eq_true', List.isEmpty_eq_false_iff]
    exact List.ne_nil_of_mem hmem
  have hends : (s.moved b x).finishCmd b (CmdResult.plain .good .none) =
      u.modCmd b fun c => { c with result := some (CmdResult.plain .good .none) } := by
    simp only [State.finishCmd, State.moved_bay, hc, hr, hdropped, hfreed, hsame, hdrop, hrelease]
    simp [CmdResult.plain, ho, hs, houtstanding]
  rw [hends, hu]
  simp [State.modCmd, hc]

end

end Sys2Proof.Machine

namespace Sys2Proof.Machine

section
variable {s : State} {v : Visit} {j : Job} {c : Cmd} {k : Nat}

/-- An event whose sector is good, and whose visit then ends at the next poke. -/
theorem State.conclude_block {b : BayId} {x y z : Moves} {ms : List Signal} (h : s.calm) (hm : x.signals = [.sector b .good, .poke b])
    (hon : (s.moved b { x with signals := [.poke b] }).onSector b .good = s.moved b { y with signals := .poke b :: ms })
    (hgo : (s.moved b { y with signals := ms }).goOn b = s.moved b { y with chan := y.chan.released, signals := ms ++ [.poke b] })
    (hsettle : settle 398 (s.moved b { y with chan := y.chan.released, signals := ms ++ [.poke b] }) = s.moved b z)
    (hz : (s.moved b z).calm) : (s.moved b x).conclude = .next (s.moved b z) := by
  have hstart : x = { x with signals := .sector b .good :: [.poke b] } := by rw [← hm]
  refine State.conclude_msgs _ _ (State.moved_running x h.1) ?_ hz
  rw [show Config.messageBudget = 398 + 1 + 1 from rfl, hstart, settle_moved]
  show settle (398 + 1) ((s.moved b { x with signals := [.poke b] }).onSector b .good) = _
  rw [hon, settle_moved]
  show settle 398 ((s.moved b { y with signals := ms }).goOn b) = _
  rw [hgo, hsettle]

/-- A sector read whose check agrees. -/
theorem exec_dataFieldRead_clean (h : s.calm) (hv : s.chan.visit = some v) (hj : (s.bay v.bay).job = some j)
    (hp : v.phase = .reading) (hc : j.kind ≠ .certRead) (hk : ∀ u : State, u.jobSlot v.bay j = some k) (data : List Byte) :
    exec (.dataFieldRead data (Config.dataCheck data)) s =
      (s.moved v.bay ((s.moves v.bay).delivered v.bay j k .clean data .good)).conclude := by
  have hclean : decodeField { data, check := Config.dataCheck data } = (.clean, data) := decodeField_dataField data
  rw [exec_dataFieldRead_delivers h hv hj hp hc hk (by rw [hclean]; rfl), hclean]
  rfl

theorem State.LastBlock.noReports (hl : s.LastBlock v j c k) (h : s.calm) : s.NoReports (.bay v.bay) :=
  ⟨hl.frames.2.1, h.2.1.2.1, hl.frames.2.2⟩

/-- The slot of the last block is one of the buffer's. -/
theorem State.LastBlock.slot_lt (hl : s.LastBlock v j c k) : k < s.slots.length := by
  by_contra hge
  have howner := hl.slot.2
  rw [State.slotRec, List.getD_eq_getElem?_getD, List.getElem?_eq_none (by omega)] at howner
  exact absurd howner nofun

/-- The part between the last block's sector and the end of its visit: nothing has moved but the command, its slot and its frames. -/
structure State.BlockDone (s : State) (v : Visit) (z : Moves) : Prop where
  job : z.bay.job = none
  heads : z.bay.pos = (s.bay v.bay).pos
  cart : z.bay.cart = (s.bay v.bay).cart
  entry : z.bay.power.entry = (s.bay v.bay).power.entry
  noFrame : z.link.inFrame = s.link.inFrame
  visit : z.chan.visit = some { v with phase := .between }
  channel : z.chan.holder = s.chan.holder ∧ z.chan.waiter = s.chan.waiter
  ended : ∀ c, z.bay.slot = some c → c.result.isSome = true

/-- The visit then ends at the next poke. -/
theorem State.LastBlock.releases (hl : s.LastBlock v j c k) {z : Moves} (hz : s.BlockDone v z) (l : List Signal) :
    (s.moved v.bay { z with signals := l }).goOn v.bay =
      s.moved v.bay { z with chan := z.chan.released, signals := l ++ [.poke v.bay] } :=
  State.goOn_releases (x := { z with signals := l }) hz.job hz.visit rfl (hz.channel.1.trans hl.holder.1)
    (hz.channel.2.trans hl.holder.2)
    (by rw [hz.heads]; exact hl.heads.2) (hz.noFrame.trans hl.frames.1) hz.ended (hz.entry.trans hl.power.2.1)
    (by rw [hz.cart]; exact hl.bay.1)

/-- The last block of a READ (R138). -/
theorem State.LastBlock.read (hl : s.LastBlock v j c k) (h : s.calm) (hv : s.chan.visit = some v)
    (hj : (s.bay v.bay).job = some j) (data : List Byte) (hp : v.phase = .reading) (hk : j.kind = .mediaRead) (ho : c.op = .read)
    (hpurpose : (s.slotRec k).purpose = some .mediaData)
    (hroom : s.link.queue.length + s.link.reservations ≤ Config.dataInRoom) :
    exec (.dataFieldRead data (Config.dataCheck data)) s = .next ({ s with
      slots := s.slots.set k { (s.slotRec k) with state := .full, ecc := some .clean, data := data }
      chan := { s.chan with decoder := some .clean, holder := none, visit := none, gate := false }
      link := { s.link with queue := s.link.queue ++ [Desc.slotData v.bay k] } }.modBay v.bay fun y => { y with
        job := none
        slot := some { c with done := c.count, result := some (CmdResult.plain .good .none) } }) := by
  obtain ⟨-, hstop, hresult, hsilent, hrecovered⟩ := hl.working
  obtain ⟨hreassign, -, hformat⟩ := hl.noOther
  obtain ⟨hqueue, hoffered, hgoing⟩ := hl.noReports h
  have hslot' : ∀ u : State, u.jobSlot v.bay j = some k := fun u => by simp [State.jobSlot, hk, hl.slot.1]
  rw [exec_dataFieldRead_clean h hv hj hp (by rw [hk]; nofun) hslot' data]
  obtain ⟨x, hx⟩ : ∃ x, x = (s.moves v.bay).delivered v.bay j k .clean data .good := ⟨_, rfl⟩
  have hsignals : x.signals = [.sector v.bay .good, .poke v.bay] := by simp [hx, Moves.delivered, State.moves, h.2.1.1]
  have hvisit : x.chan.visit = some { v with phase := .between } := by simp [hx, Moves.delivered, State.moves, Channel.between, hv]
  obtain ⟨y, hy⟩ : ∃ y : Moves, y = { x with
    link := { s.link with queue := s.link.queue ++ [Desc.slotData v.bay k] }
    bay := { x.bay with job := none, slot := some { c with done := c.count } }, signals := [.poke v.bay] } := ⟨_, rfl⟩
  obtain ⟨z, hz⟩ : ∃ z : Moves, z = { y with
    bay := { y.bay with slot := some { c with done := c.count, result := some (CmdResult.plain .good .none) } } } := ⟨_, rfl⟩
  have hoffers : (s.moved v.bay { x with signals := [.poke v.bay] }).onSector v.bay .good =
      (s.moved v.bay y).finishCmd v.bay (CmdResult.plain .good .none) := by
    subst hy hx
    exact State.onSector_offers (j := { j with fieldRead := true }) rfl (.inl hk) hl.command hl.slot.1 hl.last hstop hrecovered ho
      h.2.1.2.1 hroom
  have hreports : (s.moved v.bay y).NoReports (.bay v.bay) := by
    refine ⟨fun d hd => ?_, by rw [hy]; exact hoffered, by rw [hy]; exact hgoing⟩
    rw [State.moved_link, hy, List.mem_append, List.mem_singleton] at hd
    rcases hd with hd | rfl
    · exact hqueue d hd
    · rfl
  have hwaits := State.finishCmd_waits (s := s) (b := v.bay) (x := y) (c := { c with done := c.count })
    (r := { (s.slotRec k) with state := .full, ecc := some .clean, data := data }) (by rw [hy]) (by rw [hy]) hresult hsilent ho
    (by rw [hy, hx]; rfl) hl.slot_lt hl.slot.2 hpurpose rfl hl.onlySlot (by rw [hy, hx]; exact hreassign)
    (by rw [hy, hx]; exact hformat) hreports hl.staging
  have hdone : s.BlockDone v z := by
    subst hz hy
    refine ⟨rfl, ?_, ?_, ?_, rfl, hvisit, ?_, by simp⟩ <;> rw [hx]
    exacts [rfl, rfl, rfl, ⟨rfl, rfl⟩]
  have hcalm : (s.moved v.bay { z with chan := z.chan.released, signals := [] }).calm := by
    refine State.moved_calm v.bay _ h rfl ⟨s.link.queue ++ [Desc.slotData v.bay k], s.link.reservations, s.link.inFrame, ?_⟩ ?_
    · rw [hz, hy]
    · rw [hz, hy, hx]
      exact h.2.1.class v.bay
  have hrests : ∀ l, (s.moved v.bay { z with chan := z.chan.released, signals := l }).deliver (.poke v.bay) =
      s.moved v.bay { z with chan := z.chan.released, signals := l } := fun l =>
    State.resulted_poke (x := { z with chan := z.chan.released }) hdone.job rfl (hdone.channel.2.trans hl.holder.2)
      (by rw [hdone.heads]; exact hl.heads.2) (hdone.noFrame.trans hl.frames.1) hdone.ended (hdone.entry.trans hl.power.2.1)
      (by rw [hdone.cart]; exact hl.bay.1) l
  rw [← hx, State.conclude_block (z := { z with chan := z.chan.released, signals := [] }) h hsignals
    (hoffers.trans (hwaits.trans (by rw [hz, hy]; rfl))) (hl.releases hdone _) ?_ hcalm]
  · subst hz hy hx
    refine congrArg _ (State.moved_put h.2.1.1.symm rfl rfl rfl ?_)
    simp only [Moves.delivered, hl.firstTry, Bay.counted_eq, eccCorrectable]
    rfl
  · exact settle_ignored (s.moved v.bay { z with chan := z.chan.released }) _ (fun m hm l => by
      obtain rfl : m = .poke v.bay := by simpa using hm
      exact hrests l) _ (by simp)

end

end Sys2Proof.Machine

namespace Sys2Proof.Machine

section
variable {s : State} {v : Visit} {j : Job} {c : Cmd} {k : Nat}

/-- A VERIFY or a WRITE that ends gives back no slot but that of its block, where the bay holds no other. -/
theorem State.freeCommandSlots_none {b : BayId} {x : Moves} (ho : c.op = .verify ∨ c.op = .write) (r : CmdResult)
    (h : ∀ r ∈ x.slots, r.owner ≠ some b) (hf : x.link.inFrame = none) :
    (s.moved b x).freeCommandSlots b c r = (s.moved b x).tell (.poke b) := by
  have hnone : ∀ p : SlotRec → Bool, (s.moved b x).freeWhere b p = s.moved b x := fun p =>
    State.freeWhere_none fun r hr hb => absurd hb (h r hr)
  have hlink : ∀ f : InFrame → InFrame, ({ x.link with inFrame := x.link.inFrame.map f } : Link) = x.link := fun f => by
    rw [hf, Option.map_none, ← hf]
  rcases ho with ho | ho <;> simp [State.freeCommandSlots, ho, hnone, hlink]

/-- The bay of a VERIFY or a WRITE that has completed. -/
def Bay.completed (y : Bay) (dmt : Dmt) : Bay := { y with
  slot := none, job := none
  power := { y.power with
    mode := .idle, unloadTimer := dmtTimer dmt.unloadTimer 1000000, standbyTimer := dmtTimer dmt.standbyTimer 60000000 } }

/-- The last block of a VERIFY or a WRITE completes it (R116, R117, R133). -/
theorem State.LastBlock.completes (hl : s.LastBlock v j c k) (h : s.calm) {x : Moves} {j' : Job}
    (hm : x.signals = [.sector v.bay .good, .poke v.bay]) (hbay : x.bay = { s.bay v.bay with job := some j' })
    (hk : j'.kind = .mediaRead ∨ j'.kind = .mediaVerify ∨ j'.kind = .mediaWrite) (hslots : j'.slots = [k])
    (ho : c.op = .verify ∨ c.op = .write) (hfree : x.slots.set k SlotRec.free = s.slots.set k SlotRec.free)
    (howner : (x.slots.getD k SlotRec.free).owner = some v.bay) (hvisit : x.chan.visit = some { v with phase := .between })
    (hchan : x.chan.holder = s.chan.holder ∧ x.chan.waiter = s.chan.waiter) (hlink : x.link = s.link) :
    (s.moved v.bay x).conclude = .next (s.moved v.bay { x with
      slots := s.slots.set k SlotRec.free, chan := x.chan.released
      link := s.link.posted (.status (.bay v.bay) .good .none c.count c.op.code)
      bay := (s.bay v.bay).completed s.dmt, signals := [] }) := by
  obtain ⟨-, hstop, hresult, hsilent, hrecovered⟩ := hl.working
  obtain ⟨hreassign, -, hformat⟩ := hl.noOther
  obtain ⟨hmode, hentry, hwake⟩ := hl.power
  have hread : c.op ≠ .read := by rcases ho with ho | ho <;> rw [ho] <;> nofun
  obtain ⟨y, hy⟩ : ∃ y : Moves, y = { x with
    slots := s.slots.set k SlotRec.free
    bay := { x.bay with job := none, slot := some { c with done := c.count } }
    signals := [.poke v.bay, .poke v.bay] } := ⟨_, rfl⟩
  obtain ⟨z, hz⟩ : ∃ z : Moves, z = { y with
    link := s.link.posted (.status (.bay v.bay) .good .none c.count c.op.code), bay := y.bay.unslotted s.dmt } := ⟨_, rfl⟩
  have hfrees : (s.moved v.bay { x with signals := [.poke v.bay] }).onSector v.bay .good =
      (s.moved v.bay y).finishCmd v.bay (CmdResult.plain .good .none) := by
    rw [hy, ← hfree]
    exact State.onSector_frees (x := { x with signals := [.poke v.bay] }) (by rw [hbay]) hk (by rw [hbay]; exact hl.command) hslots
      hl.last hstop hrecovered ho howner
  have hfinish : (s.moved v.bay y).finishCmd v.bay (CmdResult.plain .good .none) = s.moved v.bay { z with
      signals := .poke v.bay :: [.poke v.bay, .poke v.bay, .slotFreed v.bay, .poke v.bay] } := by
    have hreports := hl.noReports h
    rw [State.finishCmd_moved (c := { c with done := c.count }) (by rw [hy]) (by rw [hy]) hresult hsilent hread
      (State.freeCommandSlots_none ho _ (by rw [hy]; exact hl.onlySlot) (by rw [hy, hlink]; exact hl.frames.1))
      (by rw [hy, hbay]; exact hreassign) (by rw [hy, hbay]; exact hformat)
      ⟨by rw [State.moved_link, hy, hlink]; exact hreports.queue, by rw [State.moved_link, hy, hlink]; exact hreports.offered,
        by rw [State.moved_link, hy, hlink]; exact hreports.going⟩ hl.staging, hz, hy, hlink]
    rfl
  have hdone : s.BlockDone v z := by
    subst hz hy
    refine ⟨rfl, ?_, ?_, ?_, rfl, hvisit, hchan, by simp [Bay.unslotted]⟩ <;> rw [hbay] <;> rfl
  have hslot : z.bay.slot = none := by rw [hz]; rfl
  have hrests : z.bay.rests = true := by
    have hmounted : z.bay.cart.state = .mounted := by rw [hdone.cart]; exact hl.bay.1
    have hpos : z.bay.pos.rests = true := by rw [hdone.heads]; exact hl.heads.2
    simp [Bay.rests, hpos, Cartridge.rests, hmounted, hdone.entry, hentry, hdone.job, hslot]
  have hpower : z.bay.power.mode = .active ∧ z.bay.power.wake = none := by
    rw [hz, hy, hbay]
    exact ⟨hmode, hwake⟩
  have hsettle := settle_slotFreed (s := s) (b := v.bay) (x := { z with chan := z.chan.released }) hrests
    (hdone.noFrame.trans hl.frames.1) rfl (hdone.channel.2.trans hl.holder.2) hpower.1 hpower.2
    (by rw [hdone.heads]; exact hl.heads.1) (by rw [hdone.cart]; exact hl.bay.2) (ms := [.poke v.bay, .poke v.bay])
    (rest := [.poke v.bay, .poke v.bay]) (by simp) (by simp) (n := 398) (by simp)
  have hcalm : (s.moved v.bay { z with
      chan := z.chan.released, bay := { z.bay with power := { z.bay.power with mode := .idle } }, signals := [] }).calm := by
    refine State.moved_calm v.bay _ h rfl ⟨s.link.queue ++ [_], s.link.reservations - 1, s.link.inFrame, by rw [hz]; rfl⟩ ?_
    rw [hz, hy, hbay]
    exact (h.2.1.class v.bay).trans (by rw [hmode]; rfl)
  rw [State.conclude_block h hm (hfrees.trans hfinish) (hl.releases hdone _) hsettle hcalm]
  subst hz hy
  rw [hbay]
  rfl

end

end Sys2Proof.Machine

namespace Sys2Proof.Machine

section
variable {s : State} {v : Visit} {j : Job} {c : Cmd} {k : Nat}

/-- The last block of a VERIFY (R117, R140). -/
theorem State.LastBlock.verify (hl : s.LastBlock v j c k) (h : s.calm) (hv : s.chan.visit = some v)
    (hj : (s.bay v.bay).job = some j) (data : List Byte) (hp : v.phase = .reading) (hk : j.kind = .mediaVerify)
    (ho : c.op = .verify) :
    exec (.dataFieldRead data (Config.dataCheck data)) s = .next ({ s with
      slots := s.slots.set k SlotRec.free
      chan := { s.chan with decoder := some .clean, holder := none, visit := none, gate := false }
      link := s.link.posted (.status (.bay v.bay) .good .none c.count c.op.code) }.modBay v.bay fun y => y.completed s.dmt) := by
  have hslot' : ∀ u : State, u.jobSlot v.bay j = some k := fun u => by simp [State.jobSlot, hk, hl.slot.1]
  have howner : (((s.slots.set k { (s.slotRec k) with state := .full, ecc := some .clean, data := data }).getD k
      SlotRec.free).owner) = some v.bay := by
    simpa [hl.slot_lt] using hl.slot.2
  rw [exec_dataFieldRead_clean h hv hj hp (by rw [hk]; nofun) hslot' data,
    hl.completes (j' := { j with fieldRead := true }) h (by simp [Moves.delivered, State.moves, h.2.1.1])
      (by simp only [Moves.delivered, hl.firstTry, Bay.counted_eq, eccCorrectable]; rfl) (.inr (.inl hk)) hl.slot.1 (.inl ho)
      (List.set_set ..) howner (by simp [Moves.delivered, State.moves, Channel.between, hv]) ⟨rfl, rfl⟩ rfl]
  exact congrArg _ (State.moved_put h.2.1.1.symm rfl rfl rfl rfl)

/-- The last block of a WRITE (R116, R139). -/
theorem State.LastBlock.write (hl : s.LastBlock v j c k) (h : s.calm) (hv : s.chan.visit = some v)
    (hj : (s.bay v.bay).job = some j) (hp : v.phase = .writing) (hk : j.kind = .mediaWrite) (ho : c.op = .write)
    (hpurpose : (s.slotRec k).purpose = some .hostData) :
    exec .dataFieldWritten s = .next ({ s with
      slots := s.slots.set k SlotRec.free
      chan := { s.chan with
        gate := false, holder := none, visit := none
        lastWritten := some (j.sector.addr, dataField (s.slotRec k).data) }
      link := s.link.posted (.status (.bay v.bay) .good .none c.count c.op.code) }.modBay v.bay fun y => y.completed s.dmt) := by
  have hslot' : ∀ u : State, u.jobSlot v.bay j = some k := fun u => by simp [State.jobSlot, hk, hl.slot.1]
  have hpart : ¬ (s.slotRec k).isRecordPart = true := by simp [SlotRec.isRecordPart, hpurpose]
  have hslots : ((s.moves v.bay).written v.bay j k).slots = s.slots := if_neg hpart
  have hbay : ((s.moves v.bay).written v.bay j k).bay = { s.bay v.bay with job := some j } := by
    rw [← hj]
    simp only [Moves.written, Bay.counted_eq, hk]
    rfl
  rw [exec_dataFieldWritten_ends h hv hj hp hslot',
    hl.completes (j' := j) h (by simp [Moves.written, State.moves, h.2.1.1]) hbay (.inr (.inr hk)) hl.slot.1 (.inr ho)
      (by rw [hslots]) (by rw [hslots]; exact hl.slot.2) (by simp [Moves.written, State.moves, Channel.between, hv]) ⟨rfl, rfl⟩ rfl]
  exact congrArg _ (State.moved_put h.2.1.1.symm rfl rfl rfl rfl)

end

end Sys2Proof.Machine

namespace Sys2Proof
open Machine

/-- Settles O54: a clause for each way in which a data field's sector ends, by the operation whose sector it is. -/
theorem dataFieldsMoveTheRecord : Obligations.DataFieldsMoveTheRecord := by
  intro v j s h hv hj counted again freed quiet unformatted
  have hcounted : ∀ a y, counted a y = Bay.counted y a := fun a y => (Bay.counted_eq y a).symm
  refine ⟨fun data check hp hc hk he hd ht hstop hflush => exec_dataFieldRead_again h hv hj hp hc hk he hd ht hstop hflush,
    fun k n hs hn hslots hslot hvk htrack he hpos hf hentry => ⟨fun data check hp hk hc hd => ?_,
      fun f hp hk hflush hwriting hstop hc hpart => ?_⟩,
    fun k hs hslots hslot hpos hwake hholder hwaiter hf => ⟨fun data check row hp hk hc he hcmd hmode hentry hheld hrow hd => ?_,
      fun f t hp hk hflush hwriting ht hpart hformat hreassign hparked => ?_⟩,
    fun data check hp hk hc he hcmd hmode hentry hwake hpos hheld hholder hwaiter hf hd ht => ?_,
    fun c k hl => ⟨fun data hp hk ho hpurpose hroom => ?_, fun data hp hk ho => ?_, fun hp hk ho hpurpose => ?_⟩⟩
  · simp only [hcounted]
    exact exec_dataFieldRead_nextPart h hv hj hs hn hslots hslot hvk htrack he hpos hf hentry hp hk hc hd
  · simp only [hcounted]
    exact exec_dataFieldWritten_nextPart h hv hj hs hn hslots hslot hvk htrack he hpos hf hentry hp hk hflush hwriting hstop hc hpart
  · have hmounting : s.Mounting v j := ⟨h, hv, hj, hp, hk, he, hcmd, hmode, hentry, hpos, hholder, hwaiter, hf⟩
    intro slots image read
    simp only [read, hcounted]
    refine ⟨fun hok => hmounting.installs hs hslot hd rfl rfl hok hrow, fun d himage hne => ?_⟩
    subst himage
    exact hmounting.rejects hs hslot hd rfl rfl hne
  · have hflushing : s.Flushing v j k f t :=
      ⟨h, hv, hj, hp, hk, hs, hslot, hpart, hflush, ht, hpos, hparked, hholder, hwaiter, hf⟩
    intro written
    simp only [written, hcounted]
    refine ⟨fun c hr hcmd ho hwait hstop hresult hsilent hc he hmode hentry hqueue hgoing hstaging => ?_,
      fun e hr hentry hcmd hc hmode => ?_, fun e hr hstop hc he hphase hmode hentry hcmd => ?_⟩
    · exact hflushing.flushRecord hr hcmd ho hresult hsilent hc he hmode hentry hwake hreassign hformat
        ⟨hqueue, h.2.1.2.1, hgoing⟩ hstaging
    · exact hflushing.standby hr hentry hcmd hc hmode
    · exact hflushing.unmount hr hstop hc he hphase hentry hcmd
  · have hmounting : s.Mounting v j := ⟨h, hv, hj, hp, hk, he, hcmd, hmode, hentry, hpos, hholder, hwaiter, hf⟩
    exact hmounting.check_fails hd ht
  · exact hl.read h hv hj data hp hk ho hpurpose hroom
  · exact hl.verify h hv hj data hp hk ho
  · exact hl.write h hv hj hp hk ho hpurpose

end Sys2Proof

/-! The tests of EJECT (O31) and the immediate commands (O32). -/

namespace Sys2Proof.Machine

/-! ## Answers without a command slot (R133, R188) -/

/-- A STATUS after other descriptors that have their room, in a part that is calm but for them. -/
theorem State.calm.answered {s : State} (h : s.calm) (queue : List Desc) :
    ({ s with link := { s.link with queue } } : State).calm := ⟨h.1, h.2.1, h.2.2⟩

/-- A change of one bay outside Bay Power Control, with descriptors that have their room, is the whole of an event. -/
theorem State.conclude_queues {s : State} (h : s.calm) (b : BayId) (queue : List Desc) (f : Bay → Bay)
    (hf : ∀ x, (f x).power = x.power) :
    (({ s with link := { s.link with queue } } : State).modBay b f).conclude =
      .next (({ s with link := { s.link with queue } } : State).modBay b f) :=
  State.conclude_calm _ (State.calm_modBay _ b f (h.answered queue) (hf _))

section
variable {s : State} (h : s.calm) (b : BayId) (code : Byte)
include h

/-- A refusal BUSY or ILLEGAL_REQUEST ends with its STATUS. -/
theorem State.conclude_refuse_answers {c : Completion} (hc : c = .busy ∨ c = .illegalRequest) :
    (s.refuse b code (CmdResult.plain c .none)).conclude =
      .next { s with link := { s.link with queue := s.link.queue ++ [.status (.bay b) c .none 0 code] } } := by
  rw [State.refuse_answers s b code _ hc]
  exact s.conclude_answer h _ _ _ _

/-- Another refusal ends with its STATUS and its sense record, which names no block. -/
theorem State.conclude_refuse_senses {c : Completion} (hb : c ≠ .busy) (hi : c ≠ .illegalRequest) :
    (s.refuse b code (CmdResult.plain c .none)).conclude =
      .next (({ s with link := { s.link with
        queue := s.link.queue ++ [.status (.bay b) c .none 0 code] } } : State).modBay b fun x => { x with
          sense := { x.sense with
            completion := some c, detail := .none, command := code, lba := none, addr := none, count := 0 } }) := by
  have hsenses : ¬ ((CmdResult.plain c .none).completion = .busy ∨ (CmdResult.plain c .none).completion = .illegalRequest) :=
    not_or.2 ⟨hb, hi⟩
  rw [State.refuse, if_neg hsenses, State.writeSense_spec]
  refine Eq.trans ?_ (State.conclude_queues h b _ _ fun _ => rfl)
  cases b <;> rfl

end

/-! ## The tests of EJECT (R96) -/

section
variable {s : State} {b : BayId}

theorem State.takeEjectCommand_absent (hp : s.bayPresent b = false) (force : Bool) :
    s.takeEjectCommand b force = s.refuse b 0x20 (CmdResult.plain .illegalRequest .none) :=
  if_pos (by simp [hp])

variable (hp : s.bayPresent b = true)
include hp

theorem State.takeEjectCommand_busy (hs : (s.bay b).slot.isSome = true) (force : Bool) :
    s.takeEjectCommand b force = s.refuse b 0x20 (CmdResult.plain .busy .none) :=
  (if_neg (by simp [hp])).trans (if_pos hs)

variable (hs : (s.bay b).slot = none)
include hs

theorem State.takeEjectCommand_empty (hc : (s.bay b).cart.state = .empty) (force : Bool) :
    s.takeEjectCommand b force = s.refuse b 0x20 (CmdResult.plain .noCartridge .none) :=
  (if_neg (by simp [hp])).trans ((if_neg (by simp [hs])).trans (if_pos hc))

theorem State.takeEjectCommand_prevented (hc : (s.bay b).cart.state ≠ .empty) (hr : (s.bay b).cart.preventRemoval = true)
    (force : Bool) : s.takeEjectCommand b force = s.refuse b 0x20 (CmdResult.plain .prevented .none) :=
  (if_neg (by simp [hp])).trans ((if_neg (by simp [hs])).trans ((if_neg hc).trans (if_pos hr)))

end

end Sys2Proof.Machine

namespace Sys2Proof
open Machine

/-- Settles O31: each test that fails is a refusal, and a refusal is its STATUS with or without the sense record. -/
theorem ejectIsTestedFirst : Obligations.EjectIsTestedFirst := by
  intro b force s hears answered sensed
  have hexec : exec (.eject b force) s = (s.takeEjectCommand b force).conclude := hears.frame _ _
  rw [hexec]
  refine ⟨fun hp => ?_, fun hp hs => ?_, fun hp hs => ⟨fun hc => ?_, fun hc hr => ?_⟩⟩
  · rw [State.takeEjectCommand_absent hp]
    exact State.conclude_refuse_answers hears.calm b _ (.inr rfl)
  · rw [State.takeEjectCommand_busy hp hs]
    exact State.conclude_refuse_answers hears.calm b _ (.inl rfl)
  · rw [State.takeEjectCommand_empty hp hs hc]
    exact State.conclude_refuse_senses hears.calm b _ nofun nofun
  · rw [State.takeEjectCommand_prevented hp hs hc hr]
    exact State.conclude_refuse_senses hears.calm b _ nofun nofun

end Sys2Proof

namespace Sys2Proof.Machine

/-! ## PREVENT, ALLOW, REQUEST SENSE and PEEK (R107, R188, R189) -/

/-- An immediate command aimed at an absent bay is refused ILLEGAL_REQUEST. -/
theorem exec_immediate_absent {s : State} (h : s.hears) {b : BayId} (hp : s.bayPresent b = false) {i : Instr} {code : Byte}
    (hi : (i, code) ∈ [(Instr.prevent b, (0x21 : Byte)), (.allow b, 0x22), (.requestSense b, 0x31), (.peek b, 0x32)]) :
    exec i s = (s.refuse b code (CmdResult.plain .illegalRequest .none)).conclude := by
  simp only [List.mem_cons, Prod.mk.injEq, List.not_mem_nil, or_false] at hi
  obtain ⟨rfl, rfl⟩ | ⟨rfl, rfl⟩ | ⟨rfl, rfl⟩ | ⟨rfl, rfl⟩ := hi
  all_goals exact (h.frame _ _).trans (congrArg State.conclude (if_pos (by simp [hp])))

section
variable {s : State} (h : s.hears) {b : BayId} (hp : s.bayPresent b = true)
include h hp

theorem exec_prevent (hc : (s.bay b).cart.state ≠ .empty) : exec (.prevent b) s =
    ((s.modCart b fun c => { c with preventRemoval := true }).answer (.bay b) .good .none 0x21).conclude :=
  (h.frame _ _).trans (congrArg State.conclude ((if_neg (by simp [hp])).trans (if_neg hc)))

theorem exec_prevent_empty (hc : (s.bay b).cart.state = .empty) : exec (.prevent b) s =
    (s.refuse b 0x21 (CmdResult.plain .noCartridge .none)).conclude :=
  (h.frame _ _).trans (congrArg State.conclude ((if_neg (by simp [hp])).trans (if_pos hc)))

theorem exec_allow : exec (.allow b) s =
    ((s.modCart b fun c => { c with preventRemoval := false }).answer (.bay b) .good .none 0x22).conclude :=
  (h.frame _ _).trans (congrArg State.conclude (if_neg (by simp [hp])))

theorem exec_requestSense : exec (.requestSense b) s =
    (((s.enqueue (.report (.bay b) (.bytes (senseBytes (s.bay b).sense)) false)).answer (.bay b) .good .none 0x31).modBay b
      fun x => { x with sense := Sense.reset }).conclude :=
  (h.frame _ _).trans (congrArg State.conclude (if_neg (by simp [hp])))

theorem exec_peek : exec (.peek b) s =
    ((s.enqueue (.report (.bay b) (.bytes (s.peekPayload b)) false)).answer (.bay b) .good .none 0x32).conclude :=
  (h.frame _ _).trans (congrArg State.conclude (if_neg (by simp [hp])))

end

/-- A change of the Cartridge Handler and a STATUS are made in either order. -/
theorem State.modCart_answer (s : State) (b : BayId) (f : Cartridge → Cartridge) (target : BayField) (c : Completion) (d : Detail)
    (code : Byte) : (s.modCart b f).answer target c d code =
      ({ s with link := { s.link with queue := s.link.queue ++ [.status target c d 0 code] } } : State).modBay b fun x => { x with
        cart := f x.cart } := by
  cases b <;> rfl

end Sys2Proof.Machine

namespace Sys2Proof
open Machine

/-- Settles O32: each command is a change of one item of the bay, if any, and its descriptors. -/
theorem immediateCommandsComplete : Obligations.ImmediateCommandsComplete := by
  intro b s hears answered
  have h := hears.calm
  refine ⟨fun hp => ⟨fun hc => ?_, fun hc => ?_, ?_, ?_, ?_⟩, fun hp ic hi => ?_⟩ <;> simp only [answered, List.append_nil]
  · rw [exec_prevent hears hp hc, State.modCart_answer]
    exact State.conclude_queues h b _ _ fun _ => rfl
  · rw [exec_prevent_empty hears hp hc]
    exact State.conclude_refuse_senses h b _ nofun nofun
  · rw [exec_allow hears hp, State.modCart_answer]
    exact State.conclude_queues h b _ _ fun _ => rfl
  · rw [exec_requestSense hears hp]
    exact State.conclude_queues h b _ _ fun _ => rfl
  · rw [exec_peek hears hp]
    exact State.conclude_calm _ (h.answered _)
  · rw [exec_immediate_absent hears hp hi]
    exact State.conclude_refuse_answers h b _ (.inr rfl)

end Sys2Proof

/-! Cartridges that come and go (O46), and the timers of the Cartridge Handler (O51). -/

namespace Sys2Proof.Machine

/-! ## A poke that reaches the cartridge state alone (R102, R111, R112) -/

/-- Nothing of a bay has a step to take but, perhaps, its cartridge state. -/
structure State.WorkRests (s : State) (b : BayId) : Prop where
  heads : (s.bay b).pos.rests = true
  entry : (s.bay b).power.entry = none
  slot : (s.bay b).job = none → (s.bay b).slot = none
  job : ∀ j, (s.bay b).job = some j → j.still
  noFrame : s.link.inFrame = none
  noVisit : s.visiting b = false
  noWait : s.chan.waiter ≠ some b

theorem State.bayRests_work {s : State} {b : BayId} (h : s.bayRests b = true) : s.WorkRests b := by
  simp only [State.bayRests, Bool.and_eq_true, Bool.not_eq_true', bne_iff_ne, Option.isNone_iff_eq_none, Bay.rests] at h
  obtain ⟨⟨⟨⟨⟨⟨hheads, -⟩, hentry⟩, hwork⟩, hframe⟩, hvisit⟩, hwait⟩ := h
  refine ⟨hheads, hentry, fun hjob => ?_, fun j hjob => ?_, hframe, hvisit, hwait⟩
  · simpa only [hjob, Option.isNone_iff_eq_none] using hwork
  · simp only [hjob, Bool.and_eq_true, bne_iff_ne, Bool.not_eq_true'] at hwork
    exact ⟨hwork.1.1, hwork.1.2, hwork.2⟩

namespace State.WorkRests

variable {s : State} {b : BayId} (h : s.WorkRests b)
include h

theorem goOn : s.goOn b = s.stepCart b := by
  refine s.goOn_still b h.heads h.noFrame ?_ h.job h.noVisit h.noWait (by simp [State.stepStandby, h.entry])
  unfold State.stepCommand
  cases hslot : (s.bay b).slot with
  | none => rfl
  | some c =>
    cases hjob : (s.bay b).job with
    | none => cases (h.slot hjob).symm.trans hslot
    | some j => simp

/-- Updates of the bay that leave its command and its sector operation give it no work. -/
theorem modBay (f : Bay → Bay) (hf : ∀ x, x = s.bay b → (f x).pos.rests = true ∧ (f x).power.entry = none ∧
    (f x).slot = x.slot ∧ (f x).job = x.job) : (s.modBay b f).WorkRests b := by
  obtain ⟨hheads, hentry, hslot, hjob⟩ := hf _ rfl
  have hbay := s.bay_modBay b f
  refine ⟨by rwa [hbay], by rwa [hbay], ?_, ?_, ?_, ?_, ?_⟩
  · rw [hbay, hslot, hjob]
    exact h.slot
  · rw [hbay, hjob]
    exact h.job
  · cases b <;> exact h.noFrame
  · cases b <;> exact h.noVisit
  · cases b <;> exact h.noWait

theorem withSignals (l : List Signal) : ({ s with signals := l } : State).WorkRests b := by
  cases b <;> exact ⟨h.heads, h.entry, h.slot, h.job, h.noFrame, h.noVisit, h.noWait⟩

/-- With a cartridge state that has no step to take either, the bay rests. -/
theorem bayRests (hc : (s.bay b).cart.rests = true) : s.bayRests b = true := by
  simp only [State.bayRests, Bay.rests, Bool.and_eq_true, Bool.not_eq_true', bne_iff_ne, Option.isNone_iff_eq_none]
  refine ⟨⟨⟨⟨⟨⟨h.heads, hc⟩, h.entry⟩, ?_⟩, h.noFrame⟩, h.noVisit⟩, h.noWait⟩
  cases hjob : (s.bay b).job with
  | none => simp [h.slot hjob]
  | some j => simpa [and_assoc] using h.job j hjob

/-- An event that ends with one poke of such a bay ends with the step of its cartridge state. -/
theorem conclude_step (hs : s.calm) {w : State} (hstep : s.stepCart b = w) (hw : w.calm) :
    (s.tell (.poke b)).conclude = .next w := by
  have hdeliver : ({ s.tell (.poke b) with signals := [] } : State).deliver (.poke b) = w :=
    (congrArg (fun u : State => u.goOn b) (State.signals_same s hs.2.1.1)).trans (h.goOn.trans hstep)
  refine State.conclude_msgs _ w hs.1 ?_ hw
  rw [show Config.messageBudget = 399 + 1 from rfl, settle_cons 399 _ (.poke b) [] (by simp [State.tell, hs.2.1.1]), hdeliver,
    settle_nil _ _ hw.2.1.1]

end State.WorkRests

/-- An event that makes of one bay what is told, its readiness class in step with its mode. -/
theorem State.calm.conclude_bay {s : State} (h : s.calm) {b : BayId} {f g : Bay → Bay} (hfg : f (s.bay b) = g (s.bay b))
    (hg : (g (s.bay b)).power.readiness = (g (s.bay b)).power.mode.readiness) :
    (s.modBay b f).conclude = .next (s.modBay b g) := by
  rw [State.modBay_congr hfg, State.conclude_modBay s b g h hg]

/-! ## The present switch (R89, R92) -/

section
variable {s : State} (h : s.calm) {b : BayId} (hp : s.bayPresent b = true)
include h hp

theorem exec_presentAccepted : exec (.presentAccepted b) s =
    ((s.modCart b fun c => { c with cartridgeIn := true }).cartridgeArrives b).conclude := by
  change execPresentAccepted b s = _
  rw [execPresentAccepted, h.sensor hp]

end

theorem State.cartridgeArrives_empty {s : State} {b : BayId} (hc : (s.bay b).cart.state = .empty) :
    s.cartridgeArrives b = s.modBay b fun x => { x with
      cart := { x.cart with state := .seated, settleTimer := some 500000 }
      attn := { x.attn with
        inserted := { raised := true, payload := if (s.bay b).cart.wpProtected then 1 else 0 } } } := by
  rw [State.cartridgeArrives, if_pos hc, State.modCart, State.raise, State.modBay_modBay]
  rfl

theorem State.cartridgeArrives_other {s : State} {b : BayId} (hc : (s.bay b).cart.state ≠ .empty) : s.cartridgeArrives b = s :=
  if_neg hc

/-- A cartridge that leaves SEATED: the bay is EMPTY, and a start-up release that it owes may follow. -/
theorem State.cartridgeLeaves_seated {s : State} {b : BayId} (hc : (s.bay b).cart.state = .seated) :
    s.cartridgeLeaves b = (s.modBay b fun x => { x with
      cart := { x.cart with state := .empty, settleTimer := none }
      attn := { x.attn with removed := { raised := true, payload := 0 } } }).offerStartup b := by
  simp only [State.cartridgeLeaves, hc, State.modCart, State.raise, State.modBay_modBay]
  rfl

/-! ## The start-up release that a bay owes (R90, R112) -/

section
variable {s : State} {b : BayId} (hc : (s.bay b).cart.state = .empty)
include hc

theorem State.stepCart_releases (hr : (s.bay b).cart.startupRelease = true) (hp : (s.bay b).pos.confirmedParked = true)
    (hs : (s.bay b).spindle.atRest = true) : s.stepCart b = s.modCart b fun c => { c with
      lockPulse := false, releasePulse := true, pulseTimer := some 50000, releaseConfirm := some 200000
      startupRelease := false } := by
  have hstep : s.stepCart b = (s.driveRelease b).modCart b fun c => { c with startupRelease := false } := by
    simp [State.stepCart, hc, State.stepStartup, hp, hs, hr]
  rw [hstep, State.driveRelease, State.modCart, State.modCart, State.modBay_modBay]
  rfl

theorem State.stepCart_owes (h : ¬ ((s.bay b).pos.confirmedParked = true ∧ (s.bay b).spindle.atRest = true)) :
    s.stepCart b = s := by
  simp only [State.stepCart, hc, State.stepStartup]
  exact if_neg (by simpa only [Bool.and_eq_true] using h)

end

end Sys2Proof.Machine

namespace Sys2Proof
open Machine

/-- Settles O46: a cartridge changes one bay, and the poke of a bay that owes its start-up release finds whether it may be issued. -/
theorem cartridgeComesAndGoes : Obligations.CartridgeComesAndGoes := by
  intro b s h hp c
  have hcalm : ∀ f : Bay → Bay, (∀ x, (f x).power = x.power) → (s.modBay b f).calm := fun f hf => s.calm_modBay b f h (hf _)
  refine ⟨fun hc => ⟨?_, ?_⟩, fun hc => ?_, fun hc => ?_⟩
  · rw [exec_presentAccepted h hp, State.cartridgeArrives_empty (by simpa), State.modCart, State.modBay_modBay]
    exact h.conclude_bay (by simp [c]) (h.2.1.class b)
  · have hstays : ∀ u : State, (u.bay b).cart.state = .empty → u.cartridgeLeaves b = u := fun u hu => by
      simp only [State.cartridgeLeaves, hu]
    rw [exec_presentLost h hp, hstays _ (by simpa), State.conclude_modCart h]
    rfl
  · rw [exec_presentAccepted h hp, State.cartridgeArrives_other (by simpa), State.conclude_modCart h]
    rfl
  · intro left gone still
    have hleaves : exec (.presentLost b) s = ((gone left).offerStartup b).conclude := by
      rw [exec_presentLost h hp, State.cartridgeLeaves_seated (by simpa), State.modCart, State.modBay_modBay]
      exact congrArg (fun u : State => (u.offerStartup b).conclude) (State.modBay_congr rfl)
    have hbay : (gone left).bay b = { s.bay b with
        cart := left, attn := { (s.bay b).attn with removed := { raised := true, payload := 0 } } } := s.bay_modBay b _
    have hgone : (gone left).calm := hcalm _ fun _ => rfl
    rw [hleaves]
    refine ⟨fun hr => ?_, fun hr hrests => ?_⟩
    · rw [((gone left).offerStartup_spec b).1 (by rw [hbay]; exact hr), State.conclude_calm _ hgone]
    · have hwork : (gone left).WorkRests b := (State.bayRests_work hrests).modBay _ fun x hx =>
        ⟨hx ▸ (State.bayRests_work hrests).heads, hx ▸ (State.bayRests_work hrests).entry, rfl, rfl⟩
      have hempty : ((gone left).bay b).cart.state = .empty := by rw [hbay]
      rw [((gone left).offerStartup_spec b).2 (by rw [hbay]; exact hr)]
      refine ⟨fun hstill => ?_, fun hstill => ?_⟩
      · refine hwork.conclude_step hgone ?_ (hcalm _ fun _ => rfl)
        rw [State.stepCart_releases hempty (by rw [hbay]; exact hr) (by rw [hbay]; exact hstill.1) (by rw [hbay]; exact hstill.2),
          State.modCart, State.modBay_modBay]
      · exact hwork.conclude_step hgone (State.stepCart_owes hempty (by rw [hbay]; exact hstill)) hgone

end Sys2Proof

namespace Sys2Proof.Machine

/-! ## The timers of the Cartridge Handler (R90, R92, R102) -/

section
variable {s : State} (h : s.calm) {b : BayId} (hp : s.bayPresent b = true)
include h hp

theorem exec_settleTimerExpiry (ht : (s.bay b).cart.settleTimer.isSome = true) (hc : (s.bay b).cart.state = .seated) :
    exec (.settleTimerExpiry b) s = ((s.modCart b fun c => { c with settleTimer := none }).issueLock b 1).conclude :=
  (s.bayAct_taken b _ (s.bayLive_of b h.1 hp) h.1.2).trans (congrArg State.conclude (if_pos (by simp [ht, hc])))

theorem exec_pulseEnd : exec (.pulseEnd b) s =
    (s.modCart b fun c => { c with lockPulse := false, releasePulse := false, pulseTimer := none }).conclude := by
  change execPulseEnd b s = _
  rw [execPulseEnd, s.bayAct_taken b _ (s.bayLive_of b h.1 hp) h.1.2]

theorem exec_lockConfirmExpiry (ht : (s.bay b).cart.lockConfirm.isSome = true) :
    exec (.lockConfirmExpiry b) s = (s.lockUnconfirmed b).conclude :=
  (s.bayAct_taken b _ (s.bayLive_of b h.1 hp) h.1.2).trans (congrArg State.conclude (if_pos ht))

theorem exec_releaseConfirmExpiry (ht : (s.bay b).cart.releaseConfirm.isSome = true) :
    exec (.releaseConfirmExpiry b) s = (s.releaseUnconfirmed b).conclude :=
  (s.bayAct_taken b _ (s.bayLive_of b h.1 hp) h.1.2).trans (congrArg State.conclude (if_pos ht))

end

/-- The Cartridge Handler with a lock pulse driven in its window (R90, R92). -/
def Cartridge.locking (c : Cartridge) (attempts : Nat) : Cartridge := { c with
  state := .locking, lockAttempts := attempts, lockPulse := true, releasePulse := false, pulseTimer := some 50000
  lockConfirm := some 200000, startupWait := false }

/-- The Cartridge Handler with a release pulse driven in its window (R90, R102). -/
def Cartridge.releasing (c : Cartridge) (attempts : Nat) : Cartridge := { c with
  state := .releasing, lockAttempts := attempts, lockPulse := false, releasePulse := true, pulseTimer := some 50000
  releaseConfirm := some 200000, eject := c.eject.map fun e => { e with phase := .release } }

section
variable {s : State} {b : BayId}

/-- A lock pulse under a lock sense that reads open waits for its confirmation. -/
theorem State.issueLock_waits (hl : (s.bay b).cart.lockEngaged = false) (attempts : Nat) :
    s.issueLock b attempts = s.modCart b fun c => c.locking attempts :=
  if_neg (by simp [hl])

/-- A release pulse under a lock sense that reads engaged waits for its confirmation. -/
theorem State.issueRelease_waits (hl : (s.bay b).cart.lockEngaged = true) (attempts : Nat) :
    s.issueRelease b attempts = s.modCart b fun c => c.releasing attempts := by
  rw [State.issueRelease, if_pos hl, State.driveRelease, State.ejectPhase, State.modCart, State.modCart, State.modCart,
    State.modBay_modBay, State.modBay_modBay]
  rfl

/-- The first window of a lock pulse ends, with no cancelled start, in the second pulse. -/
theorem State.lockUnconfirmed_again (hc : (s.bay b).cart.state = .locking) (he : (s.bay b).cart.eject = none)
    (ha : (s.bay b).cart.lockAttempts < 2) :
    s.lockUnconfirmed b = (s.modCart b fun c => { c with lockConfirm := none }).issueLock b 2 :=
  (if_neg (by simp [hc])).trans ((if_neg (by simp [he])).trans (if_pos ha))

/-- The second window of a lock pulse ends in a fault. -/
theorem State.lockUnconfirmed_fails (hc : (s.bay b).cart.state = .locking) (he : (s.bay b).cart.eject = none)
    (ha : 2 ≤ (s.bay b).cart.lockAttempts) :
    s.lockUnconfirmed b = (s.modCart b fun c => { c with lockConfirm := none }).bayFault b .lock :=
  (if_neg (by simp [hc])).trans ((if_neg (by simp [he])).trans (if_neg (by omega)))

theorem State.releaseUnconfirmed_again (hc : (s.bay b).cart.state = .releasing) (ha : (s.bay b).cart.lockAttempts < 2) :
    s.releaseUnconfirmed b = (s.modCart b fun c => { c with releaseConfirm := none }).tell (.poke b) :=
  (if_neg (by simp [hc])).trans (if_pos ha)

theorem State.releaseUnconfirmed_fails (hc : (s.bay b).cart.state = .releasing) (ha : 2 ≤ (s.bay b).cart.lockAttempts) :
    s.releaseUnconfirmed b = (s.modCart b fun c => { c with releaseConfirm := none }).bayFault b .lock :=
  (if_neg (by simp [hc])).trans (if_neg (by omega))

/-- Once its window is over, the second release pulse of RELEASING waits for the heads and the spindle alone. -/
theorem State.stepCart_releasesAgain (hc : (s.bay b).cart.state = .releasing) (hr : (s.bay b).cart.releaseConfirm = none)
    (hp : (s.bay b).pos.confirmedParked = true) (hs : (s.bay b).spindle.atRest = true) :
    s.stepCart b = s.issueRelease b 2 := by
  simp only [State.stepCart, hc, State.stepRelease]
  exact if_pos (by simp [hr, hp, hs])

/-! ## The second expiry (R110) -/

/-- A fault from RELEASING clears the eject request, whatever it was. -/
theorem State.bayFault_releasing (hc : (s.bay b).cart.state = .releasing) (d : FaultDetail) :
    s.bayFault b d = (s.modCart b fun c => { c with eject := none }).bayFault b d := by
  have hne : (s.bay b).cart.state ≠ .bayFault := by simp [hc]
  have hne' : ((s.modCart b fun c => { c with eject := none }).bay b).cart.state ≠ .bayFault := by simpa
  rw [State.bayFault, State.bayFault, if_neg hne, if_neg hne']
  simp only [State.modCart, State.modBay_modBay, State.bay_modBay, hc, beq_self_eq_true, if_true]

/-- BAY_FAULT of a bay without work and with its cartridge in place, its power mode UNMOUNTED already. -/
theorem State.Untasked.conclude_bayFault {s : State} {b : BayId} (hu : s.Untasked b) (h : s.calm)
    (hc : (s.bay b).cart.state ≠ .bayFault) (hi : (s.bay b).cart.cartridgeIn = true) (hp : (s.bay b).pos.rests = true)
    (hm : (s.bay b).power.mode = .unmounted) {d : FaultDetail} (hd : ∀ a, d ≠ .actuator a) :
    (s.bayFault b d).conclude = .next (s.modBay b fun x => x.faulted d) := by
  have hcalm : (s.modBay b fun x => x.faulted d).calm :=
    State.calm_modBay_class h (by rw [Bay.faulted]; exact (h.2.1.class b).trans (by rw [hm]))
  rw [hu.bayFault hc hd, State.tell_tell hcalm.2.1.1]
  refine State.conclude_ignored hcalm _ (fun m hm l => ?_) (by simp)
  have hpoke : m = .poke b := by simpa using hm
  rw [hpoke]
  have hwork : (s.modBay b fun x => x.faulted d).WorkRests b := by
    have hbay := s.bay_modBay b fun x => x.faulted d
    refine ⟨?_, ?_, fun _ => ?_, ?_, ?_, ?_, ?_⟩
    · rw [hbay]
      simpa [Bay.faulted, Positioner.rests] using hp
    · rw [hbay]
      rfl
    · rw [hbay]
      exact hu.slot
    · simp [Bay.faulted, hu.job]
    · cases b <;> exact hu.noFrame
    · cases b <;> exact hu.noVisit
    · cases b <;> exact hu.noWait
  refine State.deliver_poke _ _ ((hwork.withSignals l).bayRests ?_)
  rw [State.bay_signals, State.bay_modBay]
  simp [Bay.faulted, Cartridge.rests, hi, hu.eject]

/-- A bay without work after the second expiry of a window (R92, R102, R110). -/
def Bay.lockFailed (y : Bay) : Bay := { y with
  cart := { y.cart with
    state := .bayFault, fault := .lock, settleTimer := none, lockConfirm := none, releaseConfirm := none
    startupWait := false, eject := none }
  power := { y.power with unloadTimer := none, standbyTimer := none, wake := none }
  attn := { y.attn with bayFault := { raised := true, payload := 0x20 } }
  ledLit := true }

/-- The lock is not confirmed, or not released, in a bay without work whose heads are parked and expect no answer (R92, R102). -/
theorem State.Untasked.conclude_lockFails {s : State} {b : BayId} (hu : s.Untasked b) (h : s.calm)
    (hc : (s.bay b).cart.state ≠ .bayFault) (hi : (s.bay b).cart.cartridgeIn = true) (hp : (s.bay b).pos.state = .parked)
    (hseek : (s.bay b).pos.seekFor = .nobody) (hheld : (s.bay b).pos.heldSeekOwned = false)
    (hm : (s.bay b).power.mode = .unmounted) (he : (s.bay b).power.entry = none) :
    (s.bayFault b .lock).conclude = .next (s.modBay b Bay.lockFailed) := by
  rw [hu.conclude_bayFault h hc hi (by simp [Positioner.rests, hp]) hm (d := .lock) (fun _ => nofun)]
  refine congrArg _ (State.modBay_congr ?_)
  simp [Bay.faulted, Bay.lockFailed, FaultDetail.code, Positioner.noSeek_same hseek hheld, hm, he, hu.eject]

end

end Sys2Proof.Machine

namespace Sys2Proof
open Machine

/-- Settles O51: an expiry is a further pulse or, the second time, a fault; the pulse of RELEASING waits for its bay, which is poked. -/
theorem cartridgeTimersDriveThePulses : Obligations.CartridgeTimersDriveThePulses := by
  intro b s h hp c with_ locking
  have hcarts : ∀ x : Cartridge, (with_ x).conclude = .next (with_ x) := fun x => s.conclude_modBay b _ h (h.2.1.class b)
  have hmod : ∀ (f : Cartridge → Cartridge) (x : Cartridge), f c = x → s.modCart b f = with_ x := fun f x hx =>
    State.modBay_congr (by simp only [← hx, c])
  have hagain : ∀ f g : Cartridge → Cartridge, (s.modCart b f).modCart b g = s.modCart b fun x => g (f x) := fun f g =>
    s.modBay_modBay b _ _
  refine ⟨fun ht hc hl => ?_, ?_, fun ht hc he ha hl => ?_, fun ht hc ha hl hpos hs hw hslot hjob hentry hf hv hwait => ?_, ?_⟩
  · rw [exec_settleTimerExpiry h hp ht hc, State.issueLock_waits (by simpa), hagain, hmod _ _ rfl]
    exact hcarts _
  · rw [exec_pulseEnd h hp, hmod _ _ rfl]
    exact hcarts _
  · rw [exec_lockConfirmExpiry h hp ht, State.lockUnconfirmed_again hc he ha, State.issueLock_waits (by simpa), hagain,
      hmod _ _ rfl]
    exact hcarts _
  · have hwork : s.WorkRests b := ⟨by simp [Positioner.rests, hpos], hentry, fun _ => hslot, by simp [hjob], hf, hv, hwait⟩
    have hcalm : ∀ x, (with_ x).calm := fun x => s.calm_modBay b _ h rfl
    have hwaits : (with_ { c with releaseConfirm := none }).WorkRests b :=
      hwork.modBay _ fun x hx => ⟨hx ▸ hwork.heads, hx ▸ hentry, rfl, rfl⟩
    rw [exec_releaseConfirmExpiry h hp ht, State.releaseUnconfirmed_again hc ha, hmod _ _ rfl]
    refine hwaits.conclude_step (hcalm _) ?_ (hcalm _)
    rw [State.stepCart_releasesAgain (by simpa [with_]) (by simp [with_]) (by simp [with_, Positioner.confirmedParked, hpos])
      (by simp [with_, Spindle.atRest, hs, hw]), State.issueRelease_waits (by simpa [with_]), State.modCart, State.modBay_modBay]
    refine State.modBay_congr ?_
    rw [Cartridge.releasing, ← hc]
  · intro i hi ha hin hslot hjob hformat hflush hreassign hpos hseek hheld hmode hentry hclean hslots hv hwait hf
    have hfails : ∀ x : Cartridge, x.eject = none → x.state ≠ .bayFault → x.cartridgeIn = true →
        ((with_ x).bayFault b .lock).conclude = .next ((with_ x).modBay b Bay.lockFailed) := by
      intro x heject hstate hin
      have hbay : (with_ x).bay b = { s.bay b with cart := x } := s.bay_modBay b _
      refine State.Untasked.conclude_lockFails ?_ (s.calm_modBay b _ h rfl) ?_ ?_ ?_ ?_ ?_ ?_ ?_ <;> try rwa [hbay]
      refine ⟨?_, ?_, ?_, ?_, ?_, ?_, ?_, ?_, ?_, ?_, ?_⟩ <;> try rwa [hbay]
      all_goals cases b <;> assumption
    obtain ⟨rfl, ht, hc, he⟩ | ⟨rfl, ht, hc⟩ := hi
    · rw [exec_lockConfirmExpiry h hp ht, State.lockUnconfirmed_fails hc he ha, hmod _ _ rfl]
      exact (hfails { c with lockConfirm := none } he (by simp [hc]) hin).trans (congrArg _ (s.modBay_modBay b _ _))
    · rw [exec_releaseConfirmExpiry h hp ht, State.releaseUnconfirmed_fails hc ha, State.bayFault_releasing (by simpa), hagain,
        hmod _ _ rfl]
      exact (hfails { c with releaseConfirm := none, eject := none } rfl (by simp [hc]) hin).trans
        (congrArg _ (s.modBay_modBay b _ _))

end Sys2Proof

/-! The link reset and its release (O15). -/

namespace Sys2Proof.Machine

/-! ## LINK_RESET_RELEASE (R179, R192) -/

theorem exec_linkResetRelease {s : State} (hr : s.running) (h : s.settled) :
    exec .linkResetRelease s = .next (s.modLink fun l => { l with lrst := false }).kick :=
  State.conclude_settled _ hr h

/-! ## LINK_RESET (R113, R162, R172, R179, R188, R190) -/

/-- A bay without a command at a link reset. -/
def Bay.linkReset (x : Bay) (dmt : Dmt) : Bay := { x with
  sense := Sense.reset
  attn := {
    inserted := { x.attn.inserted with raised := false }
    removed := { x.attn.removed with raised := false }
    ejectRequest := { x.attn.ejectRequest with raised := false }
    readiness := { x.attn.readiness with raised := false }
    recordDiscarded := { x.attn.recordDiscarded with raised := false }
    bayFault := { x.attn.bayFault with raised := false } }
  cart := { x.cart with
    preventRemoval := false
    unitChanged := x.cart.unitChanged || x.cart.state == .mounted || x.cart.state == .unformatted }
  power := { x.power with
    unloadTimer := dmtTimer dmt.unloadTimer 1000000
    standbyTimer := dmtTimer dmt.standbyTimer 60000000 } }

theorem State.freeWhere_never (s : State) (b : BayId) {p : SlotRec → Bool} (hp : ∀ r, p r = false) : s.freeWhere b p = s := by
  have hslots : (s.slots.map fun r => if r.owner == some b && p r then SlotRec.free else r) = s.slots :=
    (List.map_congr_left fun r _ => if_neg (by simp [hp])).trans (List.map_id _)
  rw [State.freeWhere, hslots]

theorem State.linkResetBay_free {s : State} {b : BayId} (hs : (s.bay b).slot = none) :
    s.linkResetBay b = if s.bayPresent b then s.modBay b fun x => x.linkReset s.dmt else s := by
  by_cases hp : s.bayPresent b = true
  · rw [State.linkResetBay, if_neg (by simp [hp]), if_pos hp]
    dsimp only
    rw [State.freeWhere_never _ _ (by simp [hs])]
    simp [State.endSilently, State.restartIdleTimers, State.modPower, State.modBay_modBay, hs, Bay.linkReset]
  · rw [State.linkResetBay, if_pos (by simpa using hp), if_neg hp]

theorem State.linkResetBays_free {s : State} (ha : s.bayA.slot = none) (hb : s.bayB.slot = none) :
    (s.linkResetBay .bayA).linkResetBay .bayB =
      { s with bayA := s.bayA.linkReset s.dmt, bayB := if s.twoBays then s.bayB.linkReset s.dmt else s.bayB } := by
  have hA : s.linkResetBay .bayA = { s with bayA := s.bayA.linkReset s.dmt } := State.linkResetBay_free (b := .bayA) ha
  rw [hA]
  refine (State.linkResetBay_free (s := { s with bayA := s.bayA.linkReset s.dmt }) (b := .bayB) hb).trans ?_
  cases s.twoBays <;> simp [State.bayPresent, State.modBay, State.setBay, State.bay]

/-- The buffer slots once the frame in progress has given its slot back. -/
def State.slotsKept (s : State) : List SlotRec :=
  match s.link.inFrame.bind fun f => f.slot with
  | some k => s.slots.set k SlotRec.free
  | none => s.slots

/-- The Link Interface at a link reset (R172, R176, R179). -/
def Link.reseted (l : Link) : Link := { l with
  lrst := true, inFrame := none, spent := l.spent || l.inFrame.isSome, withheld := none, outFrame := none, queue := []
  offered := [], reservations := 0, timer := none }

/-- The part after a link reset that found its three command slots free. -/
def State.linkReseted (s : State) : State := { s with
  slots := s.slotsKept
  link := s.link.reseted
  bayA := s.bayA.linkReset s.dmt
  bayB := if s.twoBays then s.bayB.linkReset s.dmt else s.bayB }

theorem State.linkReseted_bay {s : State} {b : BayId} (hp : s.bayPresent b = true) :
    s.linkReseted.bay b = (s.bay b).linkReset s.dmt := by
  cases b
  · rfl
  · exact if_pos hp

theorem State.linkReseted_calm {s : State} (hr : s.running) (h : s.settled) : s.linkReseted.calm := by
  refine ⟨hr, ⟨h.1, rfl, h.2.2.1, ?_⟩, .inr (.inr rfl)⟩
  cases htwo : s.twoBays <;> simpa [State.linkReseted, Bay.linkReset, htwo] using h.2.2.2

/-- Whether a bay rests does not turn on what a link reset clears, but for the frames. -/
theorem State.linkReseted_bayRests (s : State) (b : BayId) (l : List Signal) :
    ({ s.linkReseted with signals := l } : State).bayRests b =
      ({ s with link := { s.link with inFrame := none, withheld := none } } : State).bayRests b := by
  cases b
  · rfl
  · have hrests : (if s.twoBays then s.bayB.linkReset s.dmt else s.bayB).rests = s.bayB.rests := by split <;> rfl
    exact congrArg (fun r => r && true && !s.visiting .bayB && s.chan.waiter != some .bayB) hrests

/-- The frame in progress fills no slot, or one of a bay that rests once the frame is gone. -/
abbrev State.frameRests (s : State) : Prop :=
  ∀ f k, s.link.inFrame = some f → f.slot = some k → (s.slotRec k).state = .filling ∧ (s.slotRec k).purpose = some .hostData ∧
    ∃ b, (s.slotRec k).owner = some b ∧
      ({ s with link := { s.link with inFrame := none, withheld := none } } : State).bayRests b = true

/-- Such a frame that is dropped gives its slot back and pokes the slot's bay. -/
theorem State.dropFrameSlot_frees {s : State} (hs : s.signals = []) (hf : s.frameRests) : ∃ ms : List Signal, ms.length ≤ 1 ∧
    (∀ m ∈ ms, ∃ b, m = .poke b ∧
      ({ s with link := { s.link with inFrame := none, withheld := none } } : State).bayRests b = true) ∧
    s.dropFrameSlot = { s with slots := s.slotsKept, signals := ms } := by
  cases hframe : s.link.inFrame.bind fun f => f.slot with
  | none =>
    refine ⟨[], by simp, by simp, ?_⟩
    simp only [State.dropFrameSlot, State.slotsKept, hframe, ← hs]
  | some k =>
    obtain ⟨f, hin, hslot⟩ := Option.bind_eq_some_iff.1 hframe
    obtain ⟨hstate, hpurpose, b, howner, hrests⟩ := hf f k hin hslot
    refine ⟨[.poke b], by simp, by simpa using hrests, ?_⟩
    simp [State.dropFrameSlot, State.slotsKept, hframe, hstate, hpurpose, State.freeSlot, howner, State.modSlot, State.tell, hs]

theorem exec_linkReset {s : State} (hr : s.running) (h : s.settled) (hl : s.link.lrst = false) (hd : s.deviceSlot = none)
    (ha : s.bayA.slot = none) (hb : s.bayB.slot = none) (hf : s.frameRests) : exec .linkReset s = .next s.linkReseted := by
  obtain ⟨ms, hlength, hpokes, hdrop⟩ := State.dropFrameSlot_frees h.1 hf
  have hlink : s.linkResetLink = { s with slots := s.slotsKept, link := s.link.reseted, signals := ms } := by
    simp [State.linkResetLink, hdrop, hd, State.finishDevice, Link.reseted]
  have hbays : (s.linkResetLink.linkResetBay .bayA).linkResetBay .bayB = { s.linkReseted with signals := ms } := by
    rw [hlink]
    exact State.linkResetBays_free ha hb
  have hexec : exec .linkReset s = ({ s.linkReseted with signals := ms } : State).conclude := by
    change execLinkReset s = _
    rw [execLinkReset, if_neg (by simp [hl]), if_neg (by simp [hr.1, hr.2]), hbays]
  rw [hexec]
  refine State.conclude_ignored (State.linkReseted_calm hr h) ms (fun m hm l => ?_) (by omega)
  obtain ⟨b, rfl, hrests⟩ := hpokes m hm
  exact State.deliver_poke _ b ((s.linkReseted_bayRests b l).trans hrests)

end Sys2Proof.Machine

namespace Sys2Proof
open Machine

/-- Settles O15: with the command slots free a link reset clears what it clears, and the bay whose slot a dropped frame gives back
rests. -/
theorem linkResetClearsTheLink : Obligations.LinkResetClearsTheLink := by
  refine ⟨fun s hr h hl => ?_, fun s hr h hl hd ha hb hf => ?_⟩
  · rw [exec_linkResetRelease hr h]
    rcases hl with hl | ⟨hqueue, hattention⟩
    · exact congrArg Host.Outcome.next (State.kick_same _ (.inl hl))
    · exact congrArg Host.Outcome.next (State.kick_idle _ hqueue hattention)
  · refine ⟨s.linkReseted, exec_linkReset hr h hl hd ha hb hf, rfl, ?_, rfl, rfl, rfl, rfl, rfl, hd, rfl, rfl, rfl,
      fun b hp => s.linkReseted_bay hp⟩
    simp [State.lsrq, State.linkAlive, State.linkReseted, Link.reseted]

end Sys2Proof

/-! A press of the eject button while MOUNTING with the heads under way (O50, refuted). -/

namespace Sys2Proof.Machine

/-- A bay A in MOUNTING whose heads are LOADING for the mount while a load order is held. No run of the model comes here: an order
is held only while no load can begin, and beginning one takes it up. The clause of O50 admits it all the same. -/
def heldLoadMounting : State := { State.reset with
  bayA := { Bay.reset with
    cart := { Cartridge.reset with state := .mounting }
    job := some { Job.start .recordRead (recordSector 0) [] with stage := .loading }
    pos := { Positioner.reset with state := .loading, parked := false, heldLoad := some { fresh := false, seek := none } } } }

/-- The load order bay A holds after an event that has a next state. -/
def heldLoadAfter : Host.Outcome State Fault Refusal → Option (Option HeldLoad)
  | .next t => some (t.bay .bayA).pos.heldLoad
  | _ => none

theorem heldLoadMounting_calm : heldLoadMounting.calm := by decide

/-- The press orders the heads to unload twice in the event, as the request becomes an unmount and as the unmount goes on, and the
second order, which finds them UNLOADING, withdraws the held load (R83, notes/assumptions/11.md). -/
theorem heldLoadMounting_press_withdraws :
    heldLoadAfter (exec (.ejectButtonPress ⟨.bayA, true⟩) heldLoadMounting) = some none := by decide

end Sys2Proof.Machine

namespace Sys2Proof
open Machine

/-- Refutes O50: its clause on MOUNTING with the heads under way keeps a load order that the Positioner holds, and the press withdraws
it. -/
theorem not_ejectButtonActsByState : ¬ Obligations.EjectButtonActsByState := by
  intro h
  obtain ⟨-, -, hpressed⟩ := h .bayA heldLoadMounting heldLoadMounting_calm rfl
  obtain ⟨-, hfree⟩ := hpressed rfl
  obtain ⟨-, hnone⟩ := hfree rfl
  obtain ⟨-, -, -, -, -, hmounting, -⟩ := hnone rfl
  have hkept := hmounting _ rfl rfl (by decide) rfl rfl rfl rfl rfl rfl rfl rfl (by decide) (by decide) rfl rfl
  have hheld := heldLoadMounting_press_withdraws
  rw [hkept] at hheld
  exact absurd hheld (by decide)

end Sys2Proof

/-!
The Data Channel and the Sector Buffer over a step (O6, O7). The invariants of both read little of a part: `Traffic` is that part
of the state, and an operation that touches neither the channel nor the slots leaves it alone (the `_traffic` lemmas). The others
are shown to keep what the invariants say of it, `Traffic.Keeps` (the `_keepsTraffic` lemmas), from which the events follow one by
one.
-/

namespace Sys2Proof.Machine

/-! ## What the invariants of the channel and of the buffer see -/

/-- What the invariants of the Data Channel and of the Sector Buffer see of a part: the holder, the visit, the write gate and the
slots (R114, R119, R124). -/
structure Traffic where
  holder : Option BayId
  visit : Option Visit
  gate : Bool
  slots : List SlotRec

/-- The part as the channel and the buffer see it. -/
def State.traffic (s : State) : Traffic where
  holder := s.chan.holder
  visit := s.chan.visit
  gate := s.chan.gate
  slots := s.slots

/-- The channel writes a data field or a format track in this phase (R124). -/
abbrev VisitPhase.inWrite (p : VisitPhase) : Prop := p = .writing ∨ p = .formatWriting

/-- The holder is the bay of the visit, and the gate is open only in a visit that writes (`State.channelKept`). -/
def Traffic.Guarded (v : Traffic) : Prop :=
  v.holder = v.visit.map (fun x => x.bay) ∧ (v.gate = true → ∃ x, v.visit = some x ∧ x.phase.inWrite)

/-- How many slots of a list a bay holds. -/
def slotsHeld (l : List SlotRec) (b : BayId) : Nat := (l.filter fun r => r.owner == some b).length

/-- No bay holds more than its quota (`State.quotaKept`). -/
def Traffic.Within (v : Traffic) : Prop := ∀ b, slotsHeld v.slots b ≤ Config.slotQuota

theorem State.channelKept_iff (s : State) : s.channelKept ↔ s.traffic.Guarded := Iff.rfl
theorem State.quotaKept_iff (s : State) : s.quotaKept ↔ s.traffic.Within := Iff.rfl

/-- Each of the invariants passes from one view to another, and the number of slots stands. -/
structure Traffic.Keeps (u v : Traffic) : Prop where
  guarded : u.Guarded → v.Guarded
  slots : v.slots.length = u.slots.length
  within : u.Within → v.Within

theorem Traffic.Keeps.refl (u : Traffic) : u.Keeps u := ⟨id, rfl, id⟩

/-- A change of the channel alone. -/
theorem Traffic.Keeps.channel {u v w : Traffic} (h : u.Keeps v) (hs : w.slots = v.slots) (hg : v.Guarded → w.Guarded) :
    u.Keeps w :=
  ⟨hg ∘ h.guarded, by rw [hs, h.slots], fun hu => by
    have hv := h.within hu
    unfold Traffic.Within at hv ⊢
    rwa [hs]⟩

/-- A change of the slots alone after which no bay holds more of them, or else no more than its quota. -/
theorem Traffic.Keeps.buffer {u v w : Traffic} (h : u.Keeps v) (hc : w = { v with slots := w.slots })
    (hl : w.slots.length = v.slots.length)
    (hq : ∀ b, slotsHeld w.slots b ≤ slotsHeld v.slots b ∨ slotsHeld w.slots b ≤ Config.slotQuota) : u.Keeps w := by
  refine ⟨fun hu => ?_, hl.trans h.slots, fun hu b => (hq b).elim (fun hle => hle.trans (h.within hu b)) id⟩
  rw [hc]
  exact h.guarded hu

/-! ### Slots of a list -/

/-- The owners decide how many slots a bay holds. -/
theorem slotsHeld_eq_count (l : List SlotRec) (b : BayId) : slotsHeld l b = (l.map fun r => r.owner).count (some b) := by
  rw [slotsHeld, List.count, List.countP_map, List.countP_eq_length_filter]
  rfl

/-- A slot that changes hands is one more for its new owner at most. -/
theorem slotsHeld_set_le (l : List SlotRec) (k : Nat) (r : SlotRec) (b : BayId) :
    slotsHeld (l.set k r) b ≤ slotsHeld l b + if r.owner = some b then 1 else 0 := by
  induction l generalizing k with
  | nil => simp [slotsHeld]
  | cons x rest ih =>
    cases k with
    | zero => simp only [slotsHeld_eq_count, List.set_cons_zero, List.map_cons, List.count_cons, beq_iff_eq]; omega
    | succ k =>
      have := ih k
      simp only [slotsHeld_eq_count, List.set_cons_succ, List.map_cons, List.count_cons] at this ⊢
      omega

/-- A slot that stays with its owner. -/
theorem slotsHeld_set_owner (s : State) (k : Nat) (r : SlotRec) (h : r.owner = (s.slotRec k).owner) (b : BayId) :
    slotsHeld (s.slots.set k r) b = slotsHeld s.slots b := by
  have howners : (s.slots.set k r).map (fun x => x.owner) = s.slots.map fun x => x.owner := by
    refine List.ext_getElem? fun i => ?_
    by_cases hk : i = k
    · subst hk
      by_cases hlt : i < s.slots.length
      · simp [h, State.slotRec, hlt, List.getD_eq_getElem?_getD]
      · simp [hlt]
    · simp [List.getElem?_set_ne (Ne.symm hk)]
  rw [slotsHeld_eq_count, slotsHeld_eq_count, howners]

/-- Slots that are freed. -/
theorem slotsHeld_map_free_le (l : List SlotRec) (p : SlotRec → Bool) (b : BayId) :
    slotsHeld (l.map fun r => if p r then SlotRec.free else r) b ≤ slotsHeld l b := by
  induction l with
  | nil => simp [slotsHeld]
  | cons x rest ih =>
    simp only [slotsHeld_eq_count, List.map_cons, List.count_cons] at ih ⊢
    split
    · rw [if_neg (show ¬(SlotRec.free.owner == some b) = true from nofun)]; omega
    · omega

/-! ### Updates of the slots -/

section
variable {u : Traffic} {s : State} (h : u.Keeps s.traffic)
include h

/-- A change of a slot that stays with its owner. -/
@[simp] theorem State.modSlot_keepsTraffic (k : Nat) (f : SlotRec → SlotRec)
    (hf : (f (s.slotRec k)).owner = (s.slotRec k).owner) : u.Keeps (s.modSlot k f).traffic :=
  h.buffer rfl (List.length_set ..) fun b => .inl (slotsHeld_set_owner s k _ hf b).le

/-- A slot given back (R114). -/
@[simp] theorem State.freeSlot_keepsTraffic (k : Nat) : u.Keeps (s.freeSlot k).traffic := by
  fun_cases State.freeSlot s k
  · exact h.buffer rfl (List.length_set ..) fun b => .inl (slotsHeld_set_le s.slots k SlotRec.free b)
  · exact h

@[simp] theorem State.freeWhere_keepsTraffic (b : BayId) (p : SlotRec → Bool) : u.Keeps (s.freeWhere b p).traffic :=
  h.buffer rfl (List.length_map ..) fun b' => .inl (slotsHeld_map_free_le s.slots (fun r => r.owner == some b && p r) b')

/-- A slot is taken only by a bay below its quota (R115). -/
@[simp] theorem State.allocate_keepsTraffic (b : BayId) (hb : s.mayAllocate b = true) (purpose : Purpose) (lba : Option Nat) :
    u.Keeps (s.allocate b purpose lba).traffic := by
  have hbelow : slotsHeld s.slots b < Config.slotQuota := by
    simp only [State.mayAllocate, Bool.and_eq_true, decide_eq_true_eq] at hb
    exact hb.1
  refine h.buffer rfl (List.length_set ..) fun b' => ?_
  have hset := slotsHeld_set_le s.slots s.lowestFree (SlotRec.taken b purpose lba) b'
  simp only [SlotRec.taken, Option.some.injEq] at hset
  by_cases hb' : b = b'
  · subst hb'
    exact .inr (hset.trans (by simpa using hbelow))
  · rw [if_neg hb'] at hset
    exact .inl hset

/-- A list of slots that stay with their owners. -/
theorem State.foldl_modSlot_keepsTraffic {α : Type} (k : α → Nat) (f : α → SlotRec → SlotRec)
    (hf : ∀ x r, (f x r).owner = r.owner) (l : List α) :
    u.Keeps (l.foldl (fun (s : State) x => s.modSlot (k x) (f x)) s).traffic := by
  induction l generalizing s with
  | nil => exact h
  | cons x rest ih => exact ih (State.modSlot_keepsTraffic h _ _ (hf _ _))

end

/-! ### Updates that neither sees -/

@[simp] theorem State.modBay_traffic (s : State) (b : BayId) (f : Bay → Bay) : (s.modBay b f).traffic = s.traffic := by
  cases b <;> rfl

/-- Changes made one after another. -/
theorem State.foldl_traffic {α : Type} (f : State → α → State) (h : ∀ s x, (f s x).traffic = s.traffic) (l : List α) :
    ∀ s : State, (l.foldl f s).traffic = s.traffic := by
  induction l with
  | nil => exact fun _ => rfl
  | cons x rest ih => exact fun s => (ih _).trans (h s x)

section
variable (s : State) (b : BayId)

/-! ### Shared operations -/

@[simp] theorem State.modPos_traffic (f : Positioner → Positioner) : (s.modPos b f).traffic = s.traffic :=
  by simp [State.modPos]
@[simp] theorem State.modCart_traffic (f : Cartridge → Cartridge) : (s.modCart b f).traffic = s.traffic :=
  by simp [State.modCart]
@[simp] theorem State.modTu_traffic (f : Translation → Translation) : (s.modTu b f).traffic = s.traffic :=
  by simp [State.modTu]
@[simp] theorem State.modPower_traffic (f : Power → Power) : (s.modPower b f).traffic = s.traffic := by simp [State.modPower]
@[simp] theorem State.modCmd_traffic (f : Cmd → Cmd) : (s.modCmd b f).traffic = s.traffic := by simp [State.modCmd]
@[simp] theorem State.modJob_traffic (f : Job → Job) : (s.modJob b f).traffic = s.traffic := by simp [State.modJob]
@[simp] theorem State.setJob_traffic (j : Option Job) : (s.setJob b j).traffic = s.traffic := by simp [State.setJob]
@[simp] theorem State.modLink_traffic (f : Link → Link) : (s.modLink f).traffic = s.traffic := (rfl)
@[simp] theorem State.tell_traffic (m : Signal) : (s.tell m).traffic = s.traffic := (rfl)
@[simp] theorem State.raise_traffic (k : AttnKind) (payload : Byte) : (s.raise b k payload).traffic = s.traffic :=
  by simp [State.raise]
@[simp] theorem State.writeSense_traffic (command : Byte) (count : Nat) (r : CmdResult) :
    (s.writeSense b command count r).traffic = s.traffic :=
  by simp [State.writeSense]
@[simp] theorem State.countRecovered_traffic : (s.countRecovered b).traffic = s.traffic := by simp [State.countRecovered]
@[simp] theorem State.joinPending_traffic : (s.joinPending).traffic = s.traffic := (rfl)
@[simp] theorem State.offer_traffic (d : Desc) : (s.offer d).traffic = s.traffic := (rfl)
@[simp] theorem State.enqueue_traffic (d : Desc) : (s.enqueue d).traffic = s.traffic := (rfl)
@[simp] theorem State.dropDescs_traffic (p : Desc → Bool) : (s.dropDescs p).traffic = s.traffic := (rfl)
@[simp] theorem State.restartIdleTimers_traffic : (s.restartIdleTimers b).traffic = s.traffic :=
  by simp [State.restartIdleTimers]

/-! ### The Data Channel -/

@[simp] theorem State.countTry_traffic : (s.countTry b).traffic = s.traffic := by simp [State.countTry]

/-! ### The end of a command -/

@[simp] theorem State.takeSlot_traffic (c : Cmd) : (s.takeSlot b c).traffic = s.traffic := by simp [State.takeSlot]
@[simp] theorem State.refuse_traffic (code : Byte) (r : CmdResult) : (s.refuse b code r).traffic = s.traffic := by
  simp [State.refuse, apply_ite State.traffic]
@[simp] theorem State.answer_traffic (target : BayField) (c : Completion) (d : Detail) (code : Byte) :
    (s.answer target c d code).traffic = s.traffic :=
  (rfl)
@[simp] theorem State.dropReports_traffic (target : BayField) : (s.dropReports target).traffic = s.traffic := (rfl)
@[simp] theorem State.releaseStaging_traffic (target : BayField) : (s.releaseStaging target).traffic = s.traffic := by
  unfold State.releaseStaging
  split <;> rfl
@[simp] theorem State.postStatus_traffic (r : CmdResult) : (s.postStatus b r).traffic = s.traffic := by
  fun_cases State.postStatus s b r <;> simp +zetaDelta [apply_ite State.traffic]
@[simp] theorem State.finishDevice_traffic (c : Completion) (d : Detail) : (s.finishDevice c d).traffic = s.traffic := by
  have hfreed : ({ s with deviceSlot := none } : State).traffic = s.traffic := (rfl)
  fun_cases State.finishDevice s c d <;> simp +zetaDelta [hfreed]

/-! ### The Positioner -/

@[simp] theorem State.jobLosesHeads_traffic : (s.jobLosesHeads b).traffic = s.traffic := by
  fun_cases State.jobLosesHeads s b <;> simp
@[simp] theorem State.answerUnloaded_traffic : (s.answerUnloaded b).traffic = s.traffic := by
  simp [State.answerUnloaded, apply_ite State.traffic]
@[simp] theorem State.enterActFault_traffic (d : ActDetail) : (s.enterActFault b d).traffic = s.traffic :=
  by simp [State.enterActFault]
@[simp] theorem State.enterLoading_traffic : (s.enterLoading b).traffic = s.traffic := by simp [State.enterLoading]
@[simp] theorem State.loadFromParked_traffic (fresh : Bool) (seek : Option Track) :
    (s.loadFromParked b fresh seek).traffic = s.traffic := by
  fun_cases State.loadFromParked s b fresh seek <;> simp
@[simp] theorem State.holdSeek_traffic (t : Track) (owned : Bool) : (s.holdSeek b t owned).traffic = s.traffic := by
  fun_cases State.holdSeek s b t owned <;> simp +zetaDelta
@[simp] theorem State.enterPendingFault_traffic : (s.enterPendingFault b).traffic = s.traffic := by
  fun_cases State.enterPendingFault s b <;> simp
@[simp] theorem State.enterCalibrating_traffic : (s.enterCalibrating b).traffic = s.traffic :=
  by simp [State.enterCalibrating]
@[simp] theorem State.recordSample_traffic (x : Sample) : (s.recordSample b x).traffic = s.traffic :=
  by simp [State.recordSample]
@[simp] theorem State.loadingSample_traffic (x : Sample) : (s.loadingSample b x).traffic = s.traffic := by
  fun_cases State.loadingSample s b x <;> simp
@[simp] theorem State.seekingSample_traffic (x : Sample) : (s.seekingSample b x).traffic = s.traffic := by
  fun_cases State.seekingSample s b x <;> simp

/-! ### Blocks and reassigns -/

@[simp] theorem State.setReassign_traffic (r : Option Reassign) : (s.setReassign b r).traffic = s.traffic :=
  by simp [State.setReassign]
@[simp] theorem State.changeTables_traffic (t : Tables) : (s.changeTables b t).traffic = s.traffic :=
  by simp [State.changeTables]

/-! ### The Cartridge Handler and Bay Power Control -/

@[simp] theorem State.setMode_traffic (m : PowerMode) : (s.setMode b m).traffic = s.traffic := by simp [State.setMode]
@[simp] theorem State.leavePower_traffic : (s.leavePower b).traffic = s.traffic := by simp [State.leavePower]
@[simp] theorem State.endEntry_traffic : (s.endEntry b).traffic = s.traffic := by simp [State.endEntry]
@[simp] theorem State.ejectPhase_traffic (phase : EjectPhase) : (s.ejectPhase b phase).traffic = s.traffic :=
  by simp [State.ejectPhase]
@[simp] theorem State.enterUnmounting_traffic : (s.enterUnmounting b).traffic = s.traffic := by
  simp [State.enterUnmounting, apply_ite State.traffic]
@[simp] theorem State.driveRelease_traffic : (s.driveRelease b).traffic = s.traffic := by simp [State.driveRelease]
@[simp] theorem State.unformatted_traffic (d : MountDetail) : (s.unformatted b d).traffic = s.traffic :=
  by simp [State.unformatted]
@[simp] theorem State.startsWorking_traffic : (s.startsWorking b).traffic = s.traffic := by simp [State.startsWorking]
@[simp] theorem State.discard_traffic (cause : Byte) : (s.discard b cause).traffic = s.traffic := by
  fun_cases State.discard s b cause <;> simp
@[simp] theorem State.ejectDiscarded_traffic : (s.ejectDiscarded b).traffic = s.traffic := by simp [State.ejectDiscarded]
@[simp] theorem State.offerStartup_traffic : (s.offerStartup b).traffic = s.traffic := by
  fun_cases State.offerStartup s b <;> simp

/-! ### FORMAT -/

@[simp] theorem State.setFormat_traffic (f : Format) : (s.setFormat b f).traffic = s.traffic := by simp [State.setFormat]

/-! ### Stopped commands -/

@[simp] theorem State.detachEject_traffic : (s.detachEject b).traffic = s.traffic := by simp [State.detachEject]

/-! ### The Link Interface -/

@[simp] theorem State.modTarget_traffic (target : BayField) (f : Cmd → Cmd) :
    (s.modTarget target f).traffic = s.traffic := by
  cases target with
  | bay b => exact s.modCmd_traffic b f
  | device => rfl
@[simp] theorem State.offerReports_traffic (target : BayField) (c : Cmd) : (s.offerReports target c).traffic = s.traffic := by
  simp only [State.offerReports]
  rw [State.foldl_traffic _ fun s x => s.offer_traffic _, State.modTarget_traffic]
@[simp] theorem State.holdFrame_traffic (declared : Nat) (payload : List LinkByte) :
    (s.holdFrame b declared payload).traffic = s.traffic :=
  (rfl)
@[simp] theorem State.dropHeld_traffic : (s.dropHeld).traffic = s.traffic := (rfl)
@[simp] theorem State.frameSpent_traffic : (s.frameSpent).traffic = s.traffic := (rfl)
@[simp] theorem State.stoppedLoadEnds_traffic : (s.stoppedLoadEnds b).traffic = s.traffic := by
  fun_cases State.stoppedLoadEnds s b <;> simp
@[simp] theorem State.beginInbound_traffic (x : LinkByte) : (s.beginInbound x).traffic = s.traffic := (rfl)
@[simp] theorem State.takeByte_traffic (f : InFrame) (x : LinkByte) (slot : Option Nat) :
    (s.takeByte f x slot).traffic = s.traffic :=
  (rfl)
@[simp] theorem State.heard_traffic (lfrm : Bool) (strobe : Option LinkByte) : (s.heard lfrm strobe).traffic = s.traffic := by
  fun_cases State.heard s lfrm strobe <;> simp
@[simp] theorem State.clearOut_traffic : (s.clearOut).traffic = s.traffic := (rfl)
@[simp] theorem State.readDrained_traffic : (s.readDrained b).traffic = s.traffic := by
  fun_cases State.readDrained s b <;> simp

/-! ### Acceptance and delivery -/

@[simp] theorem State.clearUnitChanged_traffic (r : CmdResult) : (s.clearUnitChanged b r).traffic = s.traffic := by
  fun_cases State.clearUnitChanged s b r <;> simp
@[simp] theorem State.openFormat_traffic (op : CmdOp) : (s.openFormat b op).traffic = s.traffic := by
  fun_cases State.openFormat s b op <;> simp
@[simp] theorem State.onSlotFreed_traffic : (s.onSlotFreed b).traffic = s.traffic := by
  simp only [State.onSlotFreed]
  (repeat' split) <;> simp
@[simp] theorem State.refreshReadiness_traffic : (s.refreshReadiness b).traffic = s.traffic := by
  fun_cases State.refreshReadiness s b <;> simp

/-! ### Events -/

@[simp] theorem State.frameOver_traffic : (s.frameOver).traffic = s.traffic := (rfl)

/-! ### Cartridge events -/

@[simp] theorem State.openEject_traffic (source : EjectSource) (phase : EjectPhase) :
    (s.openEject b source phase).traffic = s.traffic :=
  by simp [State.openEject]
@[simp] theorem State.cartridgeArrives_traffic : (s.cartridgeArrives b).traffic = s.traffic := by
  fun_cases State.cartridgeArrives s b <;> simp

/-! ### Bay commands -/

@[simp] theorem State.takePrevent_traffic : (s.takePrevent b).traffic = s.traffic := by
  fun_cases State.takePrevent s b <;> simp
@[simp] theorem State.takeAllow_traffic : (s.takeAllow b).traffic = s.traffic := by
  fun_cases State.takeAllow s b <;> simp

/-! ### Table commands -/

@[simp] theorem State.takeDeviceSlot_traffic (c : Cmd) : (s.takeDeviceSlot c).traffic = s.traffic := (rfl)
@[simp] theorem State.reportDevice_traffic (op : CmdOp) : (s.reportDevice op).traffic = s.traffic := by
  fun_cases State.reportDevice s op <;> simp

/-! ### ABORT and LOAD TABLE of the device -/

@[simp] theorem State.abortDevice_traffic : s.abortDevice.2.traffic = s.traffic := by
  fun_cases State.abortDevice s
  · rfl
  · simp
  · exact State.dropDescs_traffic _ _
  · simp
@[simp] theorem State.loadDeviceTable_traffic (id : TableId) (length : BitVec 16) :
    (s.loadDeviceTable id length).traffic = s.traffic := by
  have hstaged : ∀ x, ({ s with staging := x } : State).traffic = s.traffic := fun _ => rfl
  fun_cases State.loadDeviceTable s id length <;> simp [hstaged]

/-! ### The Spindle Controller -/

@[simp] theorem State.modSpindle_traffic (f : Spindle → Spindle) : (s.modSpindle b f).traffic = s.traffic := by
  simp [State.modSpindle]
@[simp] theorem State.grantAllowance_traffic : (s.grantAllowance b).traffic = s.traffic := by
  cases b <;> rfl
@[simp] theorem State.requestAllowance_traffic : (s.requestAllowance b).traffic = s.traffic := by
  fun_cases State.requestAllowance s b
  · simp
  · cases b <;> rfl
@[simp] theorem State.releaseAllowance_traffic : (s.releaseAllowance b).traffic = s.traffic := by
  fun_cases State.releaseAllowance s b
  · rw [State.grantAllowance_traffic]; rfl
  all_goals rfl
@[simp] theorem State.withdrawAllowance_traffic : (s.withdrawAllowance b).traffic = s.traffic := by
  fun_cases State.withdrawAllowance s b <;> rfl
@[simp] theorem State.enterBraking_traffic : (s.enterBraking b).traffic = s.traffic := by simp [State.enterBraking]
@[simp] theorem State.enterStopped_traffic : (s.enterStopped b).traffic = s.traffic := by
  fun_cases State.enterStopped s b <;> exact s.modSpindle_traffic b _
@[simp] theorem State.enterAtSpeed_traffic : (s.enterAtSpeed b).traffic = s.traffic := by
  simp [State.enterAtSpeed, apply_ite State.traffic]
@[simp] theorem State.takeStart_traffic (k : PurgeKind) : (s.takeStart b k).traffic = s.traffic := by simp [State.takeStart]
@[simp] theorem State.startPending_traffic : (s.startPending b).traffic = s.traffic := by
  fun_cases State.startPending s b <;> simp
@[simp] theorem State.takeStartRequest_traffic (k : PurgeKind) : (s.takeStartRequest b k).traffic = s.traffic := by
  fun_cases State.takeStartRequest s b k <;> simp
@[simp] theorem State.startRequest_traffic (k : PurgeKind) : (s.startRequest b k).traffic = s.traffic := by
  simp [State.startRequest, apply_ite State.traffic]
@[simp] theorem State.endAccelerating_traffic : (s.endAccelerating b).traffic = s.traffic := by
  fun_cases State.endAccelerating s b <;> simp
@[simp] theorem State.endTowardSpeed_traffic : (s.endTowardSpeed b).traffic = s.traffic := by
  fun_cases State.endTowardSpeed s b <;> simp +zetaDelta

/-! ### Lock pulses and starts -/

@[simp] theorem State.enterSpinningUp_traffic : (s.enterSpinningUp b).traffic = s.traffic := by
  fun_cases State.enterSpinningUp s b <;> simp +zetaDelta
@[simp] theorem State.lockConfirmed_traffic : (s.lockConfirmed b).traffic = s.traffic := by
  fun_cases State.lockConfirmed s b <;> simp +zetaDelta
@[simp] theorem State.issueLock_traffic (attempts : Nat) : (s.issueLock b attempts).traffic = s.traffic := by
  fun_cases State.issueLock s b attempts <;> simp +zetaDelta
@[simp] theorem State.stepStartup_traffic : (s.stepStartup b).traffic = s.traffic := by
  fun_cases State.stepStartup s b <;> simp

end

/-! ## The Data Channel (R119 to R125) -/

/-- No visit writes behind an open gate. -/
def Traffic.Shut (v : Traffic) : Prop := v.gate = true → ∀ x, v.visit = some x → ¬ x.phase.inWrite

section
variable {u v : Traffic} (h : u.Keeps v)
include h

/-- The channel is released (R119). -/
theorem Traffic.Keeps.released : u.Keeps { v with holder := none, visit := none, gate := false } :=
  h.channel rfl fun _ => ⟨rfl, nofun⟩

/-- A visit begins (R120). -/
theorem Traffic.Keeps.granted (x : Visit) : u.Keeps { v with holder := some x.bay, visit := some x, gate := false } :=
  h.channel rfl fun _ => ⟨rfl, nofun⟩

/-- The gate closes (R124). -/
theorem Traffic.Keeps.gateCloses : u.Keeps { v with gate := false } := h.channel rfl fun hv => ⟨hv.1, nofun⟩

/-- The gate closes and the visit goes on (R124). -/
theorem Traffic.Keeps.gateTears (f : Visit → Visit) (hf : ∀ x, (f x).bay = x.bay) :
    u.Keeps { v with visit := v.visit.map f, gate := false } :=
  h.channel rfl fun hv => ⟨by simpa [Function.comp_def, hf] using hv.1, nofun⟩

/-- The visit goes on behind a gate that is not open, or in the phase it has. -/
theorem Traffic.Keeps.visitGoesOn (f : Visit → Visit) (hf : ∀ x, (f x).bay = x.bay)
    (hg : v.Shut ∨ ∀ x, (f x).phase = x.phase) : u.Keeps { v with visit := v.visit.map f } := by
  refine h.channel rfl fun ⟨hholder, hgate⟩ => ⟨by simpa [Function.comp_def, hf] using hholder, fun hopen => ?_⟩
  obtain ⟨x, hx, hwrite⟩ := hgate hopen
  obtain hshut | hphase := hg
  · exact absurd hwrite (hshut hopen x hx)
  · exact ⟨f x, by simp [hx], by rwa [hphase]⟩

/-- The gate opens in a visit that writes from then on (R124). -/
theorem Traffic.Keeps.gateOpens (f : Visit → Visit) (hf : ∀ x, (f x).bay = x.bay ∧ (f x).phase.inWrite)
    (hv : v.visit.isSome = true) : u.Keeps { v with visit := v.visit.map f, gate := true } := by
  obtain ⟨x, hx⟩ := Option.isSome_iff_exists.1 hv
  refine h.channel rfl fun hg => ⟨?_, fun _ => ⟨f x, by simp [hx], (hf x).2⟩⟩
  simpa [Function.comp_def, fun x => (hf x).1] using hg.1

end

/-- A visit in a phase that does not write is one whose gate is not open. -/
theorem State.shut_of_phase {s : State} {v : Visit} (hv : s.chan.visit = some v) (hp : ¬ v.phase.inWrite) : s.traffic.Shut := by
  intro _ x hx
  cases hv.symm.trans hx
  exact hp

/-- A change of the channel outside the holder, the visit and the gate. -/
@[simp] theorem State.modChan_traffic (s : State) (f : Channel → Channel) (hh : (f s.chan).holder = s.chan.holder)
    (hv : (f s.chan).visit = s.chan.visit) (hg : (f s.chan).gate = s.chan.gate) : (s.modChan f).traffic = s.traffic := by
  simp [State.traffic, State.modChan, hh, hv, hg]

section
variable {u : Traffic} {s : State} (h : u.Keeps s.traffic) (b : BayId)
include h

@[simp] theorem State.ite_keepsTraffic {t : State} (ht : u.Keeps t.traffic) (c : Prop) [Decidable c] :
    u.Keeps (if c then s else t).traffic := by
  split <;> assumption

@[simp] theorem State.grantChannel_keepsTraffic : u.Keeps (s.grantChannel b).traffic := by
  fun_cases State.grantChannel s b
  next j _ =>
    exact h.granted { bay := b, kind := j.kind, track := j.sector.track, rate := j.sector.rate, fields := 0, search := 0,
                      phase := _, ending := false }
  next => exact h.released
@[simp] theorem State.requestChannel_keepsTraffic : u.Keeps (s.requestChannel b).traffic := by
  fun_cases State.requestChannel s b <;> simp [h]
@[simp] theorem State.releaseChannel_keepsTraffic : u.Keeps (s.releaseChannel b).traffic := by
  fun_cases State.releaseChannel s b
  case case1 => exact State.grantChannel_keepsTraffic h.released _
  case case2 => exact h.released
  case case3 => exact h
@[simp] theorem State.withdrawChannel_keepsTraffic : u.Keeps (s.withdrawChannel b).traffic := by
  fun_cases State.withdrawChannel s b <;> simp [h]
theorem State.modVisit_keepsTraffic (f : Visit → Visit) (hf : ∀ x, (f x).bay = x.bay)
    (hg : s.traffic.Shut ∨ ∀ x, (f x).phase = x.phase) : u.Keeps (s.modVisit f).traffic :=
  h.visitGoesOn f hf hg
/-- The channel finishes with a sector whose gate is not open. -/
theorem State.endSector_keepsTraffic (hg : s.traffic.Shut) (m : Signal) : u.Keeps (s.endSector b m).traffic :=
  h.visitGoesOn _ (fun _ => rfl) (.inl hg)
/-- A failed try follows a field whose gate is not open. -/
theorem State.afterFailedTry_keepsTraffic (hg : s.traffic.Shut) : u.Keeps (s.afterFailedTry b).traffic := by
  have hsearch : u.Keeps (s.modVisit fun (v : Visit) => { v with phase := .searching, search := 0 }).traffic :=
    State.modVisit_keepsTraffic h _ (fun _ => rfl) (.inl hg)
  fun_cases State.afterFailedTry s b
  case case1 => exact h
  case case2 => exact State.endSector_keepsTraffic h b hg _
  case case3 => exact State.releaseChannel_keepsTraffic hsearch b
  case case4 => exact hsearch
@[simp] theorem State.slotBackToFull_keepsTraffic : u.Keeps (s.slotBackToFull b).traffic := by
  fun_cases State.slotBackToFull s b <;> simp [h]
@[simp] theorem State.tearField_keepsTraffic : u.Keeps (s.tearField b).traffic := by
  have htorn : u.Keeps ((s.slotBackToFull b).countTry b).traffic := by simp [h]
  fun_cases State.tearField s b
  case case3 => exact h
  all_goals exact htorn.gateTears _ fun _ => rfl
@[simp] theorem State.leaveTrack_keepsTraffic : u.Keeps (s.leaveTrack b).traffic := by
  have hleft := State.releaseChannel_keepsTraffic (State.tearField_keepsTraffic h b) b
  exact State.withdrawChannel_keepsTraffic (State.ite_keepsTraffic hleft h _) b
@[simp] theorem State.endProtected_keepsTraffic : u.Keeps (s.endProtected b).traffic :=
  (State.slotBackToFull_keepsTraffic h b).gateTears _ fun _ => rfl

omit h in
/-- The bay of the visit, whose field is torn, is left with the gate closed. -/
theorem State.tearField_shut {v : Visit} (hv : s.chan.visit = some v) (hb : v.bay = b) : (s.tearField b).traffic.Shut := by
  fun_cases State.tearField s b
  case case3 hr hw =>
    refine State.shut_of_phase hv fun hp => ?_
    have hphase : s.visitPhase b = some v.phase := by simp [State.visitPhase, hv, hb]
    obtain hp | hp := hp
    · exact hr (hphase.trans (congrArg some hp))
    · exact hw (hphase.trans (congrArg some hp))
  all_goals exact nofun

/-- The gate opens for a sector of the visit (R124). -/
theorem State.openGate_keepsTraffic {v : Visit} (hv : s.chan.visit = some v) (hp : ¬ v.phase.inWrite) (j : Job) :
    u.Keeps (s.openGate b j).traffic := by
  have hwrites : ∀ {t : State}, u.Keeps t.traffic → t.chan = s.chan →
      u.Keeps (t.modChan fun c => { c with gate := true, visit := c.visit.map fun v => { v with phase := .writing } }).traffic :=
    fun ht hc => ht.gateOpens _ (fun _ => ⟨rfl, .inl rfl⟩) (by simp [State.traffic, hc, hv])
  simp only [State.openGate]
  split
  · exact State.endProtected_keepsTraffic h b
  · split
    · split
      · split
        · exact hwrites h rfl
        · exact hwrites (by simp [h]) (by simp)
      · exact hwrites h rfl
    · exact State.afterFailedTry_keepsTraffic (by simpa) b (by simpa using State.shut_of_phase hv hp)
theorem State.openTrack_keepsTraffic {v : Visit} (hv : s.chan.visit = some v) (hp : ¬ v.phase.inWrite) (j : Job) :
    u.Keeps (s.openTrack b j).traffic := by
  fun_cases State.openTrack s b j
  · exact State.endProtected_keepsTraffic h b
  · exact h.gateOpens _ (fun _ => ⟨rfl, .inr rfl⟩) (by simp [State.traffic, hv])
  · exact State.afterFailedTry_keepsTraffic (by simpa) b (by simpa using State.shut_of_phase hv hp)
/-- A servo field is counted; off the track it tears the field being written, and the gate is closed before the try fails. -/
@[simp] theorem State.channelSample_keepsTraffic (indexFlag : Bool) : u.Keeps (s.channelSample b indexFlag).traffic := by
  have hcounted : u.Keeps (s.modVisit fun v =>
      { v with fields := min 32 (v.fields + 1), search := min 32 (v.search + 1) }).traffic :=
    State.modVisit_keepsTraffic h _ (fun _ => rfl) (.inr fun _ => rfl)
  have htears : ∀ {v : Visit}, s.chan.visit = some v → v.bay = b →
      u.Keeps (((s.modVisit fun v =>
        { v with fields := min 32 (v.fields + 1), search := min 32 (v.search + 1) }).tearField b).afterFailedTry b).traffic :=
    fun {v} hv hb => State.afterFailedTry_keepsTraffic (State.tearField_keepsTraffic hcounted b) b
      (State.tearField_shut b (v := { v with fields := min 32 (v.fields + 1), search := min 32 (v.search + 1) })
        (by simp [State.modVisit, hv]) hb)
  fun_cases State.channelSample s b indexFlag
  case case1 hv _ hp _ => exact State.openTrack_keepsTraffic h b hv (by simp [hp]) _
  case case4 hv hb _ _ _ | case6 hv hb _ _ _ => exact htears hv hb
  case case2 | case10 | case11 => exact h
  all_goals exact hcounted

end

section
variable {u : Traffic} {s : State} (h : u.Keeps s.traffic) (b : BayId)
include h

/-! ## What every other operation keeps of both -/

/-! ### Frames that begin -/

@[simp] theorem State.beginFrame_keepsTraffic : u.Keeps (s.beginFrame).traffic := by
  simp only [State.beginFrame]
  (repeat' split) <;> simp [h]
@[simp] theorem State.kick_keepsTraffic : u.Keeps (s.kick).traffic := by
  fun_cases State.kick s <;> simp [h]

/-! ### The end of a command -/

@[simp] theorem State.dropJob_keepsTraffic : u.Keeps (s.dropJob b).traffic := by
  fun_cases State.dropJob s b <;> simp +zetaDelta [h]
@[simp] theorem State.dropCommandJob_keepsTraffic : u.Keeps (s.dropCommandJob b).traffic := by
  fun_cases State.dropCommandJob s b <;> simp [h]
@[simp] theorem State.freeCommandSlots_keepsTraffic (c : Cmd) (r : CmdResult) : u.Keeps (s.freeCommandSlots b c r).traffic := by
  simp only [State.freeCommandSlots]
  (repeat' split) <;> simp [h]
@[simp] theorem State.finishCmd_keepsTraffic (r : CmdResult) : u.Keeps (s.finishCmd b r).traffic := by
  have hfreed : ∀ c, u.Keeps ((s.dropCommandJob b).freeCommandSlots b c r).traffic := fun c =>
    State.freeCommandSlots_keepsTraffic (State.dropCommandJob_keepsTraffic h b) b c r
  fun_cases State.finishCmd s b r <;> simp +zetaDelta [h, hfreed]
@[simp] theorem State.failCmd_keepsTraffic (r : CmdResult) : u.Keeps (s.failCmd b r).traffic := by
  fun_cases State.failCmd s b r <;> simp [h]
@[simp] theorem State.finishTarget_keepsTraffic (target : BayField) (c : Completion) (d : Detail) :
    u.Keeps (s.finishTarget target c d).traffic := by
  fun_cases State.finishTarget s target c d <;> simp [h]

/-! ### The Positioner -/

@[simp] theorem State.enterUnloading_keepsTraffic (keep : Bool) : u.Keeps (s.enterUnloading b keep).traffic := by
  simp [h, State.enterUnloading]
@[simp] theorem State.enterRetracting_keepsTraffic : u.Keeps (s.enterRetracting b).traffic := by simp [h, State.enterRetracting]
@[simp] theorem State.unloadOrder_keepsTraffic : u.Keeps (s.unloadOrder b).traffic := by
  fun_cases State.unloadOrder s b <;> simp +zetaDelta [h]
@[simp] theorem State.retractOrder_keepsTraffic : u.Keeps (s.retractOrder b).traffic := by
  fun_cases State.retractOrder s b <;> simp [h]
@[simp] theorem State.startSeek_keepsTraffic (t : Track) : u.Keeps (s.startSeek b t).traffic := by simp [h, State.startSeek]
@[simp] theorem State.startHeadChange_keepsTraffic (t : Track) : u.Keeps (s.startHeadChange b t).traffic :=
  by simp [h, State.startHeadChange]
@[simp] theorem State.seekFromFollowing_keepsTraffic (t : Track) (owned : Bool) :
    u.Keeps (s.seekFromFollowing b t owned).traffic := by
  fun_cases State.seekFromFollowing s b t owned <;> simp +zetaDelta [h]
@[simp] theorem State.seekOrder_keepsTraffic (t : Track) (owned : Bool) : u.Keeps (s.seekOrder b t owned).traffic := by
  fun_cases State.seekOrder s b t owned <;> simp [h]
@[simp] theorem State.loadOrder_keepsTraffic (fresh : Bool) (seek : Option Track) :
    u.Keeps (s.loadOrder b fresh seek).traffic := by
  fun_cases State.loadOrder s b fresh seek <;> simp +zetaDelta [h]
@[simp] theorem State.takeHeldLoad_keepsTraffic : u.Keeps (s.takeHeldLoad b).traffic := by
  fun_cases State.takeHeldLoad s b <;> simp [h]
@[simp] theorem State.onParked_keepsTraffic : u.Keeps (s.onParked b).traffic := by
  fun_cases State.onParked s b <;> simp +zetaDelta [h]
@[simp] theorem State.stepParked_keepsTraffic : u.Keeps (s.stepParked b).traffic := by
  fun_cases State.stepParked s b <;> simp [h]
@[simp] theorem State.enterRecalibrating_keepsTraffic (givingUp : Bool) : u.Keeps (s.enterRecalibrating b givingUp).traffic :=
  by simp [h, State.enterRecalibrating]
@[simp] theorem State.seekFailure_keepsTraffic (cause : SeekCause) : u.Keeps (s.seekFailure b cause).traffic :=
  by simp [h, State.seekFailure]
@[simp] theorem State.takeHeldSeek_keepsTraffic : u.Keeps (s.takeHeldSeek b).traffic := by
  fun_cases State.takeHeldSeek s b <;> simp [h]
@[simp] theorem State.enterFollowing_keepsTraffic (t : Track) (x : Sample) (failed : Bool) :
    u.Keeps (s.enterFollowing b t x failed).traffic := by
  simp only [State.enterFollowing]
  (repeat' split) <;> simp [h]
@[simp] theorem State.recalibrated_keepsTraffic (x : Sample) : u.Keeps (s.recalibrated b x).traffic := by
  fun_cases State.recalibrated s b x <;> simp +zetaDelta [h]
@[simp] theorem State.offCylinder_keepsTraffic : u.Keeps (s.offCylinder b).traffic := by simp [h, State.offCylinder]
@[simp] theorem State.lostServo_keepsTraffic : u.Keeps (s.lostServo b).traffic := by simp [h, State.lostServo]
@[simp] theorem State.loadFails_keepsTraffic (d : ActDetail) : u.Keeps (s.loadFails b d).traffic := by
  fun_cases State.loadFails s b d <;> simp +zetaDelta [h]
@[simp] theorem State.closingSeek_keepsTraffic : u.Keeps (s.closingSeek b).traffic := by
  fun_cases State.closingSeek s b <;> simp [h]
@[simp] theorem State.gainSample_keepsTraffic (x : Sample) : u.Keeps (s.gainSample b x).traffic := by
  fun_cases State.gainSample s b x <;> simp [h]
@[simp] theorem State.biasSample_keepsTraffic (x : Sample) : u.Keeps (s.biasSample b x).traffic := by
  fun_cases State.biasSample s b x <;> simp [h]
@[simp] theorem State.settlingSample_keepsTraffic (x : Sample) : u.Keeps (s.settlingSample b x).traffic := by
  fun_cases State.settlingSample s b x <;> simp +zetaDelta [h]
@[simp] theorem State.followingSample_keepsTraffic (x : Sample) : u.Keeps (s.followingSample b x).traffic := by
  fun_cases State.followingSample s b x <;> simp +zetaDelta [h]
@[simp] theorem State.actOnSample_keepsTraffic (x : Sample) : u.Keeps (s.actOnSample b x).traffic := by
  fun_cases State.actOnSample s b x <;> simp [h]

/-! ### Blocks and reassigns -/

@[simp] theorem State.atTrackNow_keepsTraffic (j : Job) : u.Keeps (s.atTrackNow b j).traffic := by
  fun_cases State.atTrackNow s b j <;> simp +zetaDelta [h]
@[simp] theorem State.approach_keepsTraffic (j : Job) : u.Keeps (s.approach b j).traffic := by
  fun_cases State.approach s b j <;> simp [h]
@[simp] theorem State.takeBlock_keepsTraffic : u.Keeps (s.takeBlock b).traffic := by
  fun_cases State.takeBlock s b
  case case1 hm | case3 hm =>
    exact State.approach_keepsTraffic (State.allocate_keepsTraffic h b hm _ _) b _
  all_goals simp [h]
@[simp] theorem State.nextBlock_keepsTraffic : u.Keeps (s.nextBlock b).traffic := by
  fun_cases State.nextBlock s b <;> simp [h]
@[simp] theorem State.blockGood_keepsTraffic (c : Cmd) (j : Job) (recovered : Bool) :
    u.Keeps (s.blockGood b c j recovered).traffic := by
  simp only [State.blockGood]
  (repeat' split) <;> simp [h]
@[simp] theorem State.blockFailed_keepsTraffic (j : Job) (r : SectorResult) : u.Keeps (s.blockFailed b j r).traffic :=
  by simp [h, State.blockFailed]
@[simp] theorem State.reassignFails_keepsTraffic (r : Reassign) (code : Completion) :
    u.Keeps (s.reassignFails b r code).traffic := by
  fun_cases State.reassignFails s b r code <;> simp [h]
@[simp] theorem State.reassignEnds_keepsTraffic (r : Reassign) (j : Job) (result : SectorResult) :
    u.Keeps (s.reassignEnds b r j result).traffic :=
  by simp [h, State.reassignEnds]
@[simp] theorem State.reassignStopped_keepsTraffic (r : Reassign) (cause : StopCause) :
    u.Keeps (s.reassignStopped b r cause).traffic := by
  fun_cases State.reassignStopped s b r cause <;> simp [h]
@[simp] theorem State.attemptSpare_keepsTraffic (r : Reassign) : u.Keeps (s.attemptSpare b r).traffic := by
  fun_cases State.attemptSpare s b r <;> simp [h]
@[simp] theorem State.readAbandoned_keepsTraffic (r : Reassign) : u.Keeps (s.readAbandoned b r).traffic := by
  fun_cases State.readAbandoned s b r
  case case1 hm =>
    exact State.approach_keepsTraffic (by simp [State.allocate_keepsTraffic h b hm]) b _
  all_goals simp [h]
@[simp] theorem State.startReassign_keepsTraffic (c : Cmd) : u.Keeps (s.startReassign b c).traffic := by
  fun_cases State.startReassign s b c <;> simp [h]
@[simp] theorem State.startAuto_keepsTraffic (j : Job) : u.Keeps (s.startAuto b j).traffic := by
  fun_cases State.startAuto s b j <;> simp [h]
@[simp] theorem State.oldDataInHand_keepsTraffic (r : Reassign) (zeros : Bool) :
    u.Keeps (s.oldDataInHand b r zeros).traffic := by
  unfold State.oldDataInHand
  extract_lets s1 s2
  have hfilled : u.Keeps s1.traffic := State.modSlot_keepsTraffic h _ _ rfl
  have hwrites : u.Keeps s2.traffic := by simpa [s2] using hfilled
  split
  · exact State.reassignStopped_keepsTraffic hwrites b _ _
  · exact State.attemptSpare_keepsTraffic hwrites b _
@[simp] theorem State.sparePlaced_keepsTraffic (r : Reassign) (t : Tables) : u.Keeps (s.sparePlaced b r t).traffic := by
  fun_cases State.sparePlaced s b r t <;> simp +zetaDelta [h]
@[simp] theorem State.spareFailed_keepsTraffic (r : Reassign) (t : Tables) : u.Keeps (s.spareFailed b r t).traffic := by
  fun_cases State.spareFailed s b r t <;> simp +zetaDelta [h]
@[simp] theorem State.spareResult_keepsTraffic (r : Reassign) (j : Job) (result : SectorResult) :
    u.Keeps (s.spareResult b r j result).traffic := by
  fun_cases State.spareResult s b r j result <;> simp [h]
@[simp] theorem State.oldReadResult_keepsTraffic (r : Reassign) (j : Job) (result : SectorResult) :
    u.Keeps (s.oldReadResult b r j result).traffic := by
  fun_cases State.oldReadResult s b r j result <;> simp [h]
@[simp] theorem State.blockResult_keepsTraffic (j : Job) (r : SectorResult) : u.Keeps (s.blockResult b j r).traffic := by
  fun_cases State.blockResult s b j r <;> simp [h]

/-! ### Heads that leave -/

@[simp] theorem State.headsLeave_keepsTraffic : u.Keeps (s.headsLeave b).traffic := by
  fun_cases State.headsLeave s b <;> simp [h]

/-! ### The Cartridge Handler and Bay Power Control -/

@[simp] theorem State.ejectDone_keepsTraffic : u.Keeps (s.ejectDone b).traffic := by
  fun_cases State.ejectDone s b <;> simp +zetaDelta [h]
@[simp] theorem State.releaseConfirmed_keepsTraffic : u.Keeps (s.releaseConfirmed b).traffic :=
  by simp [h, State.releaseConfirmed]
@[simp] theorem State.issueRelease_keepsTraffic (attempts : Nat) : u.Keeps (s.issueRelease b attempts).traffic := by
  fun_cases State.issueRelease s b attempts <;> simp +zetaDelta [h]
@[simp] theorem State.freeRecordSlots_keepsTraffic : u.Keeps (s.freeRecordSlots b).traffic :=
  State.freeWhere_keepsTraffic h b _
@[simp] theorem State.enterMounting_keepsTraffic : u.Keeps (s.enterMounting b).traffic := by simp [h, State.enterMounting]
@[simp] theorem State.mountWaits_keepsTraffic : u.Keeps (s.mountWaits b).traffic := by
  fun_cases State.mountWaits s b <;> simp +zetaDelta [h]
@[simp] theorem State.mounted_keepsTraffic (t : Tables) : u.Keeps (s.mounted b t).traffic := by simp [h, State.mounted]
@[simp] theorem State.endMountRead_keepsTraffic (j : Job) (failed : Option MountDetail) :
    u.Keeps (s.endMountRead b j failed).traffic := by
  have hfreed := State.freeRecordSlots_keepsTraffic (State.dropJob_keepsTraffic h b) b
  fun_cases State.endMountRead s b j failed <;> simp +zetaDelta [hfreed]
@[simp] theorem State.mountSector_keepsTraffic (j : Job) (r : SectorResult) : u.Keeps (s.mountSector b j r).traffic := by
  fun_cases State.mountSector s b j r <;> simp [h]
@[simp] theorem State.standbyUnload_keepsTraffic : u.Keeps (s.standbyUnload b).traffic := by simp [h, State.standbyUnload]
@[simp] theorem State.standbyStopped_keepsTraffic : u.Keeps (s.standbyStopped b).traffic := by simp [h, State.standbyStopped]
@[simp] theorem State.dropFlush_keepsTraffic : u.Keeps (s.dropFlush b).traffic := by simp [h, State.dropFlush]
@[simp] theorem State.backToMounted_keepsTraffic : u.Keeps (s.backToMounted b).traffic := by simp [h, State.backToMounted]
@[simp] theorem State.flushHalted_keepsTraffic (f : Flush) : u.Keeps (s.flushHalted b f).traffic := by
  have hdropped := State.dropFlush_keepsTraffic h b
  fun_cases State.flushHalted s b f <;> simp +zetaDelta [hdropped]
@[simp] theorem State.buildFlush_keepsTraffic (f : Flush) (t : Tables) (slots : List Nat) :
    u.Keeps (s.buildFlush b f t slots).traffic :=
  State.foldl_modSlot_keepsTraffic (by simpa using h) _ _ (fun _ _ => by rfl) _
@[simp] theorem State.faultCommand_keepsTraffic (d : FaultDetail) (releasing : Bool) :
    u.Keeps (s.faultCommand b d releasing).traffic := by
  fun_cases State.faultCommand s b d releasing <;> simp [h]
@[simp] theorem State.removal_keepsTraffic : u.Keeps (s.removal b).traffic := by
  fun_cases State.removal s b <;> simp +zetaDelta [h]
@[simp] theorem State.stepRelease_keepsTraffic : u.Keeps (s.stepRelease b).traffic := by
  fun_cases State.stepRelease s b <;> simp [h]
@[simp] theorem State.stepFault_keepsTraffic : u.Keeps (s.stepFault b).traffic := by
  fun_cases State.stepFault s b <;> simp [h]

/-! ### FORMAT -/

@[simp] theorem State.formatFails_keepsTraffic (f : Format) (r : CmdResult) : u.Keeps (s.formatFails b f r).traffic :=
  by simp [h, State.formatFails]
@[simp] theorem State.formatStopped_keepsTraffic (f : Format) : u.Keeps (s.formatStopped b f).traffic :=
  by simp [h, State.formatStopped]
@[simp] theorem State.formatDone_keepsTraffic (t : Tables) : u.Keeps (s.formatDone b t).traffic := by simp [h, State.formatDone]
@[simp] theorem State.formatTrack_keepsTraffic (f : Format) : u.Keeps (s.formatTrack b f).traffic :=
  by simp [h, State.formatTrack]
@[simp] theorem State.formatBegin_keepsTraffic (f : Format) : u.Keeps (s.formatBegin b f).traffic :=
  by simp [h, State.formatBegin]
@[simp] theorem State.formatRecord_keepsTraffic (f : Format) (d : Disposing) : u.Keeps (s.formatRecord b f d).traffic :=
  by simp [h, State.formatRecord]
@[simp] theorem State.formatDispose_keepsTraffic (f : Format) : u.Keeps (s.formatDispose b f).traffic := by
  fun_cases State.formatDispose s b f <;> simp [h]
@[simp] theorem State.formatCertify_keepsTraffic (f : Format) (slots : List Nat) :
    u.Keeps (s.formatCertify b f slots).traffic := by
  have hrefilled : u.Keeps (slots.foldl (fun (s : State) k => s.modSlot k SlotRec.refilled) s).traffic :=
    State.foldl_modSlot_keepsTraffic h id (fun _ => SlotRec.refilled) (fun _ _ => rfl) slots
  exact State.approach_keepsTraffic (by simpa using hrefilled) b _
@[simp] theorem State.trackWritten_keepsTraffic (f : Format) : u.Keeps (s.trackWritten b f).traffic := by
  fun_cases State.trackWritten s b f <;> simp +zetaDelta [h]
@[simp] theorem State.certified_keepsTraffic (f : Format) : u.Keeps (s.certified b f).traffic := by simp [h, State.certified]
@[simp] theorem State.nextCertRead_keepsTraffic (f : Format) (j : Job) : u.Keeps (s.nextCertRead b f j).traffic := by
  fun_cases State.nextCertRead s b f j <;> simp [h]
@[simp] theorem State.certResult_keepsTraffic (f : Format) (j : Job) (outcome : Option EccClass) :
    u.Keeps (s.certResult b f j outcome).traffic := by
  fun_cases State.certResult s b f j outcome <;> simp [h]
@[simp] theorem State.buildFormat_keepsTraffic (t : Tables) (slots : List Nat) :
    u.Keeps (s.buildFormat t slots).traffic :=
  State.foldl_modSlot_keepsTraffic h _ _ (fun _ _ => by rfl) _
@[simp] theorem State.formatRecordSector_keepsTraffic (f : Format) (j : Job) (r : SectorResult) :
    u.Keeps (s.formatRecordSector b f j r).traffic := by
  fun_cases State.formatRecordSector s b f j r <;> simp [h]
@[simp] theorem State.formatSector_keepsTraffic (f : Format) (j : Job) (r : SectorResult) :
    u.Keeps (s.formatSector b f j r).traffic := by
  fun_cases State.formatSector s b f j r <;> simp [h]

/-! ### Stopped commands -/

@[simp] theorem State.endStopped_keepsTraffic (c : Cmd) (cause : StopCause) : u.Keeps (s.endStopped b c cause).traffic := by
  fun_cases State.endStopped s b c cause <;> simp [h]
@[simp] theorem State.tryStop_keepsTraffic : u.Keeps (s.tryStop b).traffic := by
  fun_cases State.tryStop s b <;> simp [h]
@[simp] theorem State.requestStop_keepsTraffic (cause : StopCause) : u.Keeps (s.requestStop b cause).traffic :=
  by simp [h, State.requestStop]
@[simp] theorem State.haltFlush_keepsTraffic : u.Keeps (s.haltFlush b).traffic := by
  fun_cases State.haltFlush s b <;> simp [h]
@[simp] theorem State.stopEjectFlush_keepsTraffic : u.Keeps (s.stopEjectFlush b).traffic := by
  fun_cases State.stopEjectFlush s b <;> simp [h]
@[simp] theorem State.endSilently_keepsTraffic : u.Keeps (s.endSilently b).traffic := by
  fun_cases State.endSilently s b <;> simp +zetaDelta [h]

/-! ### The Link Interface -/

omit h in
/-- A frame that is not held back finds its bay below the quota. -/
theorem State.mayAllocate_of_not_holdsFrame {c : Cmd} (hheld : ¬ s.holdsFrame b c = true) : s.mayAllocate b = true := by
  simp_all [State.holdsFrame]
/-- A sector frame without error fills the slot that it has taken, or takes one within the quota (R115, R116). -/
theorem State.takeSectorFrame_keepsTraffic (c : Cmd) (declared : Nat) (payload : List LinkByte) (ended : Detail)
    (hm : payload ≠ [] → (s.frameSlot b).isSome = false → s.mayAllocate b = true) :
    u.Keeps (s.takeSectorFrame b c declared payload ended).traffic := by
  fun_cases State.takeSectorFrame s b c declared payload ended
  case case1 => simp [h]
  case case2 herror _ _ =>
    have hbrought : payload ≠ [] := by
      rintro rfl
      revert herror
      simp only [dataOutError, payloadError]
      grind
    have htaken : u.Keeps (if (s.frameSlot b).isSome then s else s.allocate b .hostData (some (c.lba + c.received))).traffic := by
      split
      next => exact h
      next hs => exact State.allocate_keepsTraffic h b (hm hbrought (by simpa using hs)) _ _
    simp +zetaDelta [htaken]
@[simp] theorem State.imageComplete_keepsTraffic (x : Staging) : u.Keeps (s.imageComplete x).traffic := by
  have hdmt : ∀ d, ({ s with dmt := d } : State).traffic = s.traffic := fun _ => rfl
  have hprofile : ∀ p, ({ s with profile := p } : State).traffic = s.traffic := fun _ => rfl
  fun_cases State.imageComplete s x <;> simp [h, hdmt, hprofile]
@[simp] theorem State.takeImageFrame_keepsTraffic (x : Staging) (declared : Nat) (payload : List LinkByte) (ended : Detail) :
    u.Keeps (s.takeImageFrame x declared payload ended).traffic := by
  have hstaged : ∀ x, ({ s with staging := x } : State).traffic = s.traffic := fun _ => rfl
  fun_cases State.takeImageFrame s x declared payload ended <;> simp +zetaDelta [h, hstaged]
@[simp] theorem State.takeLastFrame_keepsTraffic (x : Staging) (declared : Nat) (payload : List LinkByte) (ended : Detail) :
    u.Keeps (s.takeLastFrame x declared payload ended).traffic := by
  fun_cases State.takeLastFrame s x declared payload ended <;> simp [h]
@[simp] theorem State.takeDataOut_keepsTraffic (target : BayField) (declared : Nat) (payload : List LinkByte) (late : Bool)
    (ended : Detail) : u.Keeps (s.takeDataOut target declared payload late ended).traffic := by
  fun_cases State.takeDataOut s target declared payload late ended
  case case4 b c _ hheld =>
    refine State.takeSectorFrame_keepsTraffic h _ _ _ _ _ fun hp hs => State.mayAllocate_of_not_holdsFrame b (c := c) ?_
    simpa [hp, hs, ← Option.not_isSome] using hheld
  all_goals simp [h]
@[simp] theorem State.cutHeld_keepsTraffic : u.Keeps (s.cutHeld).traffic := by
  fun_cases State.cutHeld s
  case case2 => exact State.takeSectorFrame_keepsTraffic (by simpa using h) _ _ _ _ _ (fun hp => absurd rfl hp)
  all_goals simp [h]
@[simp] theorem State.dropFrameSlot_keepsTraffic : u.Keeps (s.dropFrameSlot).traffic := by
  fun_cases State.dropFrameSlot s <;> simp [h]
@[simp] theorem State.inboundEnds_keepsTraffic (early : Bool) : u.Keeps (s.inboundEnds early).traffic := by
  fun_cases State.inboundEnds s early <;> simp [h]
@[simp] theorem State.strobed_keepsTraffic (f : InFrame) (x : LinkByte) : u.Keeps (s.strobed f x).traffic := by
  fun_cases State.strobed s f x
  case case3 hheld =>
    rw [State.takeByte_traffic]
    exact State.allocate_keepsTraffic h _ (State.mayAllocate_of_not_holdsFrame _ hheld) _ _
  all_goals simp [h]
@[simp] theorem State.stepByte_keepsTraffic : u.Keeps (s.stepByte).traffic := by
  fun_cases State.stepByte s <;> simp [h]
@[simp] theorem State.stepHeld_keepsTraffic : u.Keeps (s.stepHeld b).traffic := by
  fun_cases State.stepHeld s b
  case case4 hheld =>
    exact State.takeSectorFrame_keepsTraffic (by simpa using h) _ _ _ _ _
      fun _ _ => State.mayAllocate_of_not_holdsFrame b hheld
  all_goals simp [h]
@[simp] theorem State.receive_keepsTraffic (lfrm : Bool) (strobe : Option LinkByte) :
    u.Keeps (s.receive lfrm strobe).traffic := by
  fun_cases State.receive s lfrm strobe <;> simp [h]
@[simp] theorem State.reportSent_keepsTraffic (target : BayField) : u.Keeps (s.reportSent target).traffic := by
  fun_cases State.reportSent s target <;> simp +zetaDelta [h]
@[simp] theorem State.frameSent_keepsTraffic (f : OutFrame) : u.Keeps (s.frameSent f).traffic := by
  fun_cases State.frameSent s f <;> simp +zetaDelta [h]
@[simp] theorem State.readLinkError_keepsTraffic : u.Keeps (s.readLinkError b).traffic := by
  fun_cases State.readLinkError s b <;> simp +zetaDelta [h]
@[simp] theorem State.abandonFrame_keepsTraffic (f : OutFrame) : u.Keeps (s.abandonFrame f).traffic := by
  fun_cases State.abandonFrame s f <;> simp +zetaDelta [h]

/-! ### Acceptance and delivery -/

@[simp] theorem State.buildImage_keepsTraffic (before : Nat) : u.Keeps (s.buildImage b before).traffic := by
  fun_cases State.buildImage s b before <;> simp [h]
@[simp] theorem State.stepChannel_keepsTraffic : u.Keeps (s.stepChannel b).traffic := by
  fun_cases State.stepChannel s b
  case case1 hv _ hp _ =>
    exact State.modVisit_keepsTraffic h _ (fun _ => rfl) (.inl (State.shut_of_phase hv (by simp [hp])))
  all_goals simp [h]
@[simp] theorem State.reload_keepsTraffic (j : Job) : u.Keeps (s.reload b j).traffic := by
  fun_cases State.reload s b j <;> simp [h]
@[simp] theorem State.onReady_keepsTraffic : u.Keeps (s.onReady b).traffic := by
  fun_cases State.onReady s b <;> simp [h]
@[simp] theorem State.onSpeedLost_keepsTraffic : u.Keeps (s.onSpeedLost b).traffic := by
  fun_cases State.onSpeedLost s b <;> simp [h]
@[simp] theorem State.waitForReady_keepsTraffic (j : Job) : u.Keeps (s.waitForReady b j).traffic := by
  fun_cases State.waitForReady s b j <;> simp [h]
@[simp] theorem State.onLoadFailed_keepsTraffic : u.Keeps (s.onLoadFailed b).traffic := by
  fun_cases State.onLoadFailed s b <;> simp [h]
@[simp] theorem State.reloadNow_keepsTraffic : u.Keeps (s.reloadNow b).traffic := by
  fun_cases State.reloadNow s b <;> simp [h]
@[simp] theorem State.onSeekUnloaded_keepsTraffic : u.Keeps (s.onSeekUnloaded b).traffic := by
  fun_cases State.onSeekUnloaded s b <;> simp [h]
@[simp] theorem State.onCertified_keepsTraffic (outcome : Option EccClass) : u.Keeps (s.onCertified b outcome).traffic := by
  fun_cases State.onCertified s b outcome <;> simp [h]
@[simp] theorem State.closeEvent_keepsTraffic : u.Keeps (s.closeEvent).traffic := by simp [h, State.closeEvent]

/-! ### Cartridge events -/

@[simp] theorem State.ejectAtOnce_keepsTraffic (source : EjectSource) : u.Keeps (s.ejectAtOnce b source).traffic := by
  fun_cases State.ejectAtOnce s b source <;> simp [h]
@[simp] theorem State.cancelMount_keepsTraffic (source : EjectSource) : u.Keeps (s.cancelMount b source).traffic := by
  have hfreed : u.Keeps (((s.openEject b source .cancel).dropJob b).freeRecordSlots b).traffic :=
    State.freeRecordSlots_keepsTraffic (State.dropJob_keepsTraffic (by simpa using h) b) b
  fun_cases State.cancelMount s b source <;> simp +zetaDelta [h, hfreed]
@[simp] theorem State.ejectMounted_keepsTraffic (source : EjectSource) : u.Keeps (s.ejectMounted b source).traffic := by
  fun_cases State.ejectMounted s b source <;> simp [h]
@[simp] theorem State.ejectUnformatted_keepsTraffic (source : EjectSource) : u.Keeps (s.ejectUnformatted b source).traffic := by
  fun_cases State.ejectUnformatted s b source <;> simp [h]
@[simp] theorem State.becomesProtected_keepsTraffic : u.Keeps (s.becomesProtected b).traffic := by
  fun_cases State.becomesProtected s b <;> simp +zetaDelta [h]

/-! ### Bay commands -/

@[simp] theorem State.takeRequestSense_keepsTraffic : u.Keeps (s.takeRequestSense b).traffic := by
  fun_cases State.takeRequestSense s b <;> simp [h]
@[simp] theorem State.takePeek_keepsTraffic : u.Keeps (s.takePeek b).traffic := by
  fun_cases State.takePeek s b <;> simp [h]

/-! ### Data Channel events -/

/-- An ID field is read in a visit that searches (R121). -/
theorem State.idField_keepsTraffic {v : Visit} (hv : s.chan.visit = some v) (hp : v.phase = .searching) (j : Job) (x : IdField) :
    u.Keeps (s.idField v j x).traffic := by
  have hmatched : u.Keeps (s.modJob v.bay fun j => { j with matched := true }).traffic := by simpa using h
  have hvisit : (s.modJob v.bay fun j => { j with matched := true }).chan.visit = some v := by simpa using hv
  have hsearches : ¬ v.phase.inWrite := by simp [hp]
  fun_cases State.idField s v j x
  case case1 => exact State.openGate_keepsTraffic hmatched _ hvisit hsearches _
  case case2 => exact State.modVisit_keepsTraffic hmatched _ (fun _ => rfl) (.inl (State.shut_of_phase hvisit hsearches))
  all_goals simp [h]
theorem State.deliverSector_keepsTraffic (hg : s.traffic.Shut) (j : Job) (ecc : EccClass) (data : List Byte) :
    u.Keeps (s.deliverSector b j ecc data).traffic := by
  unfold State.deliverSector
  extract_lets s1 s2
  have hfilled : u.Keeps s1.traffic ∧ s1.traffic.Shut := by
    unfold s1
    split
    · exact ⟨State.modSlot_keepsTraffic h _ _ rfl, hg⟩
    · exact ⟨h, hg⟩
  have hcounted : s2.traffic = s1.traffic := by simp [s2, apply_ite State.traffic]
  exact State.endSector_keepsTraffic (hcounted ▸ hfilled.1) b (hcounted ▸ hfilled.2) _
@[simp] theorem State.fillCertSlot_keepsTraffic (j : Job) (ecc : EccClass) (data : List Byte) :
    u.Keeps (s.fillCertSlot b j ecc data).traffic := by
  fun_cases State.fillCertSlot s b j ecc data <;> simp [h]
/-- A data field is classed in a visit that reads it (R122). -/
theorem State.fieldClassed_keepsTraffic (hg : s.traffic.Shut) (j : Job) (ecc : EccClass) (data : List Byte) :
    u.Keeps (s.fieldClassed b j ecc data).traffic := by
  unfold State.fieldClassed
  extract_lets s1 s2
  have hclassed : s1.traffic = s.traffic := by simp [s1]
  have hread : s2.traffic = s.traffic := by simp [s2, hclassed]
  split
  · refine State.endSector_keepsTraffic (State.fillCertSlot_keepsTraffic (hclassed ▸ h) b _ _ _) b ?_ _
    unfold State.fillCertSlot
    split <;> exact hg
  · split
    · exact State.deliverSector_keepsTraffic (hread ▸ h) b (hread ▸ hg) _ _ _
    · exact State.afterFailedTry_keepsTraffic (by simpa [hread] using h) b (by simpa [hread] using hg)
/-- The gate closes with the end of a data field (R125). -/
theorem State.fieldWritten_keepsTraffic (j : Job) : u.Keeps (s.fieldWritten b j).traffic := by
  unfold State.fieldWritten
  extract_lets s1 s2 s3
  have hclosed : u.Keeps s1.traffic := h.gateCloses
  have hfull : u.Keeps s2.traffic ∧ s2.traffic.Shut := by
    unfold s2
    (repeat' split) <;> exact ⟨by simp [hclosed], nofun⟩
  have hcounted : s3.traffic = s2.traffic := by simp [s3, apply_ite State.traffic]
  exact State.endSector_keepsTraffic (hcounted ▸ hfull.1) b (hcounted ▸ hfull.2) _
@[simp] theorem State.trackPut_keepsTraffic : u.Keeps (s.trackPut b).traffic := h.gateCloses

/-! ### Link events -/

@[simp] theorem State.linkResetBay_keepsTraffic : u.Keeps (s.linkResetBay b).traffic := by
  fun_cases State.linkResetBay s b <;> simp +zetaDelta [h]

/-! ### Positioner events -/

@[simp] theorem State.takeSample_keepsTraffic (w : ServoWord) : u.Keeps (s.takeSample b w).traffic :=
  by simp [h, State.takeSample]
@[simp] theorem State.recalibrationFails_keepsTraffic : u.Keeps (s.recalibrationFails b).traffic := by
  fun_cases State.recalibrationFails s b <;> simp [h]
@[simp] theorem State.parkSensor_keepsTraffic (parked : Bool) : u.Keeps (s.parkSensor b parked).traffic := by
  fun_cases State.parkSensor s b parked <;> simp +zetaDelta [h]

/-! ### Idle timers, slots of an operation, ABORT and the link reset -/

@[simp] theorem State.unloadTimerExpires_keepsTraffic : u.Keeps (s.unloadTimerExpires b).traffic := by
  fun_cases State.unloadTimerExpires s b <;> simp +zetaDelta [h]
@[simp] theorem State.fillSlots_keepsTraffic (n : Nat) : u.Keeps (State.fillSlots n s b).traffic := by
  induction n generalizing s with
  | zero => exact h
  | succ n ih =>
    unfold State.fillSlots
    split
    · split
      next hm =>
        simp only [Bool.and_eq_true] at hm
        exact ih (by simpa using State.allocate_keepsTraffic h b hm.2 _ _)
      next => exact h
    · exact h
@[simp] theorem State.abortEject_keepsTraffic (b : BayId) : u.Keeps (s.abortEject b).2.traffic := by
  fun_cases State.abortEject s b <;> simp [h]
@[simp] theorem State.abortBay_keepsTraffic (b : BayId) : u.Keeps (s.abortBay b).traffic := by
  fun_cases State.abortBay s b <;> simp [h]
@[simp] theorem State.takeAbort_keepsTraffic (target : BayField) : u.Keeps (s.takeAbort target).traffic := by
  fun_cases State.takeAbort s target <;> simp [h]
@[simp] theorem State.linkResetLink_keepsTraffic : u.Keeps s.linkResetLink.traffic := by
  rw [State.linkResetLink, State.finishDevice_traffic]
  exact State.dropFrameSlot_keepsTraffic h

/-! ### Starts and stops -/

@[simp] theorem State.takeStopRequest_keepsTraffic : u.Keeps (s.takeStopRequest b).traffic := by
  fun_cases State.takeStopRequest s b <;> simp [h]
@[simp] theorem State.stopRequest_keepsTraffic : u.Keeps (s.stopRequest b).traffic := by
  simp [State.stopRequest, h]
@[simp] theorem State.enterSpinFailed_keepsTraffic (d : SpinDetail) : u.Keeps (s.enterSpinFailed b d).traffic := by
  simp [State.enterSpinFailed, h]

/-! ### Index edges -/

@[simp] theorem State.enterSpeedFault_keepsTraffic : u.Keeps (s.enterSpeedFault b).traffic := by
  simp [State.enterSpeedFault, h]
@[simp] theorem State.endAtSpeed_keepsTraffic : u.Keeps (s.endAtSpeed b).traffic := by
  fun_cases State.endAtSpeed s b <;> simp +zetaDelta [h]
@[simp] theorem State.endRevolution_keepsTraffic : u.Keeps (s.endRevolution b).traffic := by
  fun_cases State.endRevolution s b <;> simp [h]
@[simp] theorem State.takeEdge_keepsTraffic (elapsed : Nat) : u.Keeps (s.takeEdge b elapsed).traffic := by
  have hended : u.Keeps ((s.modSpindle b fun x => (x.measured elapsed).edgeTimers).endRevolution b).traffic := by simp [h]
  simp only [State.takeEdge]
  (repeat' split) <;> simp [h, hended]

/-! ### What the operations above the Spindle Controller do to it -/

@[simp] theorem State.standbyBrake_keepsTraffic : u.Keeps (s.standbyBrake b).traffic := by
  simp [State.standbyBrake, h]
@[simp] theorem State.stepStandby_keepsTraffic : u.Keeps (s.stepStandby b).traffic := by
  fun_cases State.stepStandby s b <;> simp +zetaDelta [h]
@[simp] theorem State.beginWake_keepsTraffic (waiting : Bool) : u.Keeps (s.beginWake b waiting).traffic := by
  simp only [State.beginWake]
  (repeat' split) <;> simp [h]
@[simp] theorem State.waitForWake_keepsTraffic : u.Keeps (s.waitForWake b).traffic := by
  fun_cases State.waitForWake s b <;> simp +zetaDelta [h]
@[simp] theorem State.endEntryFor_keepsTraffic (c : Cmd) : u.Keeps (s.endEntryFor b c).traffic := by
  fun_cases State.endEntryFor s b c <;> simp +zetaDelta [h]
@[simp] theorem State.afterStandbyFlush_keepsTraffic (failed : Option (Completion × SenseAddr)) :
    u.Keeps (s.afterStandbyFlush b failed).traffic := by
  have hback : ∀ (c : Prop) [Decidable c] (m : PowerMode),
      u.Keeps (if c then ((s.endEntry b).setMode b .parkedIdle).unloadOrder b else (s.endEntry b).setMode b m).traffic := by
    simp [h]
  fun_cases State.afterStandbyFlush s b failed <;> simp +zetaDelta [h, hback]
@[simp] theorem State.startFlush_keepsTraffic (requester : FlushFor) (caps : Caps) :
    u.Keeps (s.startFlush b requester caps).traffic := by
  fun_cases State.startFlush s b requester caps <;> simp +zetaDelta [h]
@[simp] theorem State.flushFailed_keepsTraffic (f : Flush) (r : Completion) (x : SenseAddr) :
    u.Keeps (s.flushFailed b f r x).traffic := by
  have hdropped := State.dropFlush_keepsTraffic h b
  fun_cases State.flushFailed s b f r x <;> simp +zetaDelta [hdropped]
@[simp] theorem State.flushSucceeded_keepsTraffic (f : Flush) : u.Keeps (s.flushSucceeded b f).traffic := by
  have hdropped := State.dropFlush_keepsTraffic h b
  fun_cases State.flushSucceeded s b f <;> simp +zetaDelta [hdropped]
@[simp] theorem State.flushSector_keepsTraffic (j : Job) (r : SectorResult) : u.Keeps (s.flushSector b j r).traffic := by
  fun_cases State.flushSector s b j r <;> simp [h]
@[simp] theorem State.stepUnmount_keepsTraffic : u.Keeps (s.stepUnmount b).traffic := by
  fun_cases State.stepUnmount s b <;> simp [h]
@[simp] theorem State.bayFault_keepsTraffic (d : FaultDetail) : u.Keeps (s.bayFault b d).traffic := by
  have hfreed : ∀ {t : State}, u.Keeps t.traffic → ∀ d releasing,
      u.Keeps ((((t.faultCommand b d releasing).leavePower b).dropJob b).freeRecordSlots b).traffic := fun ht d releasing =>
    State.freeRecordSlots_keepsTraffic (State.dropJob_keepsTraffic (by simp [ht]) b) b
  fun_cases State.bayFault s b d <;> simp +zetaDelta [h, hfreed]
@[simp] theorem State.lockFault_keepsTraffic : u.Keeps (s.lockFault b).traffic :=
  State.bayFault_keepsTraffic (State.stopRequest_keepsTraffic (State.retractOrder_keepsTraffic h b) b) b _
@[simp] theorem State.flushCommand_keepsTraffic (c : Cmd) : u.Keeps (s.flushCommand b c).traffic := by
  fun_cases State.flushCommand s b c <;> simp +zetaDelta [h]
@[simp] theorem State.beginWork_keepsTraffic : u.Keeps (s.beginWork b).traffic := by
  fun_cases State.beginWork s b <;> simp [h]
@[simp] theorem State.takeInMode_keepsTraffic (op : CmdOp) : u.Keeps (s.takeInMode b op).traffic := by
  fun_cases State.takeInMode s b op <;> simp +zetaDelta [h]
@[simp] theorem State.commandAccepted_keepsTraffic (op : CmdOp) : u.Keeps (s.commandAccepted b op).traffic := by
  fun_cases State.commandAccepted s b op <;> simp +zetaDelta [h]
@[simp] theorem State.mediaCommand_keepsTraffic (op : CmdOp) (lba count : Nat) :
    u.Keeps (s.mediaCommand b op lba count).traffic := by
  fun_cases State.mediaCommand s b op lba count <;> simp [h]
@[simp] theorem State.mountIsOver_keepsTraffic : u.Keeps (s.mountIsOver b).traffic := by
  fun_cases State.mountIsOver s b <;> simp [h]
@[simp] theorem State.stepCommand_keepsTraffic : u.Keeps (s.stepCommand b).traffic := by
  fun_cases State.stepCommand s b <;> simp [h]
@[simp] theorem State.stepCart_keepsTraffic : u.Keeps (s.stepCart b).traffic := by
  fun_cases State.stepCart s b <;> simp [h]
@[simp] theorem State.goOn_keepsTraffic : u.Keeps (s.goOn b).traffic := by
  have hcommand : u.Keeps (((s.stepParked b).stepHeld b).stepCommand b).traffic := State.stepCommand_keepsTraffic (by simp [h]) b
  have hchannel := State.stepChannel_keepsTraffic
    (State.buildImage_keepsTraffic (State.fillSlots_keepsTraffic hcommand b 4) b
      ((((((s.stepParked b).stepHeld b).stepCommand b).bay b).job.map fun j => j.slots.length).getD 0)) b
  exact State.stepCart_keepsTraffic (State.stepStandby_keepsTraffic hchannel b) b
@[simp] theorem State.wakeEnds_keepsTraffic : u.Keeps (s.wakeEnds b).traffic := by
  fun_cases State.wakeEnds s b <;> simp +zetaDelta [h]
@[simp] theorem State.onLoaded_keepsTraffic : u.Keeps (s.onLoaded b).traffic := by
  simp only [State.onLoaded]
  (repeat' split) <;> simp [h]
@[simp] theorem State.onSector_keepsTraffic (r : SectorResult) : u.Keeps (s.onSector b r).traffic := by
  fun_cases State.onSector s b r <;> simp [h]
@[simp] theorem State.takeEject_keepsTraffic (source : EjectSource) : u.Keeps (s.takeEject b source).traffic := by
  fun_cases State.takeEject s b source <;> simp [h]
@[simp] theorem State.cartridgeLeaves_keepsTraffic : u.Keeps (s.cartridgeLeaves b).traffic := by
  fun_cases State.cartridgeLeaves s b <;> simp [h]
@[simp] theorem State.lockOpens_keepsTraffic : u.Keeps (s.lockOpens b).traffic := by
  have hretracts := State.ite_keepsTraffic (State.enterRetracting_keepsTraffic h b) h ((s.bay b).pos.state.loaded = true)
  fun_cases State.lockOpens s b <;> simp +zetaDelta [hretracts]
@[simp] theorem State.buttonPressed_keepsTraffic : u.Keeps (s.buttonPressed b).traffic := by
  fun_cases State.buttonPressed s b <;> simp [h]
@[simp] theorem State.lockUnconfirmed_keepsTraffic : u.Keeps (s.lockUnconfirmed b).traffic := by
  fun_cases State.lockUnconfirmed s b <;> simp +zetaDelta [h]
@[simp] theorem State.releaseUnconfirmed_keepsTraffic : u.Keeps (s.releaseUnconfirmed b).traffic := by
  fun_cases State.releaseUnconfirmed s b <;> simp +zetaDelta [h]
@[simp] theorem State.takeEjectCommand_keepsTraffic (force : Bool) : u.Keeps (s.takeEjectCommand b force).traffic := by
  fun_cases State.takeEjectCommand s b force <;> simp +zetaDelta [h]
@[simp] theorem State.takeReportCartridge_keepsTraffic : u.Keeps (s.takeReportCartridge b).traffic := by
  fun_cases State.takeReportCartridge s b <;> simp [h]
@[simp] theorem State.tableReport_keepsTraffic (op : CmdOp) : u.Keeps (s.tableReport b op).traffic := by
  fun_cases State.tableReport s b op <;> simp [h]
@[simp] theorem State.enterStandby_keepsTraffic (source : EntrySource) : u.Keeps (s.enterStandby b source).traffic := by
  fun_cases State.enterStandby s b source <;> simp +zetaDelta [h]
@[simp] theorem State.takeStandbyNow_keepsTraffic : u.Keeps (s.takeStandbyNow b).traffic := by
  fun_cases State.takeStandbyNow s b <;> simp +zetaDelta [h]
@[simp] theorem State.takeWake_keepsTraffic : u.Keeps (s.takeWake b).traffic := by
  fun_cases State.takeWake s b <;> simp [h]
@[simp] theorem State.loadBayTable_keepsTraffic (id : TableId) (length : BitVec 16) :
    u.Keeps (s.loadBayTable b id length).traffic := by
  have hstaged : ∀ x, u.Keeps ({ s with staging := x } : State).traffic := fun _ => h
  fun_cases State.loadBayTable s b id length <;> simp [h, hstaged]
@[simp] theorem State.readBayTable_keepsTraffic (id : TableId) (staged : Option (List Byte)) (missing : Detail) :
    u.Keeps (s.readBayTable b id staged missing).traffic := by
  fun_cases State.readBayTable s b id staged missing <;> simp [h]
@[simp] theorem State.hostCommand_keepsTraffic (i : Instr) : u.Keeps (s.hostCommand i).traffic := by
  fun_cases State.hostCommand s i <;> simp [h]
@[simp] theorem State.takeFrame_keepsTraffic (frame : Inbound) (ended : Detail) : u.Keeps (s.takeFrame frame ended).traffic := by
  fun_cases State.takeFrame s frame ended <;> simp [h]
@[simp] theorem State.standbyTimerExpires_keepsTraffic : u.Keeps (s.standbyTimerExpires b).traffic := by
  simp [State.standbyTimerExpires, h]

end

section
variable {u : Traffic} {s : State} (h : u.Keeps s.traffic) (b : BayId)
include h

/-! ### The end of an event -/

theorem State.deliver_keepsTraffic (m : Signal) : u.Keeps (s.deliver m).traffic := by
  fun_cases State.deliver s m <;> simp [h]

omit h in
theorem settle_keepsTraffic (n : Nat) : ∀ {s : State}, u.Keeps s.traffic → u.Keeps (settle n s).traffic := by
  induction n with
  | zero => exact id
  | succ n ih =>
    intro s h
    unfold settle
    split
    · exact h
    next m rest _ => exact ih (State.deliver_keepsTraffic (s := { s with signals := rest }) h m)

/-- The end of an event delivers its messages and lets the link begin a frame. -/
theorem State.conclude_keepsTraffic {t : State} (ht : s.conclude = .next t) : u.Keeps t.traffic := by
  rcases State.conclude_next ht with ⟨-, rfl⟩ | ⟨-, -, rfl⟩
  · exact h
  · exact State.closeEvent_keepsTraffic (settle_keepsTraffic _ h)

theorem State.endInbound_keepsTraffic (early : Bool) {f : State → State}
    (hf : ∀ {s : State}, u.Keeps s.traffic → u.Keeps (f s).traffic) : u.Keeps (s.endInbound early f).traffic :=
  State.inboundEnds_keepsTraffic (hf (by simpa)) early

theorem State.ldirCuts_keepsTraffic (dir : LinkDir) (inbound : Inbound) : u.Keeps (s.ldirCuts dir inbound).traffic := by
  fun_cases State.ldirCuts s dir inbound
  case case5 => exact State.endInbound_keepsTraffic h true fun h => State.takeFrame_keepsTraffic h _ _
  all_goals simp [h]

/-! ### Which events are taken -/

section
variable {t : State}

theorem State.frame_keepsTraffic {i : Instr} {f : State → State} (ht : s.frame i f = .next t)
    (hf : ∀ {s : State}, u.Keeps s.traffic → u.Keeps (f s).traffic) : u.Keeps t.traffic := by
  unfold State.frame at ht
  split at ht
  · exact State.conclude_keepsTraffic (hf (by simpa)) ht
  · split at ht
    · exact State.conclude_keepsTraffic (State.endInbound_keepsTraffic h false hf) ht
    · split at ht <;> cases ht <;> simpa

theorem State.bayEvent_keepsTraffic {f : State → State} (ht : s.bayEvent b f = .next t) (hf : u.Keeps (f s).traffic) :
    u.Keeps t.traffic := by
  unfold State.bayEvent at ht
  split at ht
  · exact State.conclude_keepsTraffic hf ht
  · cases ht; exact h

theorem State.bayAct_keepsTraffic {f : State → State} (ht : s.bayAct b f = .next t) (hf : u.Keeps (f s).traffic) :
    u.Keeps t.traffic := by
  unfold State.bayAct at ht
  split at ht
  · exact State.conclude_keepsTraffic hf ht
  · cases ht; exact h

/-- A timer that acts only where it is due. -/
theorem State.bayAct_due_keepsTraffic {c : State → Prop} [∀ s, Decidable (c s)] {f : State → State}
    (ht : s.bayAct b (fun s => if c s then f s else s) = .next t) (hf : u.Keeps (f s).traffic) : u.Keeps t.traffic :=
  State.bayAct_keepsTraffic h b ht (State.ite_keepsTraffic hf h _)

theorem State.baySensor_keepsTraffic {level act : State → State} (ht : s.baySensor b level act = .next t)
    (hl : u.Keeps (level s).traffic) (hact : u.Keeps (act (level s)).traffic) : u.Keeps t.traffic := by
  unfold State.baySensor at ht
  split at ht
  · refine State.conclude_keepsTraffic ?_ ht
    split <;> assumption
  · cases ht; exact h

theorem State.visitEvent_keepsTraffic {f : Visit → Job → State} (ht : s.visitEvent f = .next t)
    (hf : ∀ v j, s.chan.visit = some v → u.Keeps (f v j).traffic) : u.Keeps t.traffic := by
  unfold State.visitEvent at ht
  split at ht
  next v hv =>
    split at ht
    · split at ht
      · cases ht; exact h
      · exact State.conclude_keepsTraffic (hf v _ hv) ht
    · cases ht; exact h
  next => cases ht; exact h

/-! ### The events of the link and of the servo bus -/

omit b in
theorem execLinkReset_keepsTraffic (ht : execLinkReset s = .next t) : u.Keeps t.traffic := by
  unfold execLinkReset at ht
  split at ht
  · cases ht; exact h
  · split at ht
    · cases ht; simpa
    · exact State.conclude_keepsTraffic (State.linkResetBay_keepsTraffic
        (State.linkResetBay_keepsTraffic (State.linkResetLink_keepsTraffic h) _) _) ht

omit b in
theorem execLdirChange_keepsTraffic {dir : LinkDir} {inbound : Inbound} (ht : execLdirChange dir inbound s = .next t) :
    u.Keeps t.traffic := by
  simp only [execLdirChange] at ht
  split at ht
  · cases ht; exact h
  · split at ht
    · exact State.conclude_keepsTraffic (by simpa using State.ldirCuts_keepsTraffic h dir inbound) ht
    · cases ht; simpa

omit b in
theorem execLinkTimeout_keepsTraffic {inbound : Inbound} (ht : execLinkTimeout inbound s = .next t) : u.Keeps t.traffic := by
  unfold execLinkTimeout at ht
  split at ht
  · split at ht
    · exact State.conclude_keepsTraffic (by simp [h]) ht
    · cases ht; exact h
  · split at ht
    · exact State.conclude_keepsTraffic
        (State.endInbound_keepsTraffic h true fun h => State.takeFrame_keepsTraffic h _ _) ht
    · split at ht
      · exact State.conclude_keepsTraffic (by simp [h]) ht
      · cases ht; exact h

omit b in
theorem execOutboundFrameSent_keepsTraffic (ht : execOutboundFrameSent s = .next t) : u.Keeps t.traffic := by
  unfold execOutboundFrameSent at ht
  split at ht
  · split at ht
    · exact State.conclude_keepsTraffic (by simp [h]) ht
    · cases ht; exact h
  · cases ht; exact h

theorem execServoSample_keepsTraffic {w : ServoWord} (ht : execServoSample b w s = .next t) : u.Keeps t.traffic := by
  have hhanded : u.Keeps ({ s with servo := s.servo.handedOver b } : State).traffic := h
  simp only [execServoSample] at ht
  split at ht
  · cases ht; exact h
  · split at ht
    · cases ht; simpa
    · exact State.conclude_keepsTraffic (by simp [hhanded]) ht

/-! ### The events of the Data Channel -/

omit b in
theorem execIdFieldRead_keepsTraffic {field : BitVec 48} (ht : execIdFieldRead field s = .next t) : u.Keeps t.traffic := by
  refine State.visitEvent_keepsTraffic h ht fun v j hv => ?_
  split
  next hp _ => exact State.idField_keepsTraffic h hv hp j _
  next => exact h

omit b in
theorem execIdSearchAttemptEnd_keepsTraffic (ht : execIdSearchAttemptEnd s = .next t) : u.Keeps t.traffic := by
  refine State.visitEvent_keepsTraffic h ht fun v j hv => ?_
  split
  next hp =>
    exact State.afterFailedTry_keepsTraffic (by simpa) _ (by simpa using State.shut_of_phase hv (by simp [hp]))
  next => exact h

omit b in
theorem execDataFieldRead_keepsTraffic {data : List Byte} {check : BitVec 48} (ht : execDataFieldRead data check s = .next t) :
    u.Keeps t.traffic := by
  refine State.visitEvent_keepsTraffic h ht fun v j hv => ?_
  split
  next hp => exact State.fieldClassed_keepsTraffic h _ (State.shut_of_phase hv (by simp [hp])) _ _ _
  next => exact h

omit b in
theorem execDataFieldWritten_keepsTraffic (ht : execDataFieldWritten s = .next t) : u.Keeps t.traffic := by
  refine State.visitEvent_keepsTraffic h ht fun v j _ => ?_
  split
  · exact State.fieldWritten_keepsTraffic h _ _
  · exact h

omit b in
theorem execFormatTrackWritten_keepsTraffic (ht : execFormatTrackWritten s = .next t) : u.Keeps t.traffic := by
  refine State.visitEvent_keepsTraffic h ht fun v j _ => ?_
  split
  · exact State.endSector_keepsTraffic (State.trackPut_keepsTraffic h _) _ nofun _
  · exact h

omit b in
/-- The end of the visit's field count keeps the phase, or fails a try of a visit that searches (R121). -/
theorem execVisitFieldCountEnd_keepsTraffic (ht : execVisitFieldCountEnd s = .next t) : u.Keeps t.traffic := by
  refine State.visitEvent_keepsTraffic h ht fun v j hv => ?_
  have hending : u.Keeps (s.modVisit fun v => { v with ending := true }).traffic :=
    State.modVisit_keepsTraffic h _ (fun _ => rfl) (.inr fun _ => rfl)
  have hvisit : (s.modVisit fun v => { v with ending := true }).chan.visit = some { v with ending := true } := by
    simp [State.modVisit, hv]
  simp only []
  split
  case h_1 hp =>
    split
    · refine State.afterFailedTry_keepsTraffic (by simpa) _ ?_
      simpa using State.shut_of_phase hvisit (by simp [hp])
    · exact State.releaseChannel_keepsTraffic hending _
  case h_2 => exact State.releaseChannel_keepsTraffic hending _
  case h_6 => exact h
  all_goals exact hending

omit b in
/-- Every command and event but END_OF_RESET keeps the channel and the buffer. -/
theorem exec_keepsTraffic {i : Instr} (hreset : ∀ pins, i ≠ .endOfReset pins) (ht : exec i s = .next t) : u.Keeps t.traffic := by
  have hhost : exec i s = s.frame i (fun s => s.hostCommand i) → u.Keeps t.traffic := fun he =>
    State.frame_keepsTraffic h (he.symm.trans ht) fun h => State.hostCommand_keepsTraffic h i
  cases i
  case endOfReset pins => exact absurd rfl (hreset pins)
  case powerFailLatch =>
    change execPowerFailLatch s = _ at ht
    unfold execPowerFailLatch at ht
    split at ht <;> cases ht
    · exact h
    · exact h.released
  case resetAsserted => cases ht; exact h.gateCloses
  case linkReset => exact execLinkReset_keepsTraffic h ht
  case linkResetRelease => exact State.conclude_keepsTraffic (by simpa) ht
  case ldirChange => exact execLdirChange_keepsTraffic h ht
  case inboundFrameError frame =>
    change execInboundFrameError frame s = _ at ht
    unfold execInboundFrameError at ht
    split at ht
    · exact State.frame_keepsTraffic h ht fun h => State.takeFrame_keepsTraffic h _ _
    · cases ht; exact h
  case dataOutFrame target declared payload =>
    exact State.frame_keepsTraffic h (show execDataOutFrame target declared payload s = _ from ht) fun h => by simp [h]
  case outboundFrameSent => exact execOutboundFrameSent_keepsTraffic h ht
  case linkTimeout => exact execLinkTimeout_keepsTraffic h ht
  case indexEdge b elapsed =>
    exact State.bayEvent_keepsTraffic h b (show execIndexEdge b elapsed s = _ from ht) (by simp [h])
  case servoSample b w => exact execServoSample_keepsTraffic h b ht
  case powerOnWatchEnd b =>
    exact State.bayAct_due_keepsTraffic h b (show execPowerOnWatchEnd b s = _ from ht) (by simp [h])
  case stopTimerExpiry b => exact State.bayAct_due_keepsTraffic h b (show execStopTimerExpiry b s = _ from ht) (by simp [h])
  case firstIndexTimerExpiry b =>
    exact State.bayAct_due_keepsTraffic h b (show execFirstIndexTimerExpiry b s = _ from ht) (by simp [h])
  case gapTimerExpiry b => exact State.bayAct_due_keepsTraffic h b (show execGapTimerExpiry b s = _ from ht) (by simp [h])
  case spinUpTimerExpiry b => exact State.bayAct_due_keepsTraffic h b (show execSpinUpTimerExpiry b s = _ from ht) (by simp [h])
  case recoveryTimerExpiry b =>
    exact State.bayAct_due_keepsTraffic h b (show execRecoveryTimerExpiry b s = _ from ht) (by simp [h])
  case brakeTimerExpiry b => exact State.bayAct_due_keepsTraffic h b (show execBrakeTimerExpiry b s = _ from ht) (by simp [h])
  case loadTimerExpiry b => exact State.bayAct_due_keepsTraffic h b (show execLoadTimerExpiry b s = _ from ht) (by simp [h])
  case seekTimerExpiry b => exact State.bayAct_due_keepsTraffic h b (show execSeekTimerExpiry b s = _ from ht) (by simp [h])
  case recalibrateTimerExpiry b =>
    exact State.bayAct_due_keepsTraffic h b (show execRecalibrateTimerExpiry b s = _ from ht) (by simp [h])
  case positionerUnloadTimerExpiry b =>
    exact State.bayAct_due_keepsTraffic h b (show execPositionerUnloadTimerExpiry b s = _ from ht) (by simp [h])
  case retractTimerExpiry b =>
    exact State.bayEvent_keepsTraffic h b (show execRetractTimerExpiry b s = _ from ht) (by simp [h])
  case parkSensorChange b parked =>
    exact State.bayEvent_keepsTraffic h b (show execParkSensorChange b parked s = _ from ht) (by simp [h])
  case presentAccepted b =>
    exact State.baySensor_keepsTraffic h b (show execPresentAccepted b s = _ from ht) (by simpa) (by simpa)
  case presentLost b =>
    exact State.baySensor_keepsTraffic h b (show execPresentLost b s = _ from ht) (by simpa) (by simp [h])
  case writeProtectChange b p =>
    exact State.baySensor_keepsTraffic h b (show execWriteProtectChange b p s = _ from ht) (by simpa) (by simp [h])
  case lockSenseEngaged b =>
    exact State.baySensor_keepsTraffic h b (show execLockSenseEngaged b s = _ from ht) (by simpa) (by simp [h])
  case lockSenseOpen b =>
    exact State.baySensor_keepsTraffic h b (show execLockSenseOpen b s = _ from ht) (by simpa) (by simp [h])
  case ejectButtonPress level =>
    change execEjectButtonPress level s = _ at ht
    simp only [execEjectButtonPress] at ht
    exact State.baySensor_keepsTraffic h level.bay ht (by simpa) (by split <;> simp [h])
  case settleTimerExpiry b => exact State.bayAct_due_keepsTraffic h b (show execSettleTimerExpiry b s = _ from ht) (by simp [h])
  case pulseEnd b => exact State.bayAct_keepsTraffic h b (show execPulseEnd b s = _ from ht) (by simpa)
  case lockConfirmExpiry b => exact State.bayAct_due_keepsTraffic h b (show execLockConfirmExpiry b s = _ from ht) (by simp [h])
  case releaseConfirmExpiry b =>
    exact State.bayAct_due_keepsTraffic h b (show execReleaseConfirmExpiry b s = _ from ht) (by simp [h])
  case idFieldRead field => exact execIdFieldRead_keepsTraffic h ht
  case idSearchAttemptEnd => exact execIdSearchAttemptEnd_keepsTraffic h ht
  case dataFieldRead data check => exact execDataFieldRead_keepsTraffic h ht
  case dataFieldWritten => exact execDataFieldWritten_keepsTraffic h ht
  case formatTrackWritten => exact execFormatTrackWritten_keepsTraffic h ht
  case visitFieldCountEnd => exact execVisitFieldCountEnd_keepsTraffic h ht
  case idleUnloadTimerExpiry b =>
    exact State.bayAct_due_keepsTraffic h b (show execIdleUnloadTimerExpiry b s = _ from ht) (by split <;> simp [h])
  case standbyTimerExpiry b =>
    exact State.bayAct_due_keepsTraffic h b (show execStandbyTimerExpiry b s = _ from ht) (by simp [h])
  case ledFlashToggle b => exact State.bayAct_due_keepsTraffic h b (show execLedFlashToggle b s = _ from ht) (by simpa)
  all_goals exact hhost rfl

end
end

/-! ### Steps -/

theorem State.tick_keepsTraffic (s : State) : s.traffic.Keeps s.tick.traffic := by
  have hreceived := State.receive_keepsTraffic (Traffic.Keeps.refl s.traffic) (inputsAt s.hostTurns).lfrm
    (inputsAt s.hostTurns).strobe
  show s.traffic.Keeps (s.count (inputsAt s.hostTurns)).traffic
  unfold State.count
  split
  · exact Traffic.Keeps.refl _
  · exact hreceived

/-- What the invariants ask of a part: those of the channel, and those of the buffer. -/
theorem startState_buffer (pins : Pins) : (startState pins).traffic.Guarded ∧ (startState pins).twelveSlots ∧
    (startState pins).traffic.Within :=
  ⟨⟨rfl, nofun⟩, rfl, fun _ => Nat.zero_le _⟩

/-- A part that an event or a microsecond has kept, or one that has just come out of RESET. -/
theorem step_keepsTraffic {s t : State} (ht : step s = .next t) :
    s.traffic.Keeps t.traffic ∨ ∃ pins, (startState pins).traffic.Keeps t.traffic := by
  have hexec : ∀ i (s' : State), s'.traffic = s.traffic → exec i s' = .next t →
      s.traffic.Keeps t.traffic ∨ ∃ pins, (startState pins).traffic.Keeps t.traffic := by
    intro i s' hs ht
    by_cases hreset : ∃ pins, i = .endOfReset pins
    · obtain ⟨pins, rfl⟩ := hreset
      change execEndOfReset pins s' = _ at ht
      simp only [execEndOfReset] at ht
      split at ht
      · refine .inr ⟨pins, State.conclude_keepsTraffic ?_ ht⟩
        split
        · exact (Traffic.Keeps.refl _).released
        · exact Traffic.Keeps.refl _
      · cases ht
        exact .inl (hs ▸ Traffic.Keeps.refl _)
    · exact .inl (exec_keepsTraffic (hs ▸ Traffic.Keeps.refl _) (fun pins hi => hreset ⟨pins, hi⟩) ht)
  obtain ⟨i, rest, -, ht⟩ | ⟨i, -, -, ht⟩ | rfl := step_next ht
  · exact hexec i { s with pending := rest } rfl ht
  · exact hexec i s.unwithheld rfl ht
  · exact .inl s.tick_keepsTraffic

end Sys2Proof.Machine

namespace Sys2Proof
open Machine

/-- Settles O6: every operation keeps the view of the channel (`exec_keepsTraffic`), the gate being opened only in a visit that
writes from then on, and closed before such a visit goes on with anything else. -/
theorem stepKeepsChannel : Obligations.StepKeepsChannel := by
  intro s t h ht
  obtain hkept | ⟨pins, hkept⟩ := step_keepsTraffic ht
  · exact hkept.guarded h
  · exact hkept.guarded (startState_buffer pins).1

/-- Settles O7: slots change hands one by one, within the quota of the bay that takes them (`State.allocate_keepsTraffic`). -/
theorem stepKeepsTheSlotQuota : Obligations.StepKeepsTheSlotQuota := by
  refine ⟨fun s t h ht => ?_, fun s t _ h ht => ?_⟩
  · obtain hkept | ⟨pins, hkept⟩ := step_keepsTraffic ht
    · exact hkept.slots.trans h
    · exact hkept.slots.trans (startState_buffer pins).2.1
  · obtain hkept | ⟨pins, hkept⟩ := step_keepsTraffic ht
    · exact hkept.within h
    · exact hkept.within (startState_buffer pins).2.2

end Sys2Proof

section
/-! SUPPORT. A change of LDIR with no frame in progress and none going out, and the frame that the part then begins (R171, R177). -/

namespace Sys2Proof.Machine

/-! ## LDIR changes with no frame in progress -/

/-- LDIR at IN cuts nothing where no inbound frame is in progress, none is withheld and the row brings no bytes. -/
theorem State.ldirCuts_in {s : State} (hframe : s.link.inFrame = none) (hwithheld : s.link.withheld = none) :
    s.ldirCuts .partSends .absent = s := by
  simp [State.ldirCuts, State.frameUnderWay_idle hframe, hframe, hwithheld, Inbound.absent]

/-- LDIR at OUT cuts nothing where no frame is going out. -/
theorem State.ldirCuts_out {s : State} (hout : s.link.outFrame = none) (inbound : Inbound) : s.ldirCuts .hostSends inbound = s := by
  simp [State.ldirCuts, hout]

theorem State.linkAlive_of {s : State} (hrun : s.running) (hlrst : s.link.lrst = false) : s.linkAlive = true := by
  simp [State.linkAlive, hrun.1, hrun.2, hlrst]

/-- A live link with LDIR at IN and no frame going out begins the next one (R177). -/
theorem State.kick_begins {s : State} (halive : s.linkAlive = true) (hldir : s.link.ldir = .partSends)
    (hout : s.link.outFrame = none) : s.kick = s.beginFrame := by
  simp [State.kick, halive, hldir, hout]

/-- LDIR at IN, with no frame either way, begins the part's next frame. -/
theorem exec_ldirChange_in {s : State} (hrun : s.running) (hsettled : s.settled) (hlrst : s.link.lrst = false)
    (hldir : s.link.ldir = .hostSends) (hframe : s.link.inFrame = none) (hwithheld : s.link.withheld = none)
    (hout : s.link.outFrame = none) :
    exec (.ldirChange .partSends .absent) s = .next (s.modLink fun l => { l with ldir := .partSends }).beginFrame := by
  have halive := State.linkAlive_of hrun hlrst
  show execLdirChange .partSends .absent s = _
  rw [← State.kick_begins (by exact halive) rfl (by exact hout), ← State.conclude_settled (s.modLink fun l => { l with ldir := .partSends }) hrun hsettled]
  simp [execLdirChange, hldir, halive, State.ldirCuts_in hframe hwithheld]

/-- LDIR at OUT, with no frame going out, changes the level alone, with LRST asserted or not. -/
theorem exec_ldirChange_out {s : State} (hrun : s.running) (hsettled : s.settled) (hldir : s.link.ldir = .partSends)
    (hout : s.link.outFrame = none) (inbound : Inbound) :
    exec (.ldirChange .hostSends inbound) s = .next (s.modLink fun l => { l with ldir := .hostSends }) := by
  have hcalm : (s.modLink fun l => { l with ldir := .hostSends }).conclude =
      .next (s.modLink fun l => { l with ldir := .hostSends }) := State.conclude_calm _ ⟨hrun, hsettled, .inl rfl⟩
  show execLdirChange .hostSends inbound s = _
  simp [execLdirChange, hldir, State.ldirCuts_out hout, hcalm]

/-! ## The frame that begins -/

/-- The frame of a STATUS or of a report leaves the buffer slots as they are. -/
theorem State.beginFrame_unslotted {s : State} {d : Desc} {rest : List Desc} (hqueue : s.link.queue = d :: rest)
    (hoffered : s.link.offered = []) (hslot : ∀ b k, d ≠ .slotData b k) :
    s.beginFrame = s.modLink fun l => { l with
      queue := rest, outFrame := some (s.frameOf d), timer := some s.dmt.linkLimit } := by
  cases d with
  | slotData b k => exact absurd rfl (hslot b k)
  | status | report =>
    simp only [State.beginFrame, hqueue]
    exact State.joinPending_same _ hoffered

/-- The frame of a buffer slot leaves the slot DRAINING (R117). -/
theorem State.beginFrame_slotData {s : State} {b : BayId} {k : Nat} {rest : List Desc}
    (hqueue : s.link.queue = .slotData b k :: rest) (hoffered : s.link.offered = []) :
    s.beginFrame = (s.modLink fun l => { l with
      queue := rest, outFrame := some (s.frameOf (.slotData b k)), timer := some s.dmt.linkLimit }).modSlot k
        fun r => { r with state := .draining } := by
  simp only [State.beginFrame, hqueue]
  exact State.joinPending_same _ hoffered

/-- With no descriptor in the queue, the frame is that of the next attention, whose flag it clears. -/
theorem State.beginFrame_attention {s : State} {b : BayId} {k : AttnKind} (hqueue : s.link.queue = [])
    (hnext : s.nextAttention = some (b, k)) :
    s.beginFrame = (s.modBay b fun x => { x with
        attn := x.attn.set k { raised := false, payload := ((s.bay b).attn.get k).payload } }).modLink fun l => { l with
      outFrame := some (.begun .attention (.bay b) (attentionPayload k ((s.bay b).attn.get k).payload) none false s.dmt.linkLimit)
      timer := some s.dmt.linkLimit } := by
  simp only [State.beginFrame, hqueue, hnext]

/-- With neither a descriptor nor an attention, no frame begins. -/
theorem State.beginFrame_idle {s : State} (hqueue : s.link.queue = []) (hnext : s.nextAttention = none) : s.beginFrame = s := by
  simp only [State.beginFrame, hqueue, hnext]

end Sys2Proof.Machine

namespace Sys2Proof
open Machine

/-- Settles O16: LDIR at IN is the turned state's `beginFrame`, taken by the head of the queue. -/
theorem ldirChangeBeginsTheNextFrame : Obligations.LdirChangeBeginsTheNextFrame := by
  refine ⟨fun s hrun hsettled hlrst hldir hframe hwithheld hout => ?_,
    fun s hrun hsettled hldir hout inbound => exec_ldirChange_out hrun hsettled hldir hout inbound⟩
  simp only [exec_ldirChange_in hrun hsettled hlrst hldir hframe hwithheld hout]
  have hoffered : (s.modLink fun l => { l with ldir := .partSends }).link.offered = [] := hsettled.2.1
  refine ⟨fun target c d n code rest hqueue => ?status, fun target source owned rest hqueue => ?report,
    fun b k rest hqueue => ?slotData, fun b k hqueue hnext => ?attention, fun hqueue hnext => ?idle⟩
  case status =>
    rw [State.beginFrame_unslotted (by exact hqueue) hoffered (by simp)]
    rfl
  case report =>
    rw [State.beginFrame_unslotted (by exact hqueue) hoffered (by simp)]
    rfl
  case slotData =>
    rw [State.beginFrame_slotData (by exact hqueue) hoffered]
    rfl
  case attention =>
    rw [State.beginFrame_attention (by exact hqueue) (by exact hnext)]
    cases b <;> simp only [← hqueue] <;> rfl
  case idle =>
    rw [State.beginFrame_idle (by exact hqueue) (by exact hnext)]
    rfl

end Sys2Proof
end

section
/-! SUPPORT. What a DATA-OUT frame goes to (R116, R173, R174): the LOAD TABLE or the WRITE that expects it, and the poke of a bay that
rests while its command counts the frame. -/

namespace Sys2Proof.Machine

/-! ## A resting bay whose command counts a frame -/

theorem State.modCmd_some {s : State} {b : BayId} {c : Cmd} (hslot : (s.bay b).slot = some c) (f : Cmd → Cmd) :
    s.modCmd b f = s.modBay b fun y => { y with slot := some (f c) } := by
  simp [State.modCmd, State.modBay, hslot]

/-- A bay that rests with a command in its slot rests on with another command in the slot. -/
theorem State.bayRests_slot {s u : State} {b : BayId} {c c' : Cmd} (hrests : s.bayRests b = true) (hslot : (s.bay b).slot = some c)
    (hbay : u.bay b = { s.bay b with slot := some c' }) (hframe : u.link.inFrame = s.link.inFrame) (hchan : u.chan = s.chan) :
    u.bayRests b = true := by
  have hvisiting : u.visiting b = s.visiting b := by simp [State.visiting, hchan]
  simp only [State.bayRests, hvisiting, hchan, hframe, hbay] at hrests ⊢
  simp only [Bay.rests, hslot] at hrests ⊢
  cases hjob : (s.bay b).job <;> simp_all

/-! ## The command that expects the frame -/

/-- A LOAD TABLE whose image is not complete expects the frame. -/
theorem State.expecting_image {s : State} {x : Staging} (hstaging : s.staging = some x) (hmore : x.bytes.length < x.declared)
    (hload : ∀ b, x.target = .bay b → ∃ c, (s.bay b).slot = some c ∧ c.op ≠ .write) : s.expecting x.target = .image x := by
  have himage : s.expectedImage x.target = .image x := by simp [State.expectedImage, hstaging, hmore]
  cases htarget : x.target with
  | device => simpa only [State.expecting, htarget] using himage
  | bay b =>
    obtain ⟨c, hslot, hop⟩ := hload b htarget
    simpa only [State.expecting, htarget, hslot, hop, if_false] using himage

/-- A WRITE that has not received its count of frames expects the frame. -/
theorem State.expecting_sector {s : State} {b : BayId} {c : Cmd} (hslot : (s.bay b).slot = some c) (hop : c.op = .write)
    (hmore : c.received < c.count) (hresult : c.result = none) : s.expecting (.bay b) = .sector b c := by
  simp [State.expecting, hslot, hop, hmore, hresult]

/-- A payload of the declared and expected length with good parity is in no error. -/
theorem dataOutError_none {n : Nat} {payload : List LinkByte} (hlength : payload.length = n)
    (hparity : ∀ y ∈ payload, linkParityOk y = true) : dataOutError n n payload .short = none := by
  have hany : (payload.any fun y => !linkParityOk y) = false := by simpa [List.any_eq_false] using hparity
  simp [dataOutError, payloadError, hany, hlength]

/-! ## Where the frame goes -/

/-- With no frame in progress, a frame that is not late goes to the LOAD TABLE that expects it. -/
theorem State.takeDataOut_image {s : State} {target : BayField} {x : Staging} (hframe : s.link.inFrame = none)
    (hexpecting : s.expecting target = .image x) (hstop : s.loadStopped target = false) (declared : Nat)
    (payload : List LinkByte) (ended : Detail) :
    s.takeDataOut target declared payload false ended = s.takeImageFrame x declared payload ended := by
  simp [State.takeDataOut, (State.noFrame_spec hframe).1, hexpecting, hstop]

/-- With no frame in progress, a frame with a payload is held back or taken by the WRITE that expects it (R116). -/
theorem State.takeDataOut_sector {s : State} {b : BayId} {c : Cmd} (hframe : s.link.inFrame = none)
    (hexpecting : s.expecting (.bay b) = .sector b c) (declared : Nat) {payload : List LinkByte} (hpayload : payload ≠ [])
    (ended : Detail) :
    s.takeDataOut (.bay b) declared payload false ended =
      if s.holdsFrame b c = true then s.holdFrame b declared payload else s.takeSectorFrame b c declared payload ended := by
  simp [State.takeDataOut, (State.noFrame_spec hframe).1, (State.noFrame_spec hframe).2.1, hexpecting, hpayload]

/-- A frame of the length its image asks for, without error, joins an image that it does not complete. -/
theorem State.takeImageFrame_joins {s : State} {x : Staging} {n : Nat} {payload : List LinkByte}
    (hlength : payload.length = n) (hparity : ∀ y ∈ payload, linkParityOk y = true)
    (hasked : min 512 (x.declared - x.bytes.length) = n) (hmore : x.bytes.length + n < x.declared) :
    s.takeImageFrame x n payload .short = { s with staging := some { x with bytes := x.bytes ++ payload.map linkData } } := by
  have hopen : x.bytes.length + n ≠ x.declared := by omega
  simp [State.takeImageFrame, hasked, dataOutError_none hlength hparity, hlength, hopen]

/-- The slot taken for a frame that has come whole is FULL of its data (R115, R116). -/
theorem State.allocate_filled (s : State) (b : BayId) (purpose : Purpose) (lba : Option Nat) (data : List Byte)
    (hfree : s.lowestFree < s.slots.length) :
    (s.allocate b purpose lba).modSlot s.lowestFree (fun r => { r with state := .full, data := data }) =
      { s with slots := s.slots.set s.lowestFree { SlotRec.taken b purpose lba with state := .full, data := data } } := by
  simp [State.allocate, State.modSlot, State.slotRec, SlotRec.taken, hfree]

theorem State.lowestFree_lt {s : State} {b : BayId} (h : s.mayAllocate b = true) : s.lowestFree < s.slots.length := by
  simp only [State.mayAllocate, Bool.and_eq_true] at h
  exact List.findIdx_lt_length.2 (by simpa using h.2)

/-- A whole frame of a WRITE fills the lowest FREE slot and is counted; the bay is poked. -/
theorem State.takeSectorFrame_fills {s : State} {b : BayId} {c : Cmd} {payload : List LinkByte} (hframe : s.link.inFrame = none)
    (hslot : (s.bay b).slot = some c) (hmay : s.mayAllocate b = true) (hlength : payload.length = 512)
    (hparity : ∀ y ∈ payload, linkParityOk y = true) :
    s.takeSectorFrame b c 512 payload .short =
      (({ s with slots := s.slots.set s.lowestFree { SlotRec.taken b .hostData (some (c.lba + c.received)) with
          state := .full, data := payload.map linkData } } : State).modBay b fun y =>
            { y with slot := some { c with received := c.received + 1 } }).tell (.poke b) := by
  have hfilled := s.allocate_filled b .hostData (some (c.lba + c.received)) (payload.map linkData) (State.lowestFree_lt hmay)
  simp only [State.takeSectorFrame, dataOutError_none hlength hparity, (State.noFrame_spec hframe).2.1, Option.getD_none,
    Option.isSome_none, Bool.false_eq_true, if_false, hfilled]
  rw [State.modCmd_some (c := c) (by cases b <;> exact hslot)]

/-! ## The frame held back -/

/-- The header of a DATA-OUT frame of 512 bytes, as the lines carry it (R171, R181). -/
theorem dataOutHeader_lines (b : BayId) :
    (frameHeader 0x02 (.bay b) 512).map linkByte = [0x002, if b = .bayA then 0x10A else 0x00B, 0x002, 0x100] := by
  cases b <;> decide

/-- A WRITE that waits for a mount or a flush, or whose bay is at its quota, holds the frame back (R116). -/
theorem State.holdsFrame_of {s : State} {b : BayId} {c : Cmd} (h : c.wait = .mount ∨ c.wait = .flush ∨ 6 ≤ s.heldSlots b) :
    s.holdsFrame b c = true := by
  rcases h with hwait | hwait | hquota
  · simp [State.holdsFrame, hwait]
  · simp [State.holdsFrame, hwait]
  · have hfull : ¬ s.heldSlots b < Config.slotQuota := Nat.not_lt.2 hquota
    have hmay : s.mayAllocate b = false := by simp only [State.mayAllocate, hfull, decide_false, Bool.false_and]
    simp [State.holdsFrame, hmay]

end Sys2Proof.Machine

namespace Sys2Proof
open Machine

/-- Settles O20: the frame goes where `expecting` says, and the event ends there, with a poke of the resting bay where a WRITE
counted it. -/
theorem dataFramesGoToTheirCommand : Obligations.DataFramesGoToTheirCommand := by
  refine ⟨fun x declared payload s hhears hstaging hload hmore hdeclared hlength hparity => ?image,
    fun b c declared payload s hhears hslot hop hreceived hresult hdeclared hlength => ?sector⟩
  case image =>
    have hframe := (State.takesFrame_spec hhears.1).2.2.2.1
    have hexpecting : s.expecting x.target = .image x := by
      refine State.expecting_image hstaging (by omega) fun b htarget => ?_
      obtain ⟨c, hslot, hop, -⟩ := hload b htarget
      exact ⟨c, hslot, by simp [hop]⟩
    have hstop : s.loadStopped x.target = false := by
      cases htarget : x.target with
      | device => rfl
      | bay b =>
        obtain ⟨c, hslot, -, hstop⟩ := hload b htarget
        simp [State.loadStopped, Bay.stoppedLoad, hslot, hstop]
    have hcalm := hhears.calm
    show execDataOutFrame x.target declared ⟨payload, false⟩ s = _
    rw [execDataOutFrame, hhears.frame, hdeclared, State.takeDataOut_image hframe hexpecting hstop,
      State.takeImageFrame_joins hlength hparity (by omega) (by omega)]
    exact State.conclude_calm _ ⟨hcalm.1, hcalm.2.1, hcalm.2.2⟩
  case sector =>
    have hframe := (State.takesFrame_spec hhears.1).2.2.2.1
    have hcalm := hhears.calm
    have htaken : exec (.dataOutFrame (.bay b) declared ⟨payload, false⟩) s =
        (if s.holdsFrame b c = true then s.holdFrame b 512 payload else s.takeSectorFrame b c 512 payload .short).conclude := by
      show execDataOutFrame (.bay b) declared ⟨payload, false⟩ s = _
      have hpayload : payload ≠ [] := by
        rintro rfl
        simp at hlength
      rw [execDataOutFrame, hhears.frame, hdeclared,
        State.takeDataOut_sector hframe (State.expecting_sector hslot hop hreceived hresult) 512 hpayload]
    refine ⟨fun hmount hflush hmay hrests hparity => ?taken, fun hheld => ?held⟩
    case taken =>
      have hholds : ¬ s.holdsFrame b c = true := by simp [State.holdsFrame, hmount, hflush, hmay]
      rw [htaken, if_neg hholds, State.takeSectorFrame_fills hframe hslot hmay hlength hparity]
      refine State.conclude_poke _ b (State.calm_modBay _ b _ ⟨hcalm.1, hcalm.2.1, hcalm.2.2⟩ rfl) fun m => ?_
      exact State.bayRests_slot hrests hslot (by cases b <;> rfl) (by cases b <;> rfl) (by cases b <;> rfl)
    case held =>
      rw [htaken, if_pos (State.holdsFrame_of hheld),
        State.conclude_calm (s.holdFrame b 512 payload) ⟨hcalm.1, hcalm.2.1, hcalm.2.2⟩, State.holdFrame, dataOutHeader_lines]
      simp only [State.modLink, hframe]
      rfl

end Sys2Proof
end

section
/-! SUPPORT. The end of a DATA-IN frame from a buffer slot (R117, R138, R177): its slot is FREE, its READ counts it, and its bay is
poked. -/

namespace Sys2Proof.Machine

/-! ## An event that ends with the link idle -/

/-- In a settled state only the link has something to do when the event closes. -/
theorem State.closeEvent_settled {s : State} (hrun : s.running) (hsettled : s.settled) : s.closeEvent = s.kick := by
  have hclosed := State.conclude_settled s hrun hsettled
  rw [State.conclude_quiet s hrun hsettled.1] at hclosed
  simpa using hclosed

/-- The next attention depends on the attentions and their masks alone. -/
theorem State.nextAttention_same {s u : State} (hattn : ∀ b, (u.bay b).attn = (s.bay b).attn) (hdmt : u.dmt = s.dmt) :
    u.nextAttention = s.nextAttention := by
  have hmasked : ∀ b k, u.masked b k = s.masked b k := by
    intro b k
    cases b <;> simp [State.masked, hdmt]
  simp [State.nextAttention, State.eligible, hattn, hmasked]

/-- An event that ends with one poke of a resting bay and with nothing for the link to send, LDIR at IN or at OUT. -/
theorem State.conclude_poke_idle {u : State} {b : BayId} (hrun : u.running) (hsettled : u.settled)
    (hrests : ∀ m, ({ u with signals := m } : State).bayRests b = true) (hqueue : u.link.queue = [])
    (hnext : u.nextAttention = none) : (u.tell (.poke b)).conclude = .next u := by
  have hsettle : settle (399 + 1) (u.tell (.poke b)) = u := by
    rw [settle_cons 399 _ (.poke b) [] (by simp [State.tell, hsettled.1])]
    show settle 399 (({ u with signals := [] } : State).deliver (.poke b)) = u
    rw [State.deliver_poke _ b (hrests _), settle_nil _ _ rfl, State.signals_same u hsettled.1]
  rw [State.conclude_settle (u.tell (.poke b)) hrun u hsettle hsettled.1, State.closeEvent_settled hrun hsettled,
    State.kick_idle u hqueue hnext]

/-! ## A DATA-IN frame that has gone out -/

/-- The part once the DATA-IN frame of a slot has gone out, with LDIR at `dir`: the slot is FREE, and the READ counts the frame. -/
def State.slotSent (s : State) (b : BayId) (k : Nat) (c : Cmd) (dir : LinkDir) : State :=
  { s with
    slots := s.slots.set k SlotRec.free
    link := { s.link with ldir := dir, outFrame := none, timer := none } }.modBay b fun x =>
      { x with slot := some { c with sent := c.sent + 1 } }

/-- What a DATA-IN frame sent changes: the slots, the link and the command in the bay's slot. -/
theorem State.slotSent_spec (s : State) (b : BayId) (k : Nat) (c : Cmd) (dir : LinkDir) :
    let u := s.slotSent b k c dir
    u.resetHeld = s.resetHeld ∧ u.powerLoss = s.powerLoss ∧ u.signals = s.signals ∧ u.dmt = s.dmt ∧ u.chan = s.chan ∧
      u.link = { s.link with ldir := dir, outFrame := none, timer := none } ∧
      u.bay b = { s.bay b with slot := some { c with sent := c.sent + 1 } } ∧
      ∀ b', (u.bay b').attn = (s.bay b').attn ∧ (u.bay b').power = (s.bay b').power := by
  cases b <;> exact ⟨rfl, rfl, rfl, rfl, rfl, rfl, rfl, fun b' => by cases b' <;> exact ⟨rfl, rfl⟩⟩

/-- A READ whose result is not decided has no STATUS to queue yet. -/
theorem State.readDrained_same {s : State} {b : BayId} {c : Cmd} (hslot : (s.bay b).slot = some c) (hresult : c.result = none) :
    s.readDrained b = s := by
  simp [State.readDrained, hslot, hresult]

/-- A slot is freed with a poke of the bay that held it (R114). -/
theorem State.freeSlot_owned {s : State} {b : BayId} {k : Nat} (howner : (s.slotRec k).owner = some b) :
    s.freeSlot k = (s.modSlot k fun _ => SlotRec.free).tell (.poke b) := by
  simp [State.freeSlot, howner]

/-- The DATA-IN frame of a READ that still has blocks to do has gone out. -/
theorem State.frameSent_slot {s : State} {f : OutFrame} {b : BayId} {k : Nat} {c : Cmd} (hk : f.slot = some k)
    (htarget : f.target = .bay b) (howner : (s.slotRec k).owner = some b) (hslot : (s.bay b).slot = some c)
    (hresult : c.result = none) (hoffered : s.link.offered = []) :
    s.frameSent f = (s.slotSent b k c s.link.ldir).tell (.poke b) := by
  have hcounted : (s.clearOut.freeSlot k).modCmd b (fun c => { c with sent := c.sent + 1 }) =
      (s.slotSent b k c s.link.ldir).tell (.poke b) := by
    rw [State.freeSlot_owned (b := b) (by exact howner), State.modCmd_some (c := c) (by cases b <;> exact hslot)]
    cases b <;> rfl
  have hcmd : (((s.slotSent b k c s.link.ldir).tell (.poke b)).bay b).slot = some { c with sent := c.sent + 1 } := by
    cases b <;> rfl
  simp only [State.frameSent, hk, htarget, hcounted]
  rw [State.readDrained_same hcmd hresult, State.joinPending_same]
  cases b <;> exact hoffered

/-- The event in which the frame has gone out ends there where the bay rests apart from its READ and nothing waits to be sent. -/
theorem State.slotSent_concludes {s : State} {b : BayId} {k : Nat} {c : Cmd} (dir : LinkDir) (hrun : s.running)
    (hsettled : s.settled) (hslot : (s.bay b).slot = some c) (hrests : s.bayRests b = true) (hqueue : s.link.queue = [])
    (hnext : s.nextAttention = none) :
    ((s.slotSent b k c dir).tell (.poke b)).conclude = .next (s.slotSent b k c dir) := by
  obtain ⟨hreset, hpower, hsignals, hdmt, hchan, hlink, hbay, hother⟩ := s.slotSent_spec b k c dir
  have hclass : ∀ b', ((s.slotSent b k c dir).bay b').power.readiness = ((s.slotSent b k c dir).bay b').power.mode.readiness := by
    intro b'
    rw [(hother b').2]
    exact hsettled.class b'
  refine State.conclude_poke_idle ⟨hreset.trans hrun.1, hpower.trans hrun.2⟩
    ⟨hsignals.trans hsettled.1, (congrArg Link.offered hlink).trans hsettled.2.1, hclass .bayA, hclass .bayB⟩ (fun m => ?_)
    ((congrArg Link.queue hlink).trans hqueue) ?_
  · exact State.bayRests_slot hrests hslot (by cases b <;> exact hbay)
      (show (s.slotSent b k c dir).link.inFrame = _ by rw [hlink]) hchan
  · rw [State.nextAttention_same (fun b' => (hother b').1) hdmt, hnext]

/-- The length of a frame's bytes: the header's four and the payload (R181). -/
theorem OutFrame.bytes_length (f : OutFrame) : f.bytes.length = 4 + f.payload.length := by
  rw [OutFrame.bytes, List.length_map, List.length_append]
  rfl

/-- LDIR at OUT after the exchange of the frame's last byte: the frame has gone out (R177). -/
theorem State.ldirCuts_over {s : State} {f : OutFrame} (hout : s.link.outFrame = some f) (hover : 4 + f.payload.length ≤ f.sent)
    (inbound : Inbound) : s.ldirCuts .hostSends inbound = s.frameSent f := by
  simp [State.ldirCuts, hout, OutFrame.over, OutFrame.bytes_length, hover]

end Sys2Proof.Machine

namespace Sys2Proof
open Machine

/-- Settles O23: both rows end the frame with `frameSent`, and the poke of the bay that it leaves changes nothing. -/
theorem sentSlotIsFreed : Obligations.SentSlotIsFreed := by
  intro b k f c j s hrun hsettled hlrst hout hk htarget howner hslot hop hresult hjob hrests hqueue hnext
  have halive := State.linkAlive_of hrun hlrst
  have hsent := State.frameSent_slot hk htarget howner hslot hresult hsettled.2.1
  have hends := fun dir => State.slotSent_concludes (k := k) dir hrun hsettled hslot hrests hqueue hnext
  refine ⟨?_, fun inbound hldir hover => ?_⟩
  · show execOutboundFrameSent s = .next (s.slotSent b k c s.link.ldir)
    simp only [execOutboundFrameSent, hout, halive, if_true, hsent, hends]
  · have hturned : (((s.slotSent b k c s.link.ldir).tell (.poke b)).modLink fun l => { l with ldir := .hostSends }) =
        (s.slotSent b k c .hostSends).tell (.poke b) := by cases b <;> rfl
    show execLdirChange .hostSends inbound s = .next (s.slotSent b k c .hostSends)
    simp only [execLdirChange, hldir, halive, State.ldirCuts_over hout hover, hsent, reduceCtorEq, if_false, if_true]
    rw [← hldir, hturned, hends]

end Sys2Proof
end

section
/-! SUPPORT. LOAD TABLE takes its slot and the staging area, or is refused (R133, R161, R183). -/

namespace Sys2Proof.Machine

/-- The staging area held by a LOAD TABLE whose frames are still to come (R182). -/
def State.staged (s : State) (id : TableId) (length : Nat) (target : BayField) : State :=
  { s with staging := some { id, declared := length, target, bytes := [] } }

theorem State.calm.staged {s : State} (h : s.calm) (id : TableId) (length : Nat) (target : BayField) :
    (s.staged id length target).calm := ⟨h.1, h.2.1, h.2.2⟩

/-! ## LOAD TABLE aimed at DEVICE -/

theorem lengthPasses_of {length : BitVec 16} (hmin : 1 ≤ length.toNat) (hmax : length.toNat ≤ 2048) : lengthPasses length = true := by
  simp [lengthPasses, hmin, hmax]

section
variable {s : State} {length : BitVec 16} (hlength : lengthPasses length = true) (id : TableId)
include hlength

theorem State.loadDeviceTable_takes (hslot : s.deviceSlot = none) (hstaging : s.staging = none) :
    s.loadDeviceTable id length =
      (s.staged id length.toNat .device).takeDeviceSlot (Cmd.fresh (.loadTable id) 0 0 s.dmt.caps) := by
  simp [State.loadDeviceTable, hlength, hslot, hstaging, State.staged]

theorem State.loadDeviceTable_busy (hheld : s.deviceSlot.isSome = true ∨ s.staging.isSome = true) :
    s.loadDeviceTable id length = s.answer .device .busy .none 0x40 := by
  simp [State.loadDeviceTable, hlength, hheld, CmdOp.code]

/-! ## LOAD TABLE aimed at a bay -/

variable {b : BayId} (hpresent : s.bayPresent b = true)
include hpresent

theorem State.loadBayTable_busy (hheld : (s.bay b).slot.isSome = true ∨ s.staging.isSome = true) :
    s.loadBayTable b id length = s.refuse b 0x40 (CmdResult.plain .busy .none) := by
  simp [State.loadBayTable, hlength, hpresent, hheld, CmdOp.code]

variable (hslot : (s.bay b).slot = none) (hstaging : s.staging = none)
include hslot hstaging

theorem State.loadBayTable_empty (hcart : (s.bay b).cart.state = .empty) :
    s.loadBayTable b id length = s.refuse b 0x40 (CmdResult.plain .noCartridge .none) := by
  simp [State.loadBayTable, hlength, hpresent, hslot, hstaging, hcart, CmdOp.code]

/-- A LOAD TABLE that is taken has no work of its own: it waits for its DATA-OUT frames. -/
theorem State.loadBayTable_takes (hcart : (s.bay b).cart.state ≠ .empty) (hentry : (s.bay b).power.entry = none) :
    s.loadBayTable b id length =
      (s.staged id length.toNat (.bay b)).accepted b (Cmd.fresh (.loadTable id) 0 0 s.dmt.caps) := by
  set c := Cmd.fresh (.loadTable id) 0 0 s.dmt.caps with hc
  set u := s.staged id length.toNat (.bay b) with hu
  have hbay : u.bay b = s.bay b := by cases b <;> rfl
  have hbegins : (u.takeSlot b c).commandAccepted b (.loadTable id) = (u.accepted b c).beginWork b :=
    State.takeSlot_begins u b c (by rwa [hbay]) (.inr rfl) nofun rfl (.inr rfl)
  have hidle : (u.accepted b c).beginWork b = u.accepted b c := by simp [State.beginWork, hc, Cmd.fresh]
  rw [← hidle, ← hbegins]
  simp [State.loadBayTable, hlength, hpresent, hslot, hstaging, hcart, hc, hu, State.staged]

end

/-- An event that only takes a command ends there. -/
theorem State.conclude_accepted {s : State} (h : s.calm) (b : BayId) (c : Cmd) :
    (s.accepted b c).conclude = .next (s.accepted b c) := by
  refine State.conclude_calm _ (State.calm_of h ?_ ?_ ?_ ?_ ?_ ?_ ?_ (h.2.1.class_inUse (b := b) ?_ ?_)) <;> cases b <;> rfl

end Sys2Proof.Machine

namespace Sys2Proof
open Machine

/-- Settles O34: the two slots are taken or found occupied by `loadDeviceTable` and `loadBayTable`, and the event ends there. -/
theorem loadTableTakesTheStagingArea : Obligations.LoadTableTakesTheStagingArea := by
  intro length s hhears hmin hmax answered
  have hcalm := hhears.calm
  have hlength := lengthPasses_of hmin hmax
  refine ⟨fun x hx => ?device, fun b hpresent x hx => ?bay⟩
  case device =>
    have hexec : exec x.1 s = (s.loadDeviceTable x.2 length).conclude := by
      simp only [List.mem_cons, List.not_mem_nil, or_false] at hx
      rcases hx with rfl | rfl <;> exact hhears.frame _ _
    rw [hexec]
    refine ⟨fun hslot hstaging => ?_, fun hheld => ?_⟩
    · rw [State.loadDeviceTable_takes hlength _ hslot hstaging]
      exact State.conclude_calm _ ⟨hcalm.1, hcalm.2.1, hcalm.2.2⟩
    · rw [State.loadDeviceTable_busy hlength _ hheld]
      exact s.conclude_answer hcalm _ _ _ _
  case bay =>
    have hexec : exec x.1 s = (s.loadBayTable b x.2 length).conclude := by
      simp only [List.mem_cons, List.not_mem_nil, or_false] at hx
      rcases hx with rfl | rfl <;> exact hhears.frame _ _
    rw [hexec]
    refine ⟨fun hslot hstaging hcart hentry => ?_, fun hheld => ?_, fun hslot hstaging hcart => ?_⟩
    · rw [State.loadBayTable_takes hlength _ hpresent hslot hstaging hcart hentry]
      exact State.conclude_accepted (hcalm.staged _ _ _) b _
    · rw [State.loadBayTable_busy hlength _ hpresent hheld]
      exact State.conclude_refuse_answers hcalm b _ (.inl rfl)
    · rw [State.loadBayTable_empty hlength _ hpresent hslot hstaging hcart]
      exact State.conclude_refuse_senses hcalm b _ nofun nofun

end Sys2Proof
end

section
/-! SUPPORT. DATA-OUT frames that no command expects (R139, R174), and the ends of an outbound frame and of an inbound frame within its
header (R173, R177, R178). -/

namespace Sys2Proof.Machine

/-! ## A frame that no command expects -/

/-- Without a LOAD TABLE whose image is not complete, and without a WRITE that waits for its frames, no command expects a frame. -/
theorem State.expecting_nothing {s : State} {target : BayField}
    (himage : ∀ x, s.staging = some x → x.target = target → x.declared ≤ x.bytes.length)
    (hsector : ∀ b c, target = .bay b → (s.bay b).slot = some c → c.op = .write → c.count ≤ c.received ∨ c.result.isSome = true) :
    s.expecting target = .nothing := by
  have hno : s.expectedImage target = .nothing := by
    unfold State.expectedImage
    cases hstaging : s.staging with
    | none => rfl
    | some x => exact if_neg fun h => absurd (himage x hstaging h.1) (Nat.not_le.2 h.2)
  cases target with
  | device => exact hno
  | bay b =>
    simp only [State.expecting]
    cases hslot : (s.bay b).slot with
    | none => rfl
    | some c =>
      by_cases hop : c.op = .write
      · have hdone : ¬ (c.received < c.count ∧ c.result.isNone = true) := by
          rintro ⟨hmore, hresult⟩
          rcases hsector b c rfl hslot hop with h | h
          · exact absurd h (Nat.not_le.2 hmore)
          · simp [Option.isNone_iff_eq_none.1 hresult] at h
        simp only [if_pos hop, if_neg hdone]
      · simp only [if_neg hop, hno]

end Sys2Proof.Machine

namespace Sys2Proof
open Machine

/-- Settles O19: `expecting` finds no command for the frame, and a late frame is dropped before it is asked. -/
theorem unexpectedDataIsAnswered : Obligations.UnexpectedDataIsAnswered := by
  intro target declared payload s hhears
  have hlate := (State.noFrame_spec (State.takesFrame_spec hhears.1).2.2.2.1).1 target
  have hexec : ∀ late, exec (.dataOutFrame target declared ⟨payload, late⟩) s =
      (s.takeDataOut target declared.toNat payload late .short).conclude := fun late => hhears.frame _ _
  refine ⟨fun himage hsector => ?_, ?_⟩
  · rw [hexec, ← s.conclude_answer hhears.calm]
    simp [State.takeDataOut, hlate, State.expecting_nothing himage hsector]
  · rw [hexec, ← State.conclude_calm s hhears.calm]
    simp [State.takeDataOut]

end Sys2Proof

namespace Sys2Proof.Machine

/-! ## An outbound frame ends (R177, R178) -/

section
variable {s : State} {f : OutFrame}

/-- A STATUS or ATTENTION frame holds no slot and no command: it ends alike whether it has gone out or is abandoned. -/
theorem State.frameEnds_plain (hslot : f.slot = none) (howned : f.owned = false) :
    s.frameSent f = s.clearOut ∧ s.abandonFrame f = s.clearOut := by
  cases htarget : f.target <;> simp [State.frameSent, State.abandonFrame, hslot, howned, htarget]

variable (hout : s.link.outFrame = some f) (halive : s.linkAlive = true)
include hout

theorem exec_linkTimeout_stopped (htimer : s.link.timer = none) (inbound : Inbound) : exec (.linkTimeout inbound) s = .next s := by
  show execLinkTimeout inbound s = _
  simp [execLinkTimeout, hout, htimer]

include halive

theorem exec_outboundFrameSent : exec .outboundFrameSent s = (s.frameSent f).conclude := by
  show execOutboundFrameSent s = _
  simp [execOutboundFrameSent, hout, halive]

theorem exec_linkTimeout_abandons (htimer : s.link.timer.isSome = true) (inbound : Inbound) :
    exec (.linkTimeout inbound) s = (s.abandonFrame f).conclude := by
  show execLinkTimeout inbound s = _
  simp [execLinkTimeout, hout, halive, htimer]

end

/-- A frame that is over leaves a settled part with at most a next frame to begin. -/
theorem State.conclude_clearOut {s : State} (hrun : s.running) (hsettled : s.settled) :
    s.clearOut.conclude = .next s.clearOut.kick :=
  State.conclude_settled _ hrun hsettled

/-- With LDIR at OUT, or nothing to send, no frame begins after the one that is over. -/
theorem State.kick_clearOut_idle {s : State} (h : s.link.ldir = .hostSends ∨ s.link.queue = [] ∧ s.nextAttention = none) :
    s.clearOut.kick = s.clearOut := by
  rcases h with hldir | ⟨hqueue, hnext⟩
  · exact State.kick_same _ (.inl hldir)
  · refine State.kick_idle _ hqueue ?_
    exact (State.nextAttention_same (fun b => congrArg Bay.attn (s.modLink_bay b _)) rfl).trans hnext

/-- With LDIR at IN, the STATUS at the head of the queue begins as the frame before it ends. -/
theorem State.kick_clearOut_begins {s : State} (halive : s.linkAlive = true) (hldir : s.link.ldir = .partSends)
    (hoffered : s.link.offered = []) {target : BayField} {c : Completion} {d : Detail} {n : Nat} {code : Byte} {rest : List Desc}
    (hqueue : s.link.queue = .status target c d n code :: rest) :
    s.clearOut.kick = s.modLink fun l => { l with
      queue := rest, outFrame := some (s.frameOf (.status target c d n code)), timer := some s.dmt.linkLimit } := by
  rw [State.kick_begins (by exact halive) (by exact hldir) rfl,
    State.beginFrame_unslotted (by exact hqueue) (by exact hoffered) (by simp)]
  rfl

/-! ## An inbound frame times out within its header (R173, R178) -/

section
variable {s : State} {f : InFrame} (hout : s.link.outFrame = none)
include hout

theorem exec_linkTimeout_quiet (htimer : s.link.timer = none) : exec (.linkTimeout .absent) s = .next s := by
  show execLinkTimeout .absent s = _
  simp [execLinkTimeout, hout, htimer, Inbound.absent]

theorem exec_linkTimeout_header (hunder : s.frameUnderWay = true) (htimer : s.link.timer.isSome = true) (hframe : s.link.inFrame = some f)
    (hheader : f.bytes.length < 4) (hslot : f.slot = none) (hload : ∀ b, (s.bay b).stoppedLoad = false) :
    exec (.linkTimeout .absent) s = ((s.answer .device .frameError .timeout 0).modLink fun l => { l with
      inFrame := none, timer := none, spent := true, reservations := l.reservations - 2 }).conclude := by
  obtain ⟨-, -, -, -, f', hf', hdue⟩ := State.frameUnderWay_spec hunder
  obtain rfl : f' = f := by simpa [hf'] using hframe
  have hbrought : (s.modLink fun l => { l with reservations := l.reservations - 2 }).bytesSoFar .absent = ⟨f'.bytes, false⟩ := by
    simp [State.bytesSoFar, hf', Inbound.absent]
  have hverdict : frameVerdict f'.bytes .timeout = .frameError .timeout := by simp [frameVerdict, hheader]
  have htaken : (s.modLink fun l => { l with reservations := l.reservations - 2 }).takeFrame ⟨f'.bytes, false⟩ .timeout =
      (s.modLink fun l => { l with reservations := l.reservations - 2 }).answer .device .frameError .timeout 0 := by
    simp only [State.takeFrame, hverdict]
  show execLinkTimeout .absent s = _
  simp only [execLinkTimeout, hout, hunder, htimer, Bool.and_self, if_true, State.endInbound, hbrought, htaken]
  rw [State.inboundEnds_quiet true (by exact hf') hdue hslot (fun b => by cases b; exacts [hload .bayA, hload .bayB])]
  rfl

end

end Sys2Proof.Machine

namespace Sys2Proof
open Machine

/-- Settles O22: both rows end an outbound frame with `clearOut`, and `kick` begins the next one; a header that times out is answered,
and its frame is over. -/
theorem outboundFrameEnds : Obligations.OutboundFrameEnds := by
  refine ⟨fun f s hsettled hout hunder hframe hheader hslot hload => ⟨?_, fun htimer => ?_⟩,
    fun f inbound s hrun hsettled hlrst hout hslot howned => ?_⟩
  · exact exec_linkTimeout_quiet hout
  · obtain ⟨hrun, -, hldir, -⟩ := State.frameUnderWay_spec hunder
    rw [exec_linkTimeout_header hout hunder htimer hframe hheader hslot hload]
    exact State.conclude_calm _ ⟨hrun, hsettled, .inl hldir⟩
  · have halive := State.linkAlive_of hrun hlrst
    have hsent : exec .outboundFrameSent s = .next s.clearOut.kick := by
      rw [exec_outboundFrameSent hout halive, (State.frameEnds_plain hslot howned).1, State.conclude_clearOut hrun hsettled]
    have hexpired : s.link.timer.isSome = true → exec (.linkTimeout inbound) s = .next s.clearOut.kick := fun htimer => by
      rw [exec_linkTimeout_abandons hout halive htimer, (State.frameEnds_plain hslot howned).2,
        State.conclude_clearOut hrun hsettled]
    refine ⟨fun htimer => exec_linkTimeout_stopped hout htimer inbound, fun hidle => ?_,
      fun target c d n code rest hldir hqueue => ?_⟩
    · rw [State.kick_clearOut_idle hidle] at hsent hexpired
      exact ⟨hsent, hexpired⟩
    · rw [State.kick_clearOut_begins halive hldir hsettled.2.1 hqueue] at hsent hexpired
      exact ⟨hsent, hexpired⟩

end Sys2Proof
end

section
/-! SUPPORT. The end of a command that holds no buffer slot, whatever its completion (R133, R143, R144, R162, R165, R183), and ABORT
(R145, R146). -/

namespace Sys2Proof.Machine

/-! ## A command that holds no slot ends -/

/-- A sense record after the end of a command: every completion but GOOD is written to it (R144, R188). -/
def Sense.ended (x : Sense) (c : Cmd) (r : CmdResult) : Sense :=
  if r.completion = .good then x
  else { x with
    completion := some r.completion, detail := r.detail, command := c.op.code, lba := r.lba, addr := r.addr, count := c.done }

/-- The part after the end of a bay's command that held no buffer slot: its STATUS is queued, its slot and the staging area are
free, and the idle timers restart. -/
def State.finished (s : State) (b : BayId) (c : Cmd) (r : CmdResult) : State :=
  ({ s with
    staging := none
    link := s.link.posted (.status (.bay b) r.completion r.detail c.done c.op.code) } : State).modBay b fun x =>
      { x.unslotted s.dmt with sense := x.sense.ended c r }

/-- A command in a bay's slot with nothing behind it but its slot and perhaps the staging area: no buffer slot, no operation, no
report frame, and no completion decided. -/
structure State.EndsAlone (s : State) (b : BayId) (c : Cmd) : Prop where
  command : (s.bay b).slot = some c
  undecided : c.result = none ∧ c.silent = false
  slotless : c.op = .seek ∨ ∃ id, c.op = .loadTable id
  idle : (s.bay b).job = none ∧ (s.bay b).reassign = none ∧ (s.bay b).format = none
  reports : s.NoReports (.bay b)
  staging : ∀ x, s.staging = some x → x.target = .bay b

/-- A staging area that no other command holds is free once this one gives it up (R183). -/
theorem State.releaseStaging_held {s : State} {target : BayField} (h : ∀ x, s.staging = some x → x.target = target) :
    s.releaseStaging target = { s with staging := none } := by
  cases hstaging : s.staging with
  | none =>
    have hsame : ({ s with staging := none } : State) = s := by rw [← hstaging]
    rw [hsame]
    simp [State.releaseStaging, hstaging]
  | some x => simp [State.releaseStaging, hstaging, h x hstaging]

/-- Such a command ends with its STATUS; the freed slot is told, and the bay poked. -/
theorem State.EndsAlone.finishCmd {s : State} {b : BayId} {c : Cmd} (h : s.EndsAlone b c) (r : CmdResult) :
    s.finishCmd b r = { s.finished b c r with signals := s.signals ++ [.poke b, .slotFreed b, .poke b] } := by
  obtain ⟨hslot, ⟨hresult, hsilent⟩, hslotless, ⟨hjob, hreassign, hformat⟩, hreports, hstaging⟩ := h
  have hread : c.op ≠ .read := by rcases hslotless with hop | ⟨id, hop⟩ <;> simp [hop]
  have hfreed : (s.dropCommandJob b).freeCommandSlots b c r = s.tell (.poke b) := by
    rcases hslotless with hop | ⟨id, hop⟩ <;> simp [State.dropCommandJob, hjob, State.freeCommandSlots, hop]
  have hsame : ((s.tell (.poke b)).modBay b fun x => { x with reassign := none, format := none }) = s.tell (.poke b) :=
    State.modBay_same _ b _ (by simp only [State.tell_bay]; rw [← hreassign, ← hformat])
  have hdropped : (s.tell (.poke b)).dropReports (.bay b) = s.tell (.poke b) :=
    State.NoReports.drop ⟨hreports.queue, hreports.offered, hreports.going⟩
  have hreleased : (s.tell (.poke b)).releaseStaging (.bay b) = { s.tell (.poke b) with staging := none } :=
    State.releaseStaging_held hstaging
  have hcount : c.countDone r = c.done := if_neg (by simp [hread])
  obtain ⟨u, hu⟩ : ∃ u : State, u = { s.tell (.poke b) with staging := none } := ⟨_, rfl⟩
  have huslot : (u.bay b).slot = some c := by rw [hu]; cases b <;> exact hslot
  have hsensed : (if r.completion = .good ∨ c.silent = true then u else u.writeSense b c.op.code (c.countDone r) r) =
      u.modBay b fun x => { x with sense := x.sense.ended c r } := by
    by_cases hgood : r.completion = .good
    · rw [if_pos (.inl hgood), State.modBay_same]
      simp [Sense.ended, hgood]
    · rw [if_neg (by simp [hgood, hsilent]), State.writeSense_spec, hcount]
      simp [Sense.ended, hgood]
  simp only [State.finishCmd, hslot, hresult, hfreed, hsame, hdropped, hreleased, ← hu, hsensed]
  simp only [Option.isSome_none, Bool.false_eq_true, if_false, decide_eq_false hread, Bool.false_and]
  rw [State.postStatus_posts (c := c) (by simpa using huslot) hsilent, hcount, hu]
  cases b <;> simp [State.posted, State.finished, State.modBay, State.setBay, State.modLink, State.bay, State.tell, Bay.unslotted]

/-! ## The freed slot of a bay that is not ACTIVE -/

/-- No command waits on a wake under way (R165). -/
def Bay.unwaited (x : Bay) : Bay :=
  { x with power := { x.power with wake := x.power.wake.map fun w => { w with waiting := false } } }

theorem State.onSlotFreed_unwaited {s : State} {b : BayId} (hmode : (s.bay b).power.mode ≠ .active)
    (heject : (s.bay b).cart.eject = none) : s.onSlotFreed b = s.modBay b Bay.unwaited := by
  cases hwake : (s.bay b).power.wake with
  | none =>
    rw [State.modBay_same _ _ _ (by rw [Bay.unwaited, hwake, Option.map_none, ← hwake])]
    exact State.onSlotFreed_same hmode hwake (by simp [heject])
  | some w =>
    simp only [State.onSlotFreed, hwake, if_neg hmode, heject, Option.map_none, reduceCtorEq, if_false]
    exact State.modBay_congr (by simp [Bay.unwaited, hwake])

/-- The event in which a slot becomes free ends there in a bay that rests and is not ACTIVE. -/
theorem State.conclude_slotFreed {u : State} {b : BayId} (hu : u.calm) (hrests : ∀ m, ({ u with signals := m } : State).bayRests b = true)
    (hmode : (u.bay b).power.mode ≠ .active) (heject : (u.bay b).cart.eject = none) :
    ({ u with signals := [.poke b, .slotFreed b, .poke b] } : State).conclude = .next (u.modBay b Bay.unwaited) := by
  have hcalm : (u.modBay b Bay.unwaited).calm := State.calm_modBay_class hu (hu.2.1.class b)
  have hfreed : ({ u with signals := [.poke b] } : State).deliver (.slotFreed b) =
      { u.modBay b Bay.unwaited with signals := [.poke b] } := by
    refine (State.onSlotFreed_unwaited (by rwa [State.bay_signals]) (by rwa [State.bay_signals])).trans ?_
    cases b <;> rfl
  have hrests' : ∀ m, ({ u.modBay b Bay.unwaited with signals := m } : State).bayRests b = true := fun m => by
    rw [← hrests m]
    cases b <;> rfl
  refine State.conclude_msgs _ _ hu.1 ?_ hcalm
  rw [show Config.messageBudget = 397 + 1 + 1 + 1 from rfl, settle_poke hrests, settle_cons _ _ _ _ rfl, hfreed, settle_poke hrests',
    settle_nil _ _ rfl, State.signals_same _ hcalm.2.1.1]

theorem State.bayRests_aside {s : State} {b : BayId} (hrests : (s.bay b).rests = true) (hframe : s.link.inFrame = none)
    (hvisit : s.visiting b = false) (hwait : s.chan.waiter ≠ some b) : s.bayRests b = true := by
  simp [State.bayRests, hrests, hframe, hvisit, hwait]

/-- A calm part in which a bay that is not ACTIVE rests as soon as its slot is free. -/
structure State.FreesSlot (s : State) (b : BayId) : Prop where
  calm : s.calm
  frame : s.link.inFrame = none
  mode : (s.bay b).power.mode ≠ .active
  eject : (s.bay b).cart.eject = none
  rests : { s.bay b with slot := none }.rests = true
  visit : s.visiting b = false
  wait : s.chan.waiter ≠ some b

/-- A command that holds no buffer slot ends in such a bay. -/
theorem State.EndsAlone.concludes {s : State} {b : BayId} {c : Cmd} (h : s.EndsAlone b c) (hfrees : s.FreesSlot b) (r : CmdResult) :
    (s.finishCmd b r).conclude = .next ((s.finished b c r).modBay b Bay.unwaited) := by
  obtain ⟨hcalm, hframe, hmode, heject, hrests, hvisit, hwait⟩ := hfrees
  have hbay : (s.finished b c r).bay b = { (s.bay b).unslotted s.dmt with sense := (s.bay b).sense.ended c r } := by
    cases b <;> rfl
  have hfinished : (s.finished b c r).calm :=
    State.calm_modBay_class (s := { s with staging := none, link := s.link.posted _ }) ⟨hcalm.1, hcalm.2.1, hcalm.2.2⟩
      (by cases b; exacts [hcalm.2.1.class .bayA, hcalm.2.1.class .bayB])
  rw [h.finishCmd, hcalm.2.1.1]
  refine State.conclude_slotFreed hfinished (fun m => ?_) (by rwa [hbay]) (by rwa [hbay])
  refine State.bayRests_aside ?_ ?_ ?_ ?_
  · rw [State.bay_signals, hbay]
    exact hrests
  all_goals cases b <;> assumption

/-! ## ABORT (R145, R146) -/

theorem State.NoReports.dropDescs {s : State} {target : BayField} (h : s.NoReports target) :
    s.dropDescs (Desc.isReportOf target) = s := by
  have hkept : (s.link.queue.filter fun d => !d.isReportOf target) = s.link.queue :=
    List.filter_eq_self.2 fun d hd => by simp [h.queue d hd]
  simp only [State.dropDescs, State.modLink, hkept, h.offered, List.filter_nil]
  rw [← h.offered]

/-- A STATUS is no frame of a report. -/
theorem State.NoReports.answer {s : State} {target : BayField} (h : s.NoReports target) (target' : BayField) (c : Completion)
    (d : Detail) (code : Byte) : (s.answer target' c d code).NoReports target where
  queue x hx := by
    rcases List.mem_append.1 hx with hx | hx
    · exact h.queue x hx
    · rw [List.mem_singleton.1 hx]
      rfl
  offered := h.offered
  going := h.going

/-- A bay whose command is to stop at its next boundary (R146). -/
def State.aborting (s : State) (b : BayId) (c : Cmd) : State :=
  s.modBay b fun y => { y with slot := some { c with stop := some .abort } }

theorem State.aborting_bay (s : State) (b : BayId) (c : Cmd) :
    (s.aborting b c).bay b = { s.bay b with slot := some { c with stop := some .abort } } := s.bay_modBay b _

theorem State.FreesSlot.answer {s : State} {b : BayId} (h : s.FreesSlot b) (target : BayField) (c' : Completion) (d : Detail) (code : Byte) :
    (s.answer target c' d code).FreesSlot b := by
  obtain ⟨hcalm, hframe, hmode, heject, hrests, hvisit, hwait⟩ := h
  cases b <;> exact ⟨⟨hcalm.1, hcalm.2.1, hcalm.2.2⟩, hframe, hmode, heject, hrests, hvisit, hwait⟩

theorem State.FreesSlot.aborting {s : State} {b : BayId} (h : s.FreesSlot b) (c : Cmd) : (s.aborting b c).FreesSlot b := by
  obtain ⟨hcalm, hframe, hmode, heject, hrests, hvisit, hwait⟩ := h
  have haborting : (s.aborting b c).calm := State.calm_modBay s b _ hcalm rfl
  cases b <;> exact ⟨haborting, hframe, hmode, heject, hrests, hvisit, hwait⟩

section
variable {s : State} {b : BayId} {c : Cmd} (h : s.EndsAlone b c)
include h

theorem State.EndsAlone.answer (target : BayField) (c' : Completion) (d : Detail) (code : Byte) :
    (s.answer target c' d code).EndsAlone b c where
  command := by cases b <;> exact h.command
  undecided := h.undecided
  slotless := h.slotless
  idle := by cases b <;> exact h.idle
  reports := h.reports.answer target c' d code
  staging := h.staging

theorem State.EndsAlone.aborting : (s.aborting b c).EndsAlone b { c with stop := some .abort } where
  command := by rw [State.aborting_bay]
  undecided := h.undecided
  slotless := h.slotless
  idle := by rw [State.aborting_bay]; exact h.idle
  reports := by cases b <;> exact ⟨h.reports.queue, h.reports.offered, h.reports.going⟩
  staging := by cases b <;> exact h.staging

variable (hop : c.op = .seek) (hwait : c.wait ≠ .working) (hstop : c.stop = none) (hdone : c.done ≠ c.count)
include hop hwait hstop hdone

/-- A SEEK that waits for a mount or a wake is at its boundary, and ends in the event that stops it. -/
theorem State.EndsAlone.requestStop_seek :
    s.requestStop b .abort = (s.aborting b c).finishCmd b (CmdResult.plain .aborted .none) := by
  have hmarked : s.modCmd b (fun c => { c with stop := some (StopCause.joins c.stop .abort) }) = s.aborting b c := by
    rw [State.modCmd_some h.command, hstop]
    rfl
  have hready : (s.aborting b c).stopReady b { c with stop := some .abort } = true := by simp [State.stopReady, hop, hwait]
  have hends : (s.aborting b c).endStopped b { c with stop := some .abort } .abort =
      (s.aborting b c).finishCmd b (CmdResult.plain .aborted .none) := by
    simp [State.endStopped, hop, h.aborting.idle.2.1, Cmd.stoppedResult, Cmd.allDone, hdone]
  rw [State.requestStop, hmarked, h.aborting.reports.dropDescs, ← hends]
  simp only [State.tryStop, State.aborting_bay]
  exact if_pos (by rw [hready, h.undecided.1]; rfl)

/-- ABORT of a SEEK that waits answers first, and ends the SEEK with it (R145). -/
theorem State.EndsAlone.abortBay_seek : s.abortBay b =
    ((s.answer (.bay b) .good .stopped 0x30).aborting b c).finishCmd b (CmdResult.plain .aborted .none) := by
  rw [← (h.answer (.bay b) .good .stopped 0x30).requestStop_seek hop hwait hstop hdone]
  simp [State.abortBay, h.command, hop, abortCode]

end

end Sys2Proof.Machine

namespace Sys2Proof
open Machine

/-- Settles O37: a SEEK that waits is at its boundary, so that `requestStop` ends it in the event that answers the ABORT. -/
theorem abortEndsAWaitingCommand : Obligations.AbortEndsAWaitingCommand := by
  intro s hhears answered
  have hcalm := hhears.calm
  have hexec : ∀ target, exec (.abort target) s = (s.takeAbort target).conclude := fun target => hhears.frame _ _
  refine ⟨fun hslot => ?device, fun b => ⟨fun habsent => ?absent, fun hpresent hslot => ?free, ?seek⟩⟩
  case device =>
    rw [hexec, ← s.conclude_answer hcalm]
    simp [State.takeAbort, State.abortDevice, State.answer, hslot, abortCode]
  case absent =>
    rw [hexec, ← s.conclude_answer hcalm]
    simp [State.takeAbort, habsent, abortCode]
  case free =>
    rw [hexec, ← s.conclude_answer hcalm]
    simp [State.takeAbort, hpresent, State.abortBay, hslot, abortCode]
  case seek =>
    intro c hpresent hslot hop hwait hstop hresult hsilent hdone hjob _ hreassign hformat heject hmode hrests hvisit hwaiter
      hout hstaging hqueue
    have hframe := (State.takesFrame_spec hhears.1).2.2.2.1
    have halone : s.EndsAlone b c :=
      ⟨hslot, ⟨hresult, hsilent⟩, .inl hop, ⟨hjob, hreassign, hformat⟩, ⟨hqueue, hhears.2.1.2.1, by simp [hout]⟩, by simp [hstaging]⟩
    have hfrees : s.FreesSlot b := ⟨hcalm, hframe, hmode, heject, hrests, hvisit, hwaiter⟩
    have hends := (halone.answer (.bay b) .good .stopped 0x30).aborting.concludes ((hfrees.answer _ _ _ _).aborting c)
      (CmdResult.plain .aborted .none)
    rw [hexec, State.takeAbort, if_pos hpresent, halone.abortBay_seek hop hwait hstop hdone, hends]
    cases b <;>
      simp [State.finished, State.aborting, State.answer, State.enqueue, State.modLink, State.modBay, State.setBay, State.bay,
        Link.posted, Bay.unslotted, Bay.unwaited, Sense.ended, CmdResult.plain, CmdOp.code, hop, hstaging, dmtTimer]

end Sys2Proof
end

section
/-! SUPPORT. The last frame of a LOAD TABLE's image: the checks of the image, what it installs or stages, and how its command ends
(R146, R183 to R186). -/

namespace Sys2Proof.Machine

/-! ## The checks of a complete image (R184) -/

section
variable {id : TableId} {declared : Nat} {image : List Byte}

theorem imageRejection_length (hlength : declared ≠ id.imageLength) : imageRejection id declared image = some .length :=
  if_pos hlength

variable (hlength : declared = id.imageLength)
include hlength

theorem imageRejection_crc (hcrc : crc16 (image.take (declared - 2)) ≠ field image (declared - 2) 2) :
    imageRejection id declared image = some .crc := by
  rw [imageRejection, if_neg (not_not.2 hlength), if_pos hcrc]

variable (hcrc : crc16 (image.take (declared - 2)) = field image (declared - 2) 2)
include hcrc

theorem imageRejection_checked :
    imageRejection id declared image = if structureOk id image then none else some .structure := by
  rw [imageRejection, if_neg (not_not.2 hlength), if_neg (not_not.2 hcrc)]

theorem imageRejection_structure (hbad : structureOk id image = false) : imageRejection id declared image = some .structure := by
  rw [imageRejection_checked hlength hcrc, hbad]
  rfl

theorem imageRejection_none (hok : structureOk id image = true) : imageRejection id declared image = none := by
  rw [imageRejection_checked hlength hcrc, if_pos hok]

end

/-! ## The values of a MODE image (R185) -/

/-- A field of one byte is that byte; one beyond the image is 0. -/
theorem field_one (image : List Byte) (n : Nat) : field image n 1 = (image.getD n 0).toNat := by
  rcases Nat.lt_or_ge n image.length with hlt | hge
  · rw [field, List.drop_eq_getElem_cons hlt, List.take_succ_cons, List.take_zero, List.getD_eq_getElem _ _ hlt]
    simp [beNat]
  · rw [field, List.drop_eq_nil_of_le hge, List.getD_eq_default _ _ hge]
    rfl

theorem ofNat_eq_byte_iff {n : Nat} {x : Byte} (hn : n < 256) : BitVec.ofNat 8 n = x ↔ n = x.toNat := by
  rw [← BitVec.toNat_inj, BitVec.toNat_ofNat, Nat.mod_eq_of_lt hn]

/-- A byte clamped from below is kept exactly where it reaches the bound. -/
theorem clampLow_eq_iff {low : Nat} {x : Byte} (hlow : low < 256) : BitVec.ofNat 8 (max low x.toNat) = x ↔ low ≤ x.toNat := by
  rw [ofNat_eq_byte_iff (Nat.max_lt.2 ⟨hlow, x.isLt⟩), max_eq_right_iff]

/-- A byte clamped from above is kept exactly where it is within the bound. -/
theorem clampHigh_eq_iff {high : Nat} {x : Byte} : BitVec.ofNat 8 (min high x.toNat) = x ↔ x.toNat ≤ high := by
  rw [ofNat_eq_byte_iff (Nat.lt_of_le_of_lt (Nat.min_le_right _ _) x.isLt), min_eq_right_iff]

/-- A byte clamped into a range is kept exactly where it lies in the range. -/
theorem clamp_eq_iff {low high : Nat} {x : Byte} (hrange : low ≤ high) (hlow : low < 256) :
    BitVec.ofNat 8 (min high (max low x.toNat)) = x ↔ low ≤ x.toNat ∧ x.toNat ≤ high := by
  rw [ofNat_eq_byte_iff (Nat.lt_of_le_of_lt (Nat.min_le_right _ _) (Nat.max_lt.2 ⟨hlow, x.isLt⟩))]
  omega

/-- The bytes of a MODE image that carry a value: all but the two masks and the CRC. -/
theorem modeImage_values {image : List Byte} (hlength : image.length = 16) :
    (image.drop 2).take 12 = (List.range 12).map fun i => image.getD (i + 2) 0 := by
  refine List.ext_getElem (by simp [hlength]) fun i hi _ => ?_
  have hlt : i + 2 < image.length := by
    simp only [List.length_take, List.length_drop] at hi
    omega
  simp [hlt, Nat.add_comm 2 i]

/-- Clamping changes a field exactly where a byte of the image lies outside its range. -/
theorem wasClamped_iff {image : List Byte} (hlength : image.length = 16) :
    let byte (n : Nat) : Nat := (image.getD n 0).toNat
    wasClamped image = true ↔ byte 4 < 50 ∨ 15 < byte 6 ∨ 15 < byte 7 ∨ 11 < byte 8 ∨ byte 9 = 0 ∨ 11 < byte 9 ∨ byte 11 < 8 ∨
      128 < byte 11 ∨ byte 12 < 10 ∨ 80 < byte 12 ∨ byte 13 = 0 := by
  intro byte
  have hinstalled : (dmtBody (clampedDmt image)).drop 2 =
      [BitVec.ofNat 8 (byte 2), .ofNat 8 (byte 3), .ofNat 8 (max 50 (byte 4)), .ofNat 8 (byte 5), .ofNat 8 (min 15 (byte 6)),
        .ofNat 8 (min 15 (byte 7)), .ofNat 8 (min 11 (byte 8)), .ofNat 8 (min 11 (max 1 (byte 9))), image.getD 10 0,
        .ofNat 8 (min 128 (max 8 (byte 11))), .ofNat 8 (min 80 (max 10 (byte 12))), .ofNat 8 (max 1 (byte 13))] := by
    simp only [clampedDmt, field_one]
    rfl
  have hloaded : (List.range 12).map (fun i => image.getD (i + 2) 0) =
      [image.getD 2 0, image.getD 3 0, image.getD 4 0, image.getD 5 0, image.getD 6 0, image.getD 7 0, image.getD 8 0, image.getD 9 0,
        image.getD 10 0, image.getD 11 0, image.getD 12 0, image.getD 13 0] := rfl
  rw [wasClamped, modeImage_values hlength, bne_iff_ne, ← not_iff_not, not_not, hinstalled, hloaded]
  simp only [byte, List.cons.injEq, BitVec.ofNat_toNat, BitVec.setWidth_eq, clampHigh_eq_iff,
    clampLow_eq_iff (show 50 < 256 by decide), clampLow_eq_iff (show 1 < 256 by decide),
    clamp_eq_iff (show 1 ≤ 11 by decide) (by decide), clamp_eq_iff (show 8 ≤ 128 by decide) (by decide),
    clamp_eq_iff (show 10 ≤ 80 by decide) (by decide), true_and, and_true]
  omega

theorem clampedDmt_eq (image : List Byte) :
    let byte (n : Nat) : Nat := (image.getD n 0).toNat
    clampedDmt image = {
      maskA := (image.getD 1 0).truncate 6, maskB := (image.getD 0 0).truncate 6, unloadTimer := byte 2, standbyTimer := byte 3
      insertionPurge := max 50 (byte 4), resumePurge := byte 5, readRetries := min 15 (byte 6), writeRetries := min 15 (byte 7)
      correctionSpan := min 11 (byte 8), reportThreshold := min 11 (max 1 (byte 9)), autoReassign := image.getD 10 0
      writeThreshold := min 128 (max 8 (byte 11)), buttonFilter := min 80 (max 10 (byte 12)), linkTimeout := max 1 (byte 13) } := by
  simp only [clampedDmt, field_one]

/-! ## What a complete image does (R184 to R186) -/

/-- A bay's ZONE or DEFECT_LIST image is staged, less its CRC (R42, R186). -/
def Translation.staged (u : Translation) (x : Staging) : Translation :=
  if x.id = .zone then { u with stagedZone := some (x.bytes.take (x.declared - 2)) }
  else { u with stagedList := some (x.bytes.take (x.declared - 2)) }

section
variable {s : State} {x : Staging}

theorem State.imageComplete_rejected {d : Detail} (h : imageRejection x.id x.declared x.bytes = some d) :
    s.imageComplete x = s.finishTarget x.target .tableRejected d := by
  simp only [State.imageComplete, h]

variable (hok : imageRejection x.id x.declared x.bytes = none)
include hok

theorem State.imageComplete_mode (hid : x.id = .mode) : s.imageComplete x =
    ({ s with dmt := clampedDmt x.bytes } : State).finishTarget x.target .good (if wasClamped x.bytes then .clamped else .none) := by
  rw [hid] at hok
  simp only [State.imageComplete, hok, hid]

theorem State.imageComplete_profile (hid : x.id = .profile) :
    s.imageComplete x = ({ s with profile := profileRows x.bytes } : State).finishTarget x.target .good .none := by
  rw [hid] at hok
  simp only [State.imageComplete, hok, hid]

theorem State.imageComplete_staged {b : BayId} (htarget : x.target = .bay b) (hid : x.id = .zone ∨ x.id = .defectList) :
    s.imageComplete x = (s.modTu b fun u => u.staged x).finishTarget x.target .good .none := by
  rcases hid with hid | hid <;> rw [hid] at hok <;> simp [State.imageComplete, hok, hid, htarget, Translation.staged]

end

/-! ## The last frame of an image (R174, R183) -/

/-- The staging area once a frame has joined its image. -/
def Staging.joined (x : Staging) (payload : List LinkByte) : Staging := { x with bytes := x.bytes ++ payload.map linkData }

/-- The part with this image in the staging area. -/
def State.withImage (s : State) (x : Staging) : State := { s with staging := some x }

/-- A frame of the length that the image asks for, without error, completes it. -/
theorem State.takeImageFrame_completes {s : State} {x : Staging} {payload : List LinkByte}
    (hlast : x.declared = x.bytes.length + payload.length) (hmax : payload.length ≤ 512)
    (hparity : ∀ y ∈ payload, linkParityOk y = true) :
    s.takeImageFrame x payload.length payload .short =
      (s.withImage (x.joined payload)).imageComplete (x.joined payload) := by
  have hasked : min 512 (x.declared - x.bytes.length) = payload.length := by omega
  have hcomplete : (x.joined payload).bytes.length = (x.joined payload).declared := by simp [Staging.joined, hlast]
  simp only [State.takeImageFrame, hasked, dataOutError_none rfl hparity]
  exact if_pos hcomplete

/-- The LOAD TABLE that is being stopped ends ABORTED with a frame that is in no error (R146). -/
theorem State.takeLastFrame_aborts {s : State} {x : Staging} {payload : List LinkByte}
    (hasked : payload.length = min 512 (x.declared - x.bytes.length)) (hparity : ∀ y ∈ payload, linkParityOk y = true) :
    s.takeLastFrame x payload.length payload .short = s.finishTarget x.target .aborted .none := by
  simp only [State.takeLastFrame, ← hasked, dataOutError_none rfl hparity]

/-- A frame that is not late, for a LOAD TABLE that is being stopped. -/
theorem State.takeDataOut_stopped {s : State} {target : BayField} {x : Staging} (hlate : s.frameLate target = false)
    (hexpecting : s.expecting target = .image x) (hstop : s.loadStopped target = true) (declared : Nat)
    (payload : List LinkByte) (ended : Detail) :
    s.takeDataOut target declared payload false ended = s.takeLastFrame x declared payload ended := by
  simp [State.takeDataOut, hlate, hexpecting, hstop]

/-- A part that hears the frame that completes the image of LOAD TABLE `c`, with no report frame of that command behind it. -/
structure State.Completes (s : State) (x : Staging) (c : Cmd) (payload : List LinkByte) : Prop where
  hears : s.hears
  staging : s.staging = some x
  command : c.op = .loadTable x.id ∧ c.silent = false
  reports : s.NoReports x.target
  nonempty : payload ≠ []
  last : x.declared = x.bytes.length + payload.length
  atMost : payload.length ≤ 512
  parity : ∀ y ∈ payload, linkParityOk y = true

section
variable {s : State} {x : Staging} {c : Cmd} {payload : List LinkByte} (h : s.Completes x c payload)
include h

theorem State.Completes.open_ : x.bytes.length < x.declared := by
  have := List.length_pos_iff.2 h.nonempty
  have := h.last
  omega

theorem State.Completes.expecting (hslot : ∀ b, x.target = .bay b → (s.bay b).slot = some c) : s.expecting x.target = .image x :=
  State.expecting_image h.staging h.open_ fun b htarget => ⟨c, hslot b htarget, by simp [h.command.1]⟩

variable {declared : BitVec 16} (hdeclared : declared.toNat = payload.length)
  (hslot : ∀ b, x.target = .bay b → (s.bay b).slot = some c)
include hdeclared hslot

/-- The image is complete with the frame. -/
theorem State.Completes.exec_last (hstop : ∀ b, x.target = .bay b → c.stop = none) :
    exec (.dataOutFrame x.target declared ⟨payload, false⟩) s =
      ((s.withImage (x.joined payload)).imageComplete (x.joined payload)).conclude := by
  have hframe := (State.takesFrame_spec h.hears.1).2.2.2.1
  have hgoes : s.loadStopped x.target = false := by
    cases htarget : x.target with
    | device => rfl
    | bay b => simp [State.loadStopped, Bay.stoppedLoad, hslot b htarget, hstop b htarget]
  show execDataOutFrame x.target declared ⟨payload, false⟩ s = _
  rw [execDataOutFrame, h.hears.frame, hdeclared, State.takeDataOut_image hframe (h.expecting hslot) hgoes,
    State.takeImageFrame_completes h.last h.atMost h.parity]

/-- A bay's LOAD TABLE that is being stopped ends with the frame. -/
theorem State.Completes.exec_stopped {b : BayId} (htarget : x.target = .bay b) (hstop : c.stop.isSome = true) :
    exec (.dataOutFrame x.target declared ⟨payload, false⟩) s = (s.finishCmd b (CmdResult.plain .aborted .none)).conclude := by
  have hframe := (State.takesFrame_spec h.hears.1).2.2.2.1
  have hstopped : s.loadStopped x.target = true := by
    simp [htarget, State.loadStopped, Bay.stoppedLoad, hslot b htarget, hstop, h.command.1]
  have hasked : payload.length = min 512 (x.declared - x.bytes.length) := by
    have := h.last
    have := h.atMost
    omega
  show execDataOutFrame x.target declared ⟨payload, false⟩ s = _
  rw [execDataOutFrame, h.hears.frame, hdeclared,
    State.takeDataOut_stopped ((State.noFrame_spec hframe).1 _) (h.expecting hslot) hstopped,
    State.takeLastFrame_aborts hasked h.parity, htarget]
  rfl

end

/-! ## An image of the device slot's LOAD TABLE -/

/-- The device slot's command ends with its STATUS, and the staging area is free. -/
theorem State.conclude_finishDevice {s : State} {c : Cmd} (hcalm : s.calm) (hslot : s.deviceSlot = some c) (hsilent : c.silent = false)
    (hreports : s.NoReports .device) (hstaging : ∀ x, s.staging = some x → x.target = .device) (r : Completion) (d : Detail) :
    (s.finishDevice r d).conclude = .next { s with
      staging := none, deviceSlot := none, link := s.link.posted (.status .device r d 0 c.op.code) } := by
  have hdropped : ({ s with deviceSlot := none } : State).dropReports .device = { s with deviceSlot := none } :=
    State.NoReports.drop ⟨hreports.queue, hreports.offered, hreports.going⟩
  have hreleased : ({ s with deviceSlot := none } : State).releaseStaging .device = { s with staging := none, deviceSlot := none } :=
    State.releaseStaging_held hstaging
  simp only [State.finishDevice, hslot, hdropped, hreleased, hsilent, Bool.false_eq_true, if_false]
  exact State.conclude_calm _ ⟨hcalm.1, hcalm.2.1, hcalm.2.2⟩

/-- The part once the device slot's LOAD TABLE has ended. -/
def State.deviceLoadEnded (s : State) (r : Completion) (d : Detail) : State :=
  { s with staging := none, deviceSlot := none, link := s.link.posted (.status .device r d 0 0x40) }

section
variable {s : State} {x : Staging} {c : Cmd} {payload : List LinkByte} (h : s.Completes x c payload)
  {declared : BitVec 16} (hdeclared : declared.toNat = payload.length) (htarget : x.target = .device)
include h htarget

theorem State.Completes.deviceEnds {u : State} (hcalm : u.calm) (hslot : u.deviceSlot = some c) (hlink : u.link = s.link)
    (hstaging : u.staging = some (x.joined payload)) (r : Completion) (d : Detail) :
    (u.finishTarget (x.joined payload).target r d).conclude = .next (u.deviceLoadEnded r d) := by
  have hreports : u.NoReports .device := by
    obtain ⟨hqueue, hoffered, hgoing⟩ := htarget ▸ h.reports
    exact ⟨by rwa [hlink], by rwa [hlink], by rwa [hlink]⟩
  have hcode : c.op.code = 0x40 := by rw [h.command.1]; rfl
  have hends := State.conclude_finishDevice hcalm hslot h.command.2 hreports
    (fun y hy => by
      obtain rfl : x.joined payload = y := by simpa [hstaging] using hy
      exact htarget) r d
  rw [hcode] at hends
  rw [show (x.joined payload).target = .device from htarget]
  exact hends

variable (hslot : s.deviceSlot = some c)
include hdeclared hslot

theorem State.Completes.device_rejected {d : Detail}
    (hbad : imageRejection x.id x.declared (x.bytes ++ payload.map linkData) = some d) :
    exec (.dataOutFrame x.target declared ⟨payload, false⟩) s = .next (s.deviceLoadEnded .tableRejected d) := by
  have hcalm := h.hears.calm
  rw [h.exec_last hdeclared (by simp [htarget]) (by simp [htarget]), State.imageComplete_rejected (x := x.joined payload) hbad]
  exact h.deviceEnds htarget (u := s.withImage _) ⟨hcalm.1, hcalm.2.1, hcalm.2.2⟩ hslot rfl rfl _ _

variable (hok : imageRejection x.id x.declared (x.bytes ++ payload.map linkData) = none)
include hok

theorem State.Completes.device_mode (hid : x.id = .mode) :
    exec (.dataOutFrame x.target declared ⟨payload, false⟩) s =
      .next (({ s with dmt := clampedDmt (x.bytes ++ payload.map linkData) } : State).deviceLoadEnded .good
        (if wasClamped (x.bytes ++ payload.map linkData) then .clamped else .none)) := by
  have hcalm := h.hears.calm
  rw [h.exec_last hdeclared (by simp [htarget]) (by simp [htarget]), State.imageComplete_mode (x := x.joined payload) hok hid]
  exact h.deviceEnds htarget (u := { s.withImage _ with dmt := _ }) ⟨hcalm.1, hcalm.2.1, hcalm.2.2⟩ hslot rfl rfl _ _

theorem State.Completes.device_profile (hid : x.id = .profile) :
    exec (.dataOutFrame x.target declared ⟨payload, false⟩) s =
      .next (({ s with profile := profileRows (x.bytes ++ payload.map linkData) } : State).deviceLoadEnded .good .none) := by
  have hcalm := h.hears.calm
  rw [h.exec_last hdeclared (by simp [htarget]) (by simp [htarget]), State.imageComplete_profile (x := x.joined payload) hok hid]
  exact h.deviceEnds htarget (u := { s.withImage _ with profile := _ }) ⟨hcalm.1, hcalm.2.1, hcalm.2.2⟩ hslot rfl rfl _ _

end

/-! ## An image of a bay's LOAD TABLE -/

/-- The part after the end of a bay's LOAD TABLE, with no command on a wake under way. -/
theorem State.finished_unwaited {s : State} {b : BayId} {c : Cmd} {id : TableId} (hop : c.op = .loadTable id) (r : CmdResult) :
    (s.finished b c r).modBay b Bay.unwaited =
      ({ s with
        staging := none
        link := s.link.posted (.status (.bay b) r.completion r.detail c.done 0x40) } : State).modBay b fun y => { y with
          slot := none
          sense := y.sense.ended c r
          power := { y.power with
            unloadTimer := dmtTimer s.dmt.unloadTimer 1000000
            standbyTimer := dmtTimer s.dmt.standbyTimer 60000000
            wake := y.power.wake.map fun w => { w with waiting := false } } } := by
  have hcode : c.op.code = 0x40 := by rw [hop]; rfl
  rw [State.finished, hcode, State.modBay_modBay]
  rfl

section
variable {s : State} {b : BayId} {c : Cmd}

theorem State.EndsAlone.withImage (h : s.EndsAlone b c) {x : Staging} (htarget : x.target = .bay b) :
    (s.withImage x).EndsAlone b c where
  command := by cases b <;> exact h.command
  undecided := h.undecided
  slotless := h.slotless
  idle := by cases b <;> exact h.idle
  reports := ⟨h.reports.queue, h.reports.offered, h.reports.going⟩
  staging := by
    rintro _ ⟨rfl⟩
    exact htarget

theorem State.EndsAlone.modTu (h : s.EndsAlone b c) (f : Translation → Translation) : (s.modTu b f).EndsAlone b c where
  command := by cases b <;> exact h.command
  undecided := h.undecided
  slotless := h.slotless
  idle := by cases b <;> exact h.idle
  reports := by cases b <;> exact ⟨h.reports.queue, h.reports.offered, h.reports.going⟩
  staging := by cases b <;> exact h.staging

theorem State.FreesSlot.withImage (h : s.FreesSlot b) (x : Staging) : (s.withImage x).FreesSlot b := by
  obtain ⟨hcalm, hframe, hmode, heject, hrests, hvisit, hwait⟩ := h
  cases b <;> exact ⟨⟨hcalm.1, hcalm.2.1, hcalm.2.2⟩, hframe, hmode, heject, hrests, hvisit, hwait⟩

theorem State.FreesSlot.modTu (h : s.FreesSlot b) (f : Translation → Translation) : (s.modTu b f).FreesSlot b := by
  obtain ⟨hcalm, hframe, hmode, heject, hrests, hvisit, hwait⟩ := h
  have hstaged : (s.modTu b f).calm := State.calm_modBay s b _ hcalm rfl
  cases b <;> exact ⟨hstaged, hframe, hmode, heject, hrests, hvisit, hwait⟩

end

section
variable {s : State} {x : Staging} {c : Cmd} {payload : List LinkByte} (h : s.Completes x c payload)
  {declared : BitVec 16} (hdeclared : declared.toNat = payload.length) {b : BayId} (htarget : x.target = .bay b)
  (halone : s.EndsAlone b c) (hfrees : s.FreesSlot b)
include h hdeclared htarget halone hfrees

/-- A LOAD TABLE that is being stopped ends ABORTED with the frame. -/
theorem State.Completes.bay_stopped (hstop : c.stop.isSome = true) :
    exec (.dataOutFrame x.target declared ⟨payload, false⟩) s =
      .next ((s.finished b c (CmdResult.plain .aborted .none)).modBay b Bay.unwaited) := by
  rw [h.exec_stopped hdeclared (by simp [htarget, halone.command]) htarget hstop, halone.concludes hfrees]

variable (hstop : c.stop = none)
include hstop

theorem State.Completes.bay_rejected {d : Detail}
    (hbad : imageRejection x.id x.declared (x.bytes ++ payload.map linkData) = some d) :
    exec (.dataOutFrame x.target declared ⟨payload, false⟩) s =
      .next ((s.finished b c (CmdResult.plain .tableRejected d)).modBay b Bay.unwaited) := by
  have hends := (halone.withImage (x := x.joined payload) htarget).concludes (hfrees.withImage _) (CmdResult.plain .tableRejected d)
  rw [h.exec_last hdeclared (by simp [htarget, halone.command]) (by simp [hstop]),
    State.imageComplete_rejected (x := x.joined payload) hbad, show (x.joined payload).target = .bay b from htarget]
  refine hends.trans ?_
  cases b <;> rfl

theorem State.Completes.bay_staged (hok : imageRejection x.id x.declared (x.bytes ++ payload.map linkData) = none)
    (hid : x.id = .zone ∨ x.id = .defectList) :
    exec (.dataOutFrame x.target declared ⟨payload, false⟩) s =
      .next (((s.modTu b fun u => u.staged (x.joined payload)).finished b c (CmdResult.plain .good .none)).modBay b Bay.unwaited) := by
  have hends := ((halone.withImage (x := x.joined payload) htarget).modTu fun u => u.staged (x.joined payload)).concludes
    ((hfrees.withImage _).modTu _) (CmdResult.plain .good .none)
  rw [h.exec_last hdeclared (by simp [htarget, halone.command]) (by simp [hstop]),
    State.imageComplete_staged (x := x.joined payload) hok htarget hid, show (x.joined payload).target = .bay b from htarget]
  refine hends.trans ?_
  cases b <;> rfl

end

/-! ## A LOAD TABLE that a press stops in MOUNTED ends with the frame in progress (R99, R102, R146) -/

/-- An ACTIVE bay with a clean record whose eject request waits only for its command to stop, with its heads FOLLOWING and no order
open. -/
structure Bay.AwaitsEject (x : Bay) (e : Eject) : Prop where
  idle : x.job = none ∧ x.flush = none
  cart : x.cart.state = .mounted ∧ x.cart.eject = some e ∧ e.phase = .waitStop
  clean : x.tu.dirty = false
  power : x.power.mode = .active ∧ x.power.entry = none ∧ x.power.wake = none
  heads : x.pos.state = .following ∧ x.pos.parked = false
  orders : x.pos.loadOpen = false ∧ x.pos.seekFor = .nobody ∧ x.pos.heldSeek = none

/-- A bay that its eject request unmounts, its readiness class still to follow. -/
def Bay.unmountsFor (x : Bay) (e : Eject) (phase : EjectPhase) : Bay := { x with
  cart := { x.cart with state := .unmounting, startupWait := false, eject := some { e with phase } }
  power := { x.power with mode := .unmounted, unloadTimer := none, standbyTimer := none } }

/-- The same bay with its heads unloading. -/
def Bay.unloadsFor (x : Bay) (e : Eject) : Bay := { x.unmountsFor e .unload with pos := x.pos.unloadStarted }

section
variable {s : State} {b : BayId} {e : Eject} (h : (s.bay b).AwaitsEject e)
include h

/-- The freed slot lets the eject request go on. -/
theorem State.onSlotFreed_unmounts : s.onSlotFreed b = (s.modBay b fun x => x.unmountsFor e .flush).tell (.poke b) := by
  obtain ⟨⟨-, hflush⟩, ⟨hcart, heject, hphase⟩, -, ⟨hmode, hentry, hwake⟩, -⟩ := h
  simp only [State.onSlotFreed, hwake, hmode, heject, Option.map_some, hphase, if_true, State.enterUnmounting, State.setMode,
    State.modPower, State.modCart, State.ejectPhase, State.leavePower, State.bay_modBay, hcart, reduceCtorEq, or_self, if_false,
    State.modBay_modBay]
  refine congrArg (fun w : State => w.tell (.poke b)) (State.modBay_congr ?_)
  simp [Bay.unmountsFor, heject, hflush, hentry, hwake]

variable (hslot : (s.bay b).slot = none) (hframe : s.link.inFrame = none) (hvisit : s.visiting b = false)
  (hwait : s.chan.waiter ≠ some b)
include hslot hframe hvisit hwait

/-- The unmounting of the clean bay goes on to its unload. -/
theorem State.goOn_unmountsFor : (s.modBay b fun x => x.unmountsFor e .flush).goOn b =
    ((s.modBay b fun x => x.unloadsFor e).tell (.poke b)).tell (.poke b) := by
  obtain ⟨⟨hjob, hflush⟩, -, hclean, ⟨-, hentry, -⟩, ⟨hstate, hparked⟩, hload, hseek, hheld⟩ := h
  obtain ⟨u, hu⟩ : ∃ u, u = s.modBay b fun x => x.unmountsFor e .flush := ⟨_, rfl⟩
  obtain ⟨w, hw⟩ : ∃ w, w = s.modBay b fun x => x.unmountsFor e .unload := ⟨_, rfl⟩
  have hbay : u.bay b = (s.bay b).unmountsFor e .flush := by rw [hu, State.bay_modBay]
  have hwbay : w.bay b = (s.bay b).unmountsFor e .unload := by rw [hw, State.bay_modBay]
  have hphase : u.ejectPhase b .unload = w := by
    rw [hu, hw, State.ejectPhase, State.modCart, State.modBay_modBay]
    rfl
  have hunload : w.unloadOrder b = (s.modBay b fun x => x.unloadsFor e).tell (.poke b) := by
    rw [w.unloadOrder_following b (by rw [hwbay]; exact hstate) (by rw [hw]; cases b <;> exact hvisit)
      (by rw [hw]; cases b <;> exact hwait) (by rw [hwbay]; exact hjob) (by rw [hwbay]; exact hload) (by rw [hwbay]; exact hseek)
      (by rw [hwbay]; exact hheld), hw, State.modBay_modBay]
    rfl
  have hstep : u.stepCart b = ((u.ejectPhase b .unload).unloadOrder b).tell (.poke b) := by
    simp [State.stepCart, State.stepUnmount, hbay, Bay.unmountsFor, hflush, hclean]
  rw [← hu, u.goOn_still b (by simp [hbay, Bay.unmountsFor, Positioner.rests, hparked]) (by rw [hu]; cases b <;> exact hframe)
    (by simp [State.stepCommand, hbay, Bay.unmountsFor, hslot]) (by simp [hbay, Bay.unmountsFor, hjob])
    (by rw [hu]; cases b <;> exact hvisit) (by rw [hu]; cases b <;> exact hwait)
    (by simp [State.stepStandby, hbay, Bay.unmountsFor, hentry]), hstep, hphase, hunload]

/-- The event in which the slot becomes free goes on to the unload of the heads. -/
theorem State.conclude_freedEject (hcalm : s.calm) :
    ({ s with signals := [.poke b, .slotFreed b, .poke b] } : State).conclude = .next (s.modBay b fun x => { x.unloadsFor e with
      power := { (x.unloadsFor e).power with readiness := .unavailable }
      attn := { x.attn with readiness := { raised := true, payload := 3 } } }) := by
  have hrests : ∀ m, ({ s with signals := m } : State).bayRests b = true := fun m => by
    refine State.bayRests_aside ?_ hframe hvisit hwait
    obtain ⟨⟨hjob, -⟩, ⟨hcart, -⟩, -, ⟨-, hentry, -⟩, ⟨-, hparked⟩, -⟩ := h
    simp [Bay.rests, Positioner.rests, Cartridge.rests, hparked, hcart, hentry, hjob, hslot]
  have hunloads : ((s.bay b).unloadsFor e).Unloads := by
    obtain ⟨⟨hjob, -⟩, -, -, ⟨-, hentry, -⟩, ⟨-, hparked⟩, -⟩ := h
    exact ⟨⟨rfl, hparked⟩, hjob, by simp [Bay.unloadsFor, Bay.unmountsFor, hslot], by simp [Bay.unloadsFor, Bay.unmountsFor, hentry],
      .inr ⟨rfl, _, rfl, rfl⟩⟩
  have hfreed : ({ s with signals := [.poke b] } : State).deliver (.slotFreed b) =
      { s.modBay b (fun x => x.unmountsFor e .flush) with signals := [.poke b, .poke b] } := by
    refine (State.onSlotFreed_unmounts (e := e) (by rwa [State.bay_signals])).trans ?_
    cases b <;> rfl
  have hunmounts : ({ s.modBay b (fun x => x.unmountsFor e .flush) with signals := [.poke b] } : State).deliver (.poke b) =
      { s.modBay b (fun x => x.unloadsFor e) with signals := List.replicate 3 (.poke b) } := by
    have hgo := State.goOn_unmountsFor (s := { s with signals := [.poke b] }) (by rwa [State.bay_signals])
      (by rwa [State.bay_signals]) hframe hvisit hwait
    cases b <;> exact hgo
  have hsettle : settle Config.messageBudget { s with signals := [.poke b, .slotFreed b, .poke b] } =
      s.modBay b fun x => x.unloadsFor e := by
    rw [show Config.messageBudget = 397 + 1 + 1 + 1 from rfl, settle_poke hrests, settle_cons _ _ _ _ rfl, hfreed,
      settle_cons _ _ _ _ rfl, hunmounts]
    exact settle_unloads hcalm hframe hvisit hwait hunloads (by decide)
  rw [State.conclude_of_settle hsettle hcalm.1 (by cases b <;> exact hcalm.1) (by cases b <;> exact hcalm.2.1.1),
    State.conclude_leaves hcalm b]
  · rfl
  · have hclass := hcalm.2.1.class b
    rw [h.power.1] at hclass
    simp [Bay.unloadsFor, Bay.unmountsFor, hclass, PowerMode.readiness]

end

/-! ## The row that ends the frame in progress -/

/-- A LOAD TABLE of the bay that is being stopped, with the image that its frame in progress may be the last of (R99, R146). -/
structure State.LoadStops (s : State) (b : BayId) (x : Staging) (c : Cmd) (f : InFrame) : Prop where
  settled : s.settled
  underWay : s.frameUnderWay = true
  frame : s.link.inFrame = some f
  inTime : f.slot = none ∧ f.late.contains b = false
  image : x.target = .bay b ∧ x.bytes.length < x.declared
  stops : c.op = .loadTable x.id ∧ c.stop.isSome = true
  other : (s.bay (otherBay b)).stoppedLoad = false
  staging : s.staging = some x
  alone : s.EndsAlone b c

/-- The part with the two entries of the frame in progress given back (R176). -/
def State.entriesBack (s : State) : State := s.modLink fun l => { l with reservations := l.reservations - 2 }

/-- The part once the frame in progress is over. -/
def State.frameGone (s : State) : State := s.modLink fun l => { l with inFrame := none, timer := none, spent := false }

section
variable {s : State} {b : BayId} {x : Staging} {c : Cmd} {f : InFrame} (h : s.LoadStops b x c f)
include h

theorem State.LoadStops.alone_entriesBack : s.entriesBack.EndsAlone b c where
  command := by cases b <;> exact h.alone.command
  undecided := h.alone.undecided
  slotless := h.alone.slotless
  idle := by cases b <;> exact h.alone.idle
  reports := ⟨h.alone.reports.queue, h.alone.reports.offered, h.alone.reports.going⟩
  staging := h.alone.staging

variable {declared : Nat} {payload : List LinkByte} (hdeclared : declared = payload.length)
  (hasked : payload.length = min 512 (x.declared - x.bytes.length)) (hparity : ∀ y ∈ payload, linkParityOk y = true)
include hdeclared hasked hparity

/-- The frame ends its LOAD TABLE. -/
theorem State.LoadStops.takeDataOut : s.entriesBack.takeDataOut (.bay b) declared payload false .short =
    s.entriesBack.finishCmd b (CmdResult.plain .aborted .none) := by
  have hslot : (s.entriesBack.bay b).slot = some c := h.alone_entriesBack.command
  have hlate : s.entriesBack.frameLate (.bay b) = false := by
    show s.link.inFrame.any (fun f => f.late.contains b) = false
    rw [h.frame]
    exact h.inTime.2
  have hexpecting : s.entriesBack.expecting (.bay b) = .image x := by
    rw [← h.image.1]
    refine State.expecting_image h.staging h.image.2 fun b' hb' => ?_
    obtain rfl : b = b' := by simpa [h.image.1] using hb'
    exact ⟨c, hslot, by simp [h.stops.1]⟩
  have hstop : s.entriesBack.loadStopped (.bay b) = true := by
    simp [State.loadStopped, Bay.stoppedLoad, hslot, h.stops.1, h.stops.2]
  rw [State.takeDataOut_stopped hlate hexpecting hstop, hdeclared, State.takeLastFrame_aborts hasked hparity, h.image.1]
  rfl

/-- The row ends the LOAD TABLE and the frame, and leaves the messages of the freed slot. -/
theorem State.LoadStops.frame_ends (i : Instr) :
    s.frame i (fun s => s.takeDataOut (.bay b) declared payload false .short) =
      ({ (s.entriesBack.finished b c (CmdResult.plain .aborted .none)).frameGone with
        signals := [.poke b, .slotFreed b, .poke b] } : State).conclude := by
  obtain ⟨-, -, -, -, f', hf', hdue⟩ := State.frameUnderWay_spec h.underWay
  obtain rfl : f = f' := by simpa [h.frame] using hf'
  obtain ⟨u, hu⟩ : ∃ u : State, u = { s.entriesBack.finished b c (CmdResult.plain .aborted .none) with
    signals := [.poke b, .slotFreed b, .poke b] } := ⟨_, rfl⟩
  have hends : s.entriesBack.finishCmd b (CmdResult.plain .aborted .none) = u := by
    rw [h.alone_entriesBack.finishCmd, hu, show s.entriesBack.signals = [] from h.settled.1]
    rfl
  have hquiet : ∀ b', (u.bay b').stoppedLoad = false := by
    intro b'
    have hother := h.other
    rw [hu]
    cases b <;> cases b'
    exacts [rfl, hother, hother, rfl]
  have hover : u.inboundEnds false = u.frameGone :=
    State.inboundEnds_quiet false (by rw [hu]; cases b <;> exact h.frame) hdue h.inTime.1 hquiet
  rw [State.frame_ends s i _ h.underWay]
  show ((s.entriesBack.takeDataOut (.bay b) declared payload false .short).inboundEnds false).conclude = _
  rw [h.takeDataOut hdeclared hasked hparity, hends, hover, hu]
  rfl

/-- The bay then unloads its heads for the eject. -/
theorem State.LoadStops.unloads {e : Eject} (hejects : (s.bay b).AwaitsEject e) (hvisit : s.visiting b = false)
    (hwait : s.chan.waiter ≠ some b) (i : Instr) :
    s.frame i (fun s => s.takeDataOut (.bay b) declared payload false .short) =
      .next ((s.entriesBack.finished b c (CmdResult.plain .aborted .none)).frameGone.modBay b fun x => { x.unloadsFor e with
        power := { (x.unloadsFor e).power with readiness := .unavailable }
        attn := { x.attn with readiness := { raised := true, payload := 3 } } }) := by
  obtain ⟨hrun, -, hldir, -⟩ := State.frameUnderWay_spec h.underWay
  obtain ⟨u, hu⟩ : ∃ u, u = (s.entriesBack.finished b c (CmdResult.plain .aborted .none)).frameGone := ⟨_, rfl⟩
  have hbay : u.bay b = { (s.bay b).unslotted s.dmt with
      sense := (s.bay b).sense.ended c (CmdResult.plain .aborted .none) } := by
    rw [hu]
    cases b <;> rfl
  have hcalm : u.calm := by
    rw [hu]
    cases b <;> exact ⟨hrun, h.settled, .inl hldir⟩
  have hejects' : (u.bay b).AwaitsEject e := by
    obtain ⟨hidle, hcart, hclean, hpower, hheads, horders⟩ := hejects
    rw [hbay]
    exact ⟨hidle, hcart, hclean, hpower, hheads, horders⟩
  rw [h.frame_ends hdeclared hasked hparity, ← hu]
  exact State.conclude_freedEject hejects' (by rw [hbay]; rfl) (by rw [hu]; cases b <;> rfl) (by rw [hu]; cases b <;> exact hvisit)
    (by rw [hu]; cases b <;> exact hwait) hcalm

end

end Sys2Proof.Machine

namespace Sys2Proof
open Machine

/-- Settles O21: the end of a complete image is that of its command, which leaves a bay that is not ACTIVE at rest; in the bay that a
press is to empty, the freed slot lets the eject request go on to its unload. -/
theorem completeImagesAreInstalledOrRejected : Obligations.CompleteImagesAreInstalledOrRejected := by
  refine ⟨?stopped, ?complete⟩
  case stopped =>
    intro b x c f e at_ declared payload s hsettled _ hunder hframe hfslot hlate hstaging htarget hmore hslot hop hstop hsilent hresult
      hother hout hqueue hjob hflush hreassign hformat hcart heject hphase hclean hmode hentry hwake _ hstate _ hparked hload hseek
      hheld hvisit hwait hdeclared hasked hparity
    have halone : s.EndsAlone b c :=
      ⟨hslot, ⟨hresult, hsilent⟩, .inr ⟨_, hop⟩, ⟨hjob, hreassign, hformat⟩, ⟨hqueue, hsettled.2.1, by simp [hout]⟩,
        by simp [hstaging, htarget]⟩
    have h : s.LoadStops b x c f :=
      ⟨hsettled, hunder, hframe, ⟨hfslot, hlate⟩, ⟨htarget, hmore⟩, ⟨hop, hstop⟩, hother, hstaging, halone⟩
    have hejects : (s.bay b).AwaitsEject e :=
      ⟨⟨hjob, hflush⟩, ⟨hcart, heject, hphase⟩, hclean, ⟨hmode, hentry, hwake⟩, ⟨hstate, hparked⟩, hload, hseek, hheld⟩
    refine (h.unloads hdeclared hasked hparity hejects hvisit hwait _).trans ?_
    have hcode : c.op.code = 0x40 := by rw [hop]; rfl
    rw [State.finished, hcode]
    cases b <;>
      simp [State.frameGone, State.entriesBack, Link.posted, State.modLink, State.modBay, State.setBay, State.bay, Bay.unloadsFor,
        Bay.unmountsFor, Bay.unslotted, Sense.ended, CmdResult.plain, hcode, Nat.sub_sub]
  case complete =>
    intro x c declared payload s hhears hstaging hop hsilent hout hqueue hnonempty hmax hdeclared hlast hparity image byte sound arrived
    have h : s.Completes x c payload :=
      ⟨hhears, hstaging, ⟨hop, hsilent⟩, ⟨hqueue, hhears.2.1.2.1, by simp [hout]⟩, hnonempty, hlast, hmax, hparity⟩
    refine ⟨?device, ?bay⟩
    case device =>
      intro htarget hslot ended
      refine ⟨?mode, ?profile, fun hlength => ?_, fun hlength hcrc => ?_, fun hlength hcrc hbad => ?_⟩
      case mode =>
        intro hid hlength hcrc installed changed
        have hok : imageRejection x.id x.declared image = none := by
          refine imageRejection_none (by rw [hid, hlength]; rfl) hcrc (by rw [hid]; rfl)
        have hclamped : wasClamped image = true ↔ changed := wasClamped_iff (by simp [image, ← hlast, hlength])
        have harrived : arrived = _ := h.device_mode hdeclared htarget hslot hok hid
        rw [harrived, clampedDmt_eq]
        refine ⟨fun hchanged => ?_, fun hkept => ?_⟩
        · rw [if_pos (hclamped.2 hchanged)]
          rfl
        · rw [if_neg fun hw => hkept (hclamped.1 hw)]
          rfl
      case profile =>
        intro hid hlength hcrc hbody
        exact h.device_profile hdeclared htarget hslot
          (imageRejection_none (by rw [hid, hlength]; rfl) hcrc (by rwa [hid])) hid
      · exact h.device_rejected hdeclared htarget hslot (imageRejection_length hlength)
      · exact h.device_rejected hdeclared htarget hslot (imageRejection_crc hlength hcrc)
      · exact h.device_rejected hdeclared htarget hslot (imageRejection_structure hlength hcrc hbad)
    case bay =>
      intro b htarget hslot hresult hjob _ hreassign hformat heject hmode hrests hvisit hwait hid ended rejected
      have halone : s.EndsAlone b c :=
        ⟨hslot, ⟨hresult, hsilent⟩, .inr ⟨_, hop⟩, ⟨hjob, hreassign, hformat⟩, htarget ▸ h.reports, by simp [hstaging, htarget]⟩
      have hfrees : s.FreesSlot b :=
        ⟨hhears.calm, (State.takesFrame_spec hhears.1).2.2.2.1, hmode, heject, hrests, hvisit, hwait⟩
      have hcode : c.op.code = 0x40 := by rw [hop]; rfl
      have hrejected : ∀ d, imageRejection x.id x.declared image = some d → c.stop = none → arrived = rejected d := by
        intro d hbad hstop
        refine (h.bay_rejected hdeclared htarget halone hfrees hstop hbad).trans ?_
        simp only [rejected, ended, State.finished_unwaited hop, Sense.ended, CmdResult.plain, reduceCtorEq, if_false, hcode]
        cases b <;> rfl
      refine ⟨fun hstop => ?_, fun hstop hlength hcrc hbody => ?_, fun hstop hlength => hrejected _ (imageRejection_length hlength) hstop,
        fun hstop hlength hcrc => hrejected _ (imageRejection_crc hlength hcrc) hstop,
        fun hstop hlength hcrc hbad => hrejected _ (imageRejection_structure hlength hcrc hbad) hstop⟩
      · refine (h.bay_stopped hdeclared htarget halone hfrees hstop).trans ?_
        simp only [ended, State.finished_unwaited hop, Sense.ended, CmdResult.plain, reduceCtorEq, if_false, hcode]
        cases b <;> rfl
      · refine (h.bay_staged hdeclared htarget halone hfrees hstop (imageRejection_none hlength hcrc hbody) hid).trans ?_
        have hstaged : (s.bay b).tu.staged (x.joined payload) =
            if x.id = .zone then { (s.bay b).tu with stagedZone := some (image.take 97) }
            else { (s.bay b).tu with stagedList := some (image.take 1026) } := by
          rcases hid with hid | hid <;> simp [Translation.staged, Staging.joined, hid, hlength, TableId.imageLength, image]
        simp only [ended, State.finished_unwaited hop, Sense.ended, CmdResult.plain, if_true, ← hstaged]
        cases b <;> rfl

end Sys2Proof
end

/-! The end of an event: what it leaves of messages, readiness classes, pending descriptors and LSRQ (O3). -/

namespace Sys2Proof.Machine

/-! ## What a running part owes between events -/

/-- Each bay's readiness class is that of its power mode (R168). -/
def State.inStep (s : State) : Prop := ∀ b, (s.bay b).power.readiness = (s.bay b).power.mode.readiness

/-- No DATA-IN descriptor waits while the queue has room for it (R176). -/
def State.filled (s : State) : Prop := s.link.offered = [] ∨ Config.dataInRoom < s.link.queue.length + s.link.reservations

/-- With LDIR at IN nothing asks for the link (R177). -/
def State.served (s : State) : Prop := s.link.ldir = .partSends → s.lsrq = false

theorem State.eventOver_iff (s : State) :
    s.eventOver ↔ s.signals = [] ∧ (s.running → s.inStep ∧ s.filled ∧ s.served) := Iff.rfl

/-- A part held in RESET, or latched, owes no more than its messages. -/
theorem State.eventOver_of_dead {s : State} (hsignals : s.signals = []) (hdead : ¬ s.running) : s.eventOver :=
  ⟨hsignals, fun hrun => absurd hrun hdead⟩

theorem State.not_running_iff {s : State} : ¬ s.running ↔ (s.resetHeld || s.powerLoss) = true := by
  cases hreset : s.resetHeld <;> cases hloss : s.powerLoss <;> simp [State.running, hreset, hloss]

/-! ## The end of an event -/

section
variable {s : State}

theorem State.refreshReadiness_class (s : State) (b : BayId) :
    ((s.refreshReadiness b).bay b).power.readiness = ((s.refreshReadiness b).bay b).power.mode.readiness := by
  simp only [State.refreshReadiness]
  split
  next hsame => exact hsame
  next => simp

theorem State.refreshReadiness_bay_ne {b b' : BayId} (h : b' ≠ b) : (s.refreshReadiness b).bay b' = s.bay b' := by
  simp only [State.refreshReadiness]
  split
  · rfl
  · rw [State.raise_attn_ne _ h, State.modPower, State.bay_modBay_ne _ h]

theorem State.refreshReadiness_signals (s : State) (b : BayId) : (s.refreshReadiness b).signals = s.signals := by
  simp only [State.refreshReadiness]
  split <;> simp

/-- Both bays brought up to date have the classes of their modes. -/
theorem State.inStep_of_refreshed (s : State) : ((s.refreshReadiness .bayA).refreshReadiness .bayB).inStep
  | .bayA => by
    rw [State.refreshReadiness_bay_ne (b' := .bayA) (b := .bayB) nofun]
    exact s.refreshReadiness_class .bayA
  | .bayB => State.refreshReadiness_class _ .bayB

theorem State.joinPending_bay (s : State) (b : BayId) : s.joinPending.bay b = s.bay b := State.modLink_bay _ _ _

/-- What is still pending found no room. -/
theorem State.joinPending_filled (s : State) : s.joinPending.filled := (joinOffered_spec _ _ _).2

/-- The frame of a descriptor goes out, and pending descriptors join for the place that it leaves. -/
theorem State.beginFrame_queued {d : Desc} {rest : List Desc} (hqueue : s.link.queue = d :: rest) :
    ∃ u : State, s.beginFrame = u.joinPending ∧ u.signals = s.signals ∧ (∀ b, u.bay b = s.bay b) ∧
      u.link.outFrame.isNone = false := by
  simp only [State.beginFrame, hqueue]
  cases d <;> exact ⟨_, rfl, rfl, fun b => by simp, rfl⟩

/-- A frame begins unless there is none to send, and LSRQ is deasserted in either case; a class stays in step with its mode, and the
queue filled. -/
theorem State.beginFrame_spec (s : State) :
    s.beginFrame.lsrq = false ∧ s.beginFrame.signals = s.signals ∧ (s.inStep → s.beginFrame.inStep) ∧
      (s.filled → s.beginFrame.filled) := by
  cases hqueue : s.link.queue with
  | cons d rest =>
    obtain ⟨u, hbegins, hsignals, hbays, hout⟩ := State.beginFrame_queued hqueue
    rw [hbegins]
    refine ⟨?_, hsignals, fun h b => ?_, fun _ => u.joinPending_filled⟩
    · simp [State.lsrq, State.joinPending, hout]
    · rw [State.joinPending_bay, hbays]
      exact h b
  | nil =>
    cases hnext : s.nextAttention with
    | some x =>
      rw [State.beginFrame_attention hqueue hnext]
      refine ⟨by simp [State.lsrq], by simp, fun h b => ?_, fun h => by simpa [State.filled] using h⟩
      rw [State.modLink_bay, State.bay_modBay_keeps s _ _ _ Bay.power rfl]
      exact h b
    | none =>
      rw [State.beginFrame_idle hqueue hnext]
      exact ⟨by simp [State.lsrq, hqueue, hnext], rfl, id, id⟩

/-- With LDIR at IN the part begins a frame unless the link is dead or a frame is going out, and then LSRQ is deasserted too. -/
theorem State.kick_spec (s : State) :
    s.kick.served ∧ s.kick.signals = s.signals ∧ (s.inStep → s.kick.inStep) ∧ (s.filled → s.kick.filled) := by
  unfold State.kick
  split
  next =>
    obtain ⟨hlsrq, hkept⟩ := s.beginFrame_spec
    exact ⟨fun _ => hlsrq, hkept⟩
  next hkept =>
    refine ⟨fun hldir => ?_, rfl, id, id⟩
    cases halive : s.linkAlive <;> cases hout : s.link.outFrame <;> simp_all [State.lsrq]

/-- What closes an event without messages leaves it over. -/
theorem State.closeEvent_eventOver (h : s.signals = []) : s.closeEvent.eventOver := by
  obtain ⟨hserved, hsignals, hclasses, hfilled⟩ := ((s.refreshReadiness .bayA).refreshReadiness .bayB).joinPending.kick_spec
  refine (State.eventOver_iff _).2 ⟨hsignals.trans ?_, fun _ => ⟨hclasses fun b => ?_, hfilled (State.joinPending_filled _), hserved⟩⟩
  · exact ((State.refreshReadiness_signals _ _).trans (State.refreshReadiness_signals _ _)).trans h
  · rw [State.joinPending_bay]
    exact s.inStep_of_refreshed b

/-- Whatever an event has done, its end is one: messages that cannot all be delivered are no next state. -/
theorem State.conclude_eventOver {t : State} (ht : s.conclude = .next t) : t.eventOver := by
  obtain ⟨hdead, rfl⟩ | ⟨-, hsettled, rfl⟩ := State.conclude_next ht
  · exact State.eventOver_of_dead rfl hdead
  · exact State.closeEvent_eventOver hsettled

/-! ## Which events are taken -/

variable (h : s.eventOver) {t : State}
include h

theorem State.ite_conclude_eventOver {c : Prop} [Decidable c] {u : State}
    (ht : (if c then u.conclude else .next s) = .next t) : t.eventOver := by
  split at ht
  · exact State.conclude_eventOver ht
  · cases ht; exact h

theorem State.frame_eventOver {i : Instr} {f : State → State} (ht : s.frame i f = .next t) : t.eventOver := by
  unfold State.frame at ht
  split at ht
  · exact State.conclude_eventOver ht
  · split at ht
    · exact State.conclude_eventOver ht
    · split at ht <;> cases ht <;> exact h

theorem State.bayEvent_eventOver {b : BayId} {f : State → State} (ht : s.bayEvent b f = .next t) : t.eventOver :=
  State.ite_conclude_eventOver h ht

theorem State.bayAct_eventOver {b : BayId} {f : State → State} (ht : s.bayAct b f = .next t) : t.eventOver :=
  State.ite_conclude_eventOver h ht

theorem State.baySensor_eventOver {b : BayId} {level act : State → State} (ht : s.baySensor b level act = .next t) :
    t.eventOver :=
  State.ite_conclude_eventOver h ht

theorem State.visitEvent_eventOver {f : Visit → Job → State} (ht : s.visitEvent f = .next t) : t.eventOver := by
  unfold State.visitEvent at ht
  split at ht
  · split at ht
    · split at ht
      · cases ht; exact h
      · exact State.conclude_eventOver ht
    · cases ht; exact h
  · cases ht; exact h

/-! ## The events of the link and of the part itself -/

theorem execEndOfReset_eventOver {pins : Pins} (ht : execEndOfReset pins s = .next t) : t.eventOver :=
  State.ite_conclude_eventOver h ht

theorem execPowerFailLatch_eventOver (ht : execPowerFailLatch s = .next t) : t.eventOver := by
  unfold execPowerFailLatch at ht
  split at ht <;> cases ht
  · exact h
  · exact State.eventOver_of_dead rfl (State.not_running_iff.2 (Bool.or_true _))

theorem execLinkReset_eventOver (ht : execLinkReset s = .next t) : t.eventOver := by
  unfold execLinkReset at ht
  split at ht
  · cases ht; exact h
  · split at ht
    next hdead =>
      cases ht
      exact State.eventOver_of_dead h.1 (State.not_running_iff.2 hdead)
    next => exact State.conclude_eventOver ht

/-- A dead link asserts no LSRQ, whichever way LDIR turns. -/
theorem execLdirChange_eventOver {dir : LinkDir} {inbound : Inbound} (ht : execLdirChange dir inbound s = .next t) :
    t.eventOver := by
  simp only [execLdirChange] at ht
  split at ht
  · cases ht; exact h
  · split at ht
    next => exact State.conclude_eventOver ht
    next hdead =>
      cases ht
      obtain ⟨hsignals, howed⟩ := (State.eventOver_iff s).1 h
      refine (State.eventOver_iff _).2 ⟨hsignals, fun hrun => ?_⟩
      obtain ⟨hclasses, hfilled, -⟩ := howed hrun
      have hlsrq : s.lsrq = false := by simp [State.lsrq, hdead]
      exact ⟨fun b => by simpa using hclasses b, hfilled, fun _ => hlsrq⟩

theorem execInboundFrameError_eventOver {frame : Inbound} (ht : execInboundFrameError frame s = .next t) : t.eventOver := by
  unfold execInboundFrameError at ht
  split at ht
  · exact State.frame_eventOver h ht
  · cases ht; exact h

theorem execOutboundFrameSent_eventOver (ht : execOutboundFrameSent s = .next t) : t.eventOver := by
  unfold execOutboundFrameSent at ht
  split at ht
  · exact State.ite_conclude_eventOver h ht
  · cases ht; exact h

theorem execLinkTimeout_eventOver {inbound : Inbound} (ht : execLinkTimeout inbound s = .next t) : t.eventOver := by
  unfold execLinkTimeout at ht
  split at ht
  · exact State.ite_conclude_eventOver h ht
  · split at ht
    · exact State.conclude_eventOver ht
    · exact State.ite_conclude_eventOver h ht

/-- A dead part records the sample, and nothing follows from it. -/
theorem execServoSample_eventOver {b : BayId} {w : ServoWord} (ht : execServoSample b w s = .next t) : t.eventOver := by
  simp only [execServoSample] at ht
  split at ht
  · cases ht; exact h
  · split at ht
    next hdead =>
      cases ht
      exact State.eventOver_of_dead (by simpa [State.recordSample] using h.1)
        (State.not_running_iff.2 (by simpa [State.recordSample] using hdead))
    next => exact State.conclude_eventOver ht

/-- Every command and event ends with `State.conclude`, changes nothing, or leaves a link or a part that is dead. -/
theorem exec_eventOver {i : Instr} (ht : exec i s = .next t) : t.eventOver := by
  cases i
  case resetAsserted => cases ht; exact State.eventOver_of_dead rfl (State.not_running_iff.2 (Bool.true_or _))
  case endOfReset pins => exact execEndOfReset_eventOver h ht
  case powerFailLatch => exact execPowerFailLatch_eventOver h ht
  case linkReset => exact execLinkReset_eventOver h ht
  case linkResetRelease => exact State.conclude_eventOver ht
  case ldirChange dir inbound => exact execLdirChange_eventOver h ht
  case inboundFrameError frame => exact execInboundFrameError_eventOver h ht
  case outboundFrameSent => exact execOutboundFrameSent_eventOver h ht
  case linkTimeout inbound => exact execLinkTimeout_eventOver h ht
  case servoSample b w => exact execServoSample_eventOver h ht
  case indexEdge b elapsed => exact State.bayEvent_eventOver h (show execIndexEdge b elapsed s = _ from ht)
  case retractTimerExpiry b => exact State.bayEvent_eventOver h (show execRetractTimerExpiry b s = _ from ht)
  case parkSensorChange b parked => exact State.bayEvent_eventOver h (show execParkSensorChange b parked s = _ from ht)
  case presentAccepted b => exact State.baySensor_eventOver h (show execPresentAccepted b s = _ from ht)
  case presentLost b => exact State.baySensor_eventOver h (show execPresentLost b s = _ from ht)
  case writeProtectChange b p => exact State.baySensor_eventOver h (show execWriteProtectChange b p s = _ from ht)
  case lockSenseEngaged b => exact State.baySensor_eventOver h (show execLockSenseEngaged b s = _ from ht)
  case lockSenseOpen b => exact State.baySensor_eventOver h (show execLockSenseOpen b s = _ from ht)
  case ejectButtonPress level =>
    change execEjectButtonPress level s = _ at ht
    simp only [execEjectButtonPress] at ht
    exact State.baySensor_eventOver h ht
  case pulseEnd b => exact State.bayAct_eventOver h (show execPulseEnd b s = _ from ht)
  case idFieldRead | idSearchAttemptEnd | dataFieldRead | dataFieldWritten | formatTrackWritten | visitFieldCountEnd =>
    exact State.visitEvent_eventOver h ht
  case powerOnWatchEnd | firstIndexTimerExpiry | gapTimerExpiry | spinUpTimerExpiry | recoveryTimerExpiry | brakeTimerExpiry
      | stopTimerExpiry | loadTimerExpiry | seekTimerExpiry | recalibrateTimerExpiry | positionerUnloadTimerExpiry
      | settleTimerExpiry | lockConfirmExpiry | releaseConfirmExpiry | idleUnloadTimerExpiry | standbyTimerExpiry
      | ledFlashToggle =>
    exact State.bayAct_eventOver h ht
  all_goals exact State.frame_eventOver h ht

end

/-! ## A microsecond -/

/-- A microsecond reserves entries for a frame that begins, and gives none back (R176). -/
theorem State.receive_reservations (s : State) (lfrm : Bool) (strobe : Option LinkByte) :
    s.link.reservations ≤ (s.receive lfrm strobe).link.reservations := by
  unfold State.receive
  split
  · unfold State.heard
    split
    · exact le_rfl
    · split
      · split
        · exact Nat.le_add_right _ _
        · exact le_rfl
      · exact le_rfl
  · simp only []
    split
    · split
      any_goals exact le_rfl
      unfold State.strobed
      split
      · exact le_rfl
      · split <;> exact le_rfl
    · exact le_rfl

/-- A microsecond of an outbound frame leaves it in progress, and of the link changes only its timer else. -/
theorem Link.tick_spec (x : Link) (phase : Bool) :
    ∃ outFrame timer, outFrame.isNone = x.outFrame.isNone ∧ x.tick phase = { x with outFrame := outFrame, timer := timer } := by
  unfold Link.tick
  split
  next => exact ⟨x.outFrame, x.timer, rfl, rfl⟩
  next f hout =>
    split
    · exact ⟨_, _, rfl, rfl⟩
    · split
      · exact ⟨_, _, by simp [hout], rfl⟩
      · exact ⟨_, _, rfl, rfl⟩

theorem Bay.tick_class (x : Bay) : x.tick.power.mode = x.power.mode ∧ x.tick.power.readiness = x.power.readiness := by
  unfold Bay.tick
  split <;> exact ⟨rfl, rfl⟩

/-- A microsecond leaves all that `State.eventOver` looks at, but may reserve entries of the queue. -/
theorem State.count_spec (s : State) (x : Inputs) :
    ((s.count x).signals = s.signals ∧ (s.count x).resetHeld = s.resetHeld ∧ (s.count x).powerLoss = s.powerLoss ∧
      (s.count x).dmt = s.dmt) ∧
    (∀ b, ((s.count x).bay b).power.mode = (s.bay b).power.mode ∧
      ((s.count x).bay b).power.readiness = (s.bay b).power.readiness ∧ ((s.count x).bay b).attn = (s.bay b).attn) ∧
    ((s.count x).link.ldir = s.link.ldir ∧ (s.count x).link.lrst = s.link.lrst ∧
      (s.count x).link.outFrame.isNone = s.link.outFrame.isNone ∧ (s.count x).link.queue = s.link.queue ∧
      (s.count x).link.offered = s.link.offered ∧ s.link.reservations ≤ (s.count x).link.reservations) := by
  unfold State.count
  split
  · exact ⟨⟨rfl, rfl, rfl, rfl⟩, fun _ => ⟨rfl, rfl, rfl⟩, rfl, rfl, rfl, rfl, rfl, le_rfl⟩
  · have hreserves := s.receive_reservations x.lfrm x.strobe
    obtain ⟨⟨slots, inFrame, spent, reservations, timer, hreceive⟩, -⟩ := s.receive_spec x.lfrm x.strobe
    obtain ⟨outFrame, timer', hout, hlink⟩ := (s.receive x.lfrm x.strobe).link.tick_spec x.phase
    simp only [hlink]
    rw [hreceive] at hreserves hout ⊢
    refine ⟨⟨rfl, rfl, rfl, rfl⟩, fun b => ?_, rfl, rfl, hout, rfl, rfl, hreserves⟩
    cases b with
    | bayA => exact ⟨s.bayA.tick_class.1, s.bayA.tick_class.2, rfl⟩
    | bayB =>
      cases htwo : s.twoBays
      · simp [State.bay]
      · simpa [State.bay] using ⟨s.bayB.tick_class.1, s.bayB.tick_class.2, rfl⟩

theorem State.count_lsrq (s : State) (x : Inputs) : (s.count x).lsrq = s.lsrq := by
  obtain ⟨⟨-, hreset, hloss, hdmt⟩, hbays, -, hlrst, hout, hqueue, -, -⟩ := s.count_spec x
  have hnext : (s.count x).nextAttention = s.nextAttention :=
    State.nextAttention_same (fun b => (hbays b).2.2) hdmt
  simp only [State.lsrq, State.linkAlive, hreset, hloss, hlrst, hout, hqueue, hnext]

/-- A microsecond asks for nothing and gives nothing back that a pending descriptor waits for. -/
theorem State.tick_eventOver {s : State} (h : s.eventOver) : s.tick.eventOver := by
  obtain ⟨⟨hsignals, hreset, hloss, -⟩, hbays, hldir, -, -, hqueue, hoffered, hreserves⟩ := s.count_spec (inputsAt s.hostTurns)
  obtain ⟨hquiet, howed⟩ := (State.eventOver_iff s).1 h
  refine (State.eventOver_iff _).2 ⟨hsignals.trans hquiet, fun hrun => ?_⟩
  obtain ⟨hclasses, hfilled, hserved⟩ := howed ⟨hreset.symm.trans hrun.1, hloss.symm.trans hrun.2⟩
  refine ⟨fun b => ?mode, ?room, fun hin => (s.count_lsrq _).trans (hserved (hldir.symm.trans hin))⟩
  case mode =>
    obtain ⟨hmode, hclass, -⟩ := hbays b
    exact hclass.trans ((hclasses b).trans (congrArg PowerMode.readiness hmode.symm))
  case room =>
    change (s.count _).filled
    rw [State.filled, hqueue, hoffered]
    exact hfilled.imp_right fun hroom => by omega

end Sys2Proof.Machine

namespace Sys2Proof
open Machine

/-- Settles O3: an event that is taken ends with `State.conclude`, which answers a next state only when every message is delivered and
then brings class, queue and link up to date; the others, and a microsecond, leave what an event before them has left. -/
theorem stepEndsItsEvent : Obligations.StepEndsItsEvent := by
  intro s t h ht
  obtain ⟨i, rest, -, ht⟩ | ⟨i, -, -, ht⟩ | rfl := step_next ht
  · exact exec_eventOver (s := { s with pending := rest }) h ht
  · exact exec_eventOver (s := s.unwithheld) h ht
  · exact State.tick_eventOver h

end Sys2Proof

/-! # The room of the outbound queue (O9)

The ledger of a part is what the invariant of the queue sees of it. Most operations leave the ledger as it is (the `_ledger`
lemmas); the others keep what is paid for, `Ledger.Kept` (the `_kept` lemmas), from which the events follow one by one. -/

namespace Sys2Proof.Machine

/-! ## The ledger of the queue -/

/-- What the invariant of the outbound queue sees of a part (R176): how many descriptors are queued and how many entries reserved,
for each command in a slot whether a link reset has ended it, for an inbound frame in progress whether its row has brought it, the
BAYS strap, and whether RESET is held. -/
structure Ledger where
  queued : Nat
  reserved : Nat
  slot : BayId → Option Bool
  device : Option Bool
  frame : Option Bool
  twoBays : Bool
  resetHeld : Bool

/-- Whether a link reset has ended the command of a slot, if it holds one. -/
def silence (slot : Option Cmd) : Option Bool := slot.map fun c => c.silent

/-- Whether an inbound frame in progress is held back after its row. -/
def Link.framed (l : Link) : Option Bool := l.inFrame.map fun f => f.due.isSome

/-- The part as the outbound queue sees it. -/
def State.ledger (s : State) : Ledger where
  queued := s.link.queue.length
  reserved := s.link.reservations
  slot b := silence (s.bay b).slot
  device := silence s.deviceSlot
  frame := s.link.framed
  twoBays := s.twoBays
  resetHeld := s.resetHeld

/-! ## Updates that the ledger does not see -/

@[simp] theorem State.modBay_ledger (s : State) (b : BayId) (f : Bay → Bay)
    (h : silence (f (s.bay b)).slot = silence (s.bay b).slot) : (s.modBay b f).ledger = s.ledger := by
  have hslot : (fun b' => silence ((s.modBay b f).bay b').slot) = fun b' => silence (s.bay b').slot :=
    funext fun b' => s.bay_modBay_keeps b b' f (fun x => silence x.slot) h
  simp [State.ledger, hslot]

theorem silence_map (slot : Option Cmd) (f : Cmd → Cmd) (h : ∀ c, (f c).silent = c.silent) :
    silence (slot.map f) = silence slot := by
  cases slot <;> simp [silence, h]

@[simp] theorem State.modLink_ledger (s : State) (f : Link → Link) (hq : (f s.link).queue.length = s.link.queue.length)
    (hr : (f s.link).reservations = s.link.reservations) (hf : (f s.link).framed = s.link.framed) :
    (s.modLink f).ledger = s.ledger := by
  simp only [State.ledger, State.modLink, hq, hr, hf]
  rfl

/-- Changes made one after another. -/
theorem State.foldl_ledger {α : Type} (f : State → α → State) (h : ∀ s x, (f s x).ledger = s.ledger) (l : List α) :
    ∀ s : State, (l.foldl f s).ledger = s.ledger := by
  induction l with
  | nil => exact fun _ => rfl
  | cons x rest ih => exact fun s => (ih _).trans (h s x)

section
variable (s : State) (b : BayId)

/-! ### Shared operations -/

@[simp] theorem State.modSpindle_ledger (f : Spindle → Spindle) : (s.modSpindle b f).ledger = s.ledger := by
  simp [State.modSpindle]
@[simp] theorem State.modPos_ledger (f : Positioner → Positioner) : (s.modPos b f).ledger = s.ledger := by simp [State.modPos]
@[simp] theorem State.modCart_ledger (f : Cartridge → Cartridge) : (s.modCart b f).ledger = s.ledger := by
  simp [State.modCart]
@[simp] theorem State.modTu_ledger (f : Translation → Translation) : (s.modTu b f).ledger = s.ledger := by simp [State.modTu]
@[simp] theorem State.modPower_ledger (f : Power → Power) : (s.modPower b f).ledger = s.ledger := by simp [State.modPower]
@[simp] theorem State.modCmd_ledger (f : Cmd → Cmd) (h : ∀ c, (f c).silent = c.silent) : (s.modCmd b f).ledger = s.ledger :=
  s.modBay_ledger b _ (silence_map _ f h)
@[simp] theorem State.modJob_ledger (f : Job → Job) : (s.modJob b f).ledger = s.ledger := by simp [State.modJob]
@[simp] theorem State.setJob_ledger (j : Option Job) : (s.setJob b j).ledger = s.ledger := by simp [State.setJob]
@[simp] theorem State.modChan_ledger (f : Channel → Channel) : (s.modChan f).ledger = s.ledger := (rfl)
@[simp] theorem State.tell_ledger (m : Signal) : (s.tell m).ledger = s.ledger := (rfl)
@[simp] theorem State.raise_ledger (k : AttnKind) (payload : Byte) : (s.raise b k payload).ledger = s.ledger := by
  simp [State.raise]
@[simp] theorem State.writeSense_ledger (command : Byte) (count : Nat) (r : CmdResult) :
    (s.writeSense b command count r).ledger = s.ledger := by
  simp [State.writeSense]
@[simp] theorem State.countRecovered_ledger : (s.countRecovered b).ledger = s.ledger := by simp [State.countRecovered]
@[simp] theorem State.modSlot_ledger (k : Nat) (f : SlotRec → SlotRec) : (s.modSlot k f).ledger = s.ledger := (rfl)
@[simp] theorem State.allocate_ledger (purpose : Purpose) (lba : Option Nat) :
    (s.allocate b purpose lba).ledger = s.ledger := (rfl)
@[simp] theorem State.freeSlot_ledger (k : Nat) : (s.freeSlot k).ledger = s.ledger := by
  fun_cases State.freeSlot s k <;> simp
@[simp] theorem State.freeWhere_ledger (p : SlotRec → Bool) : (s.freeWhere b p).ledger = s.ledger := (rfl)
@[simp] theorem State.restartIdleTimers_ledger : (s.restartIdleTimers b).ledger = s.ledger := by
  simp [State.restartIdleTimers]

@[simp] theorem State.countTry_ledger : (s.countTry b).ledger = s.ledger := by simp [State.countTry]

/-! ### The end of a command -/

@[simp] theorem State.releaseStaging_ledger (target : BayField) : (s.releaseStaging target).ledger = s.ledger := by
  unfold State.releaseStaging
  split <;> rfl

/-! ### The Positioner -/

@[simp] theorem State.jobLosesHeads_ledger : (s.jobLosesHeads b).ledger = s.ledger := by
  fun_cases State.jobLosesHeads s b <;> simp
@[simp] theorem State.answerUnloaded_ledger : (s.answerUnloaded b).ledger = s.ledger := by
  simp [State.answerUnloaded, apply_ite State.ledger]
@[simp] theorem State.enterActFault_ledger (d : ActDetail) : (s.enterActFault b d).ledger = s.ledger := by
  simp [State.enterActFault]
@[simp] theorem State.enterLoading_ledger : (s.enterLoading b).ledger = s.ledger := by simp [State.enterLoading]
@[simp] theorem State.loadFromParked_ledger (fresh : Bool) (seek : Option Track) :
    (s.loadFromParked b fresh seek).ledger = s.ledger := by
  fun_cases State.loadFromParked s b fresh seek <;> simp
@[simp] theorem State.holdSeek_ledger (t : Track) (owned : Bool) : (s.holdSeek b t owned).ledger = s.ledger := by
  fun_cases State.holdSeek s b t owned <;> simp +zetaDelta
@[simp] theorem State.enterPendingFault_ledger : (s.enterPendingFault b).ledger = s.ledger := by
  fun_cases State.enterPendingFault s b <;> simp
@[simp] theorem State.enterCalibrating_ledger : (s.enterCalibrating b).ledger = s.ledger := by
  simp [State.enterCalibrating]
@[simp] theorem State.recordSample_ledger (x : Sample) : (s.recordSample b x).ledger = s.ledger := by
  simp [State.recordSample]
@[simp] theorem State.loadingSample_ledger (x : Sample) : (s.loadingSample b x).ledger = s.ledger := by
  fun_cases State.loadingSample s b x <;> simp
@[simp] theorem State.seekingSample_ledger (x : Sample) : (s.seekingSample b x).ledger = s.ledger := by
  fun_cases State.seekingSample s b x <;> simp

/-! ### Blocks and reassigns -/

@[simp] theorem State.setReassign_ledger (r : Option Reassign) : (s.setReassign b r).ledger = s.ledger := by
  simp [State.setReassign]
@[simp] theorem State.changeTables_ledger (t : Tables) : (s.changeTables b t).ledger = s.ledger := by
  simp [State.changeTables]

/-! ### The Cartridge Handler and Bay Power Control -/

@[simp] theorem State.setMode_ledger (m : PowerMode) : (s.setMode b m).ledger = s.ledger := by simp [State.setMode]
@[simp] theorem State.leavePower_ledger : (s.leavePower b).ledger = s.ledger := by simp [State.leavePower]
@[simp] theorem State.endEntry_ledger : (s.endEntry b).ledger = s.ledger := by simp [State.endEntry]
@[simp] theorem State.ejectPhase_ledger (phase : EjectPhase) : (s.ejectPhase b phase).ledger = s.ledger := by
  simp [State.ejectPhase]
@[simp] theorem State.enterUnmounting_ledger : (s.enterUnmounting b).ledger = s.ledger := by
  simp [State.enterUnmounting, apply_ite State.ledger]
@[simp] theorem State.driveRelease_ledger : (s.driveRelease b).ledger = s.ledger := by simp [State.driveRelease]
@[simp] theorem State.unformatted_ledger (d : MountDetail) : (s.unformatted b d).ledger = s.ledger := by
  simp [State.unformatted]
@[simp] theorem State.startsWorking_ledger : (s.startsWorking b).ledger = s.ledger := by simp [State.startsWorking]
@[simp] theorem State.discard_ledger (cause : Byte) : (s.discard b cause).ledger = s.ledger := by
  fun_cases State.discard s b cause <;> simp
@[simp] theorem State.ejectDiscarded_ledger : (s.ejectDiscarded b).ledger = s.ledger := by simp [State.ejectDiscarded]
@[simp] theorem State.offerStartup_ledger : (s.offerStartup b).ledger = s.ledger := by
  fun_cases State.offerStartup s b <;> simp

/-! ### FORMAT -/

@[simp] theorem State.setFormat_ledger (f : Format) : (s.setFormat b f).ledger = s.ledger := by simp [State.setFormat]

/-! ### Stopped commands -/

@[simp] theorem State.detachEject_ledger : (s.detachEject b).ledger = s.ledger := by simp [State.detachEject]

/-! ### The Link Interface -/

@[simp] theorem State.modTarget_ledger (target : BayField) (f : Cmd → Cmd) (h : ∀ c, (f c).silent = c.silent) :
    (s.modTarget target f).ledger = s.ledger := by
  cases target with
  | bay b => exact s.modCmd_ledger b f h
  | device => simp only [State.modTarget, State.ledger, silence_map _ f h]; rfl
@[simp] theorem State.frameSpent_ledger : (s.frameSpent).ledger = s.ledger := (rfl)
@[simp] theorem State.stoppedLoadEnds_ledger : (s.stoppedLoadEnds b).ledger = s.ledger := by
  fun_cases State.stoppedLoadEnds s b <;> simp
/-- A byte more of the frame in progress. -/
theorem State.takeByte_ledger {f : InFrame} (hf : s.link.framed = some f.due.isSome) (x : LinkByte) (slot : Option Nat) :
    (s.takeByte f x slot).ledger = s.ledger :=
  s.modLink_ledger _ rfl rfl hf.symm
@[simp] theorem State.clearOut_ledger : (s.clearOut).ledger = s.ledger := (rfl)

/-! ### Acceptance and delivery -/

@[simp] theorem State.clearUnitChanged_ledger (r : CmdResult) : (s.clearUnitChanged b r).ledger = s.ledger := by
  fun_cases State.clearUnitChanged s b r <;> simp
@[simp] theorem State.openFormat_ledger (op : CmdOp) : (s.openFormat b op).ledger = s.ledger := by
  fun_cases State.openFormat s b op <;> simp
@[simp] theorem State.onSlotFreed_ledger : (s.onSlotFreed b).ledger = s.ledger := by
  simp only [State.onSlotFreed]
  (repeat' split) <;> simp
@[simp] theorem State.refreshReadiness_ledger : (s.refreshReadiness b).ledger = s.ledger := by
  fun_cases State.refreshReadiness s b <;> simp

/-! ### Cartridge events -/

@[simp] theorem State.openEject_ledger (source : EjectSource) (phase : EjectPhase) :
    (s.openEject b source phase).ledger = s.ledger := by
  simp [State.openEject]
@[simp] theorem State.cartridgeArrives_ledger : (s.cartridgeArrives b).ledger = s.ledger := by
  fun_cases State.cartridgeArrives s b <;> simp

/-! ### The Spindle Controller -/

@[simp] theorem State.grantAllowance_ledger : (s.grantAllowance b).ledger = s.ledger :=
  State.modSpindle_ledger { s with allowHolder := some b } b _
@[simp] theorem State.requestAllowance_ledger : (s.requestAllowance b).ledger = s.ledger := by
  fun_cases State.requestAllowance s b
  · simp
  · exact State.modSpindle_ledger { s with allowWaiter := some b } b _
@[simp] theorem State.releaseAllowance_ledger : (s.releaseAllowance b).ledger = s.ledger := by
  fun_cases State.releaseAllowance s b
  · rw [State.grantAllowance_ledger]; rfl
  all_goals rfl
@[simp] theorem State.withdrawAllowance_ledger : (s.withdrawAllowance b).ledger = s.ledger := by
  fun_cases State.withdrawAllowance s b <;> rfl
@[simp] theorem State.enterBraking_ledger : (s.enterBraking b).ledger = s.ledger := by simp [State.enterBraking]
@[simp] theorem State.enterStopped_ledger : (s.enterStopped b).ledger = s.ledger := by
  fun_cases State.enterStopped s b <;> exact s.modSpindle_ledger b _
@[simp] theorem State.enterAtSpeed_ledger : (s.enterAtSpeed b).ledger = s.ledger := by
  simp [State.enterAtSpeed, apply_ite State.ledger]
@[simp] theorem State.takeStart_ledger (k : PurgeKind) : (s.takeStart b k).ledger = s.ledger := by simp [State.takeStart]
@[simp] theorem State.startPending_ledger : (s.startPending b).ledger = s.ledger := by
  fun_cases State.startPending s b <;> simp
@[simp] theorem State.takeStartRequest_ledger (k : PurgeKind) : (s.takeStartRequest b k).ledger = s.ledger := by
  fun_cases State.takeStartRequest s b k <;> simp
@[simp] theorem State.startRequest_ledger (k : PurgeKind) : (s.startRequest b k).ledger = s.ledger := by
  simp [State.startRequest, apply_ite State.ledger]
@[simp] theorem State.endAccelerating_ledger : (s.endAccelerating b).ledger = s.ledger := by
  fun_cases State.endAccelerating s b <;> simp
@[simp] theorem State.endTowardSpeed_ledger : (s.endTowardSpeed b).ledger = s.ledger := by
  fun_cases State.endTowardSpeed s b <;> simp +zetaDelta

/-! ### Lock pulses and starts -/

@[simp] theorem State.enterSpinningUp_ledger : (s.enterSpinningUp b).ledger = s.ledger := by
  fun_cases State.enterSpinningUp s b <;> simp +zetaDelta
@[simp] theorem State.lockConfirmed_ledger : (s.lockConfirmed b).ledger = s.ledger := by
  fun_cases State.lockConfirmed s b <;> simp +zetaDelta
@[simp] theorem State.issueLock_ledger (attempts : Nat) : (s.issueLock b attempts).ledger = s.ledger := by
  fun_cases State.issueLock s b attempts <;> simp +zetaDelta
@[simp] theorem State.stepStartup_ledger : (s.stepStartup b).ledger = s.ledger := by
  fun_cases State.stepStartup s b <;> simp

/-! ## The Data Channel (R119 to R125) -/

@[simp] theorem State.grantChannel_ledger : (s.grantChannel b).ledger = s.ledger := by
  fun_cases State.grantChannel s b <;> simp
@[simp] theorem State.requestChannel_ledger : (s.requestChannel b).ledger = s.ledger := by
  fun_cases State.requestChannel s b <;> simp
@[simp] theorem State.releaseChannel_ledger : (s.releaseChannel b).ledger = s.ledger := by
  fun_cases State.releaseChannel s b <;> simp
@[simp] theorem State.withdrawChannel_ledger : (s.withdrawChannel b).ledger = s.ledger := by
  fun_cases State.withdrawChannel s b <;> simp
@[simp] theorem State.modVisit_ledger (f : Visit → Visit) : (s.modVisit f).ledger = s.ledger := (rfl)
@[simp] theorem State.endSector_ledger (m : Signal) : (s.endSector b m).ledger = s.ledger := (rfl)
@[simp] theorem State.afterFailedTry_ledger : (s.afterFailedTry b).ledger = s.ledger := by
  fun_cases State.afterFailedTry s b <;> simp +zetaDelta
@[simp] theorem State.slotBackToFull_ledger : (s.slotBackToFull b).ledger = s.ledger := by
  fun_cases State.slotBackToFull s b <;> simp
@[simp] theorem State.tearField_ledger : (s.tearField b).ledger = s.ledger := by
  fun_cases State.tearField s b <;> simp
@[simp] theorem State.leaveTrack_ledger : (s.leaveTrack b).ledger = s.ledger := by
  simp [State.leaveTrack, apply_ite State.ledger]
@[simp] theorem State.endProtected_ledger : (s.endProtected b).ledger = s.ledger := by simp [State.endProtected]
@[simp] theorem State.openGate_ledger (j : Job) : (s.openGate b j).ledger = s.ledger := by
  simp only [State.openGate]
  (repeat' split) <;> simp
@[simp] theorem State.openTrack_ledger (j : Job) : (s.openTrack b j).ledger = s.ledger := by
  fun_cases State.openTrack s b j <;> simp
@[simp] theorem State.channelSample_ledger (indexFlag : Bool) : (s.channelSample b indexFlag).ledger = s.ledger := by
  fun_cases State.channelSample s b indexFlag <;> simp +zetaDelta

/-! ## Operations above the Data Channel -/

/-! ### The end of a command -/

@[simp] theorem State.dropJob_ledger : (s.dropJob b).ledger = s.ledger := by
  fun_cases State.dropJob s b <;> simp +zetaDelta
@[simp] theorem State.dropCommandJob_ledger : (s.dropCommandJob b).ledger = s.ledger := by
  fun_cases State.dropCommandJob s b <;> simp

/-! ### The Positioner -/

@[simp] theorem State.enterUnloading_ledger (keep : Bool) : (s.enterUnloading b keep).ledger = s.ledger := by
  simp [State.enterUnloading, apply_ite State.ledger]
@[simp] theorem State.enterRetracting_ledger : (s.enterRetracting b).ledger = s.ledger := by simp [State.enterRetracting]
@[simp] theorem State.unloadOrder_ledger : (s.unloadOrder b).ledger = s.ledger := by
  fun_cases State.unloadOrder s b <;> simp +zetaDelta [apply_ite State.ledger]
@[simp] theorem State.retractOrder_ledger : (s.retractOrder b).ledger = s.ledger := by
  fun_cases State.retractOrder s b <;> simp
@[simp] theorem State.startSeek_ledger (t : Track) : (s.startSeek b t).ledger = s.ledger := by simp [State.startSeek]
@[simp] theorem State.startHeadChange_ledger (t : Track) : (s.startHeadChange b t).ledger = s.ledger := by
  simp [State.startHeadChange]
@[simp] theorem State.seekFromFollowing_ledger (t : Track) (owned : Bool) :
    (s.seekFromFollowing b t owned).ledger = s.ledger := by
  fun_cases State.seekFromFollowing s b t owned <;> simp +zetaDelta
@[simp] theorem State.seekOrder_ledger (t : Track) (owned : Bool) : (s.seekOrder b t owned).ledger = s.ledger := by
  fun_cases State.seekOrder s b t owned <;> simp
@[simp] theorem State.loadOrder_ledger (fresh : Bool) (seek : Option Track) :
    (s.loadOrder b fresh seek).ledger = s.ledger := by
  fun_cases State.loadOrder s b fresh seek <;> simp +zetaDelta
@[simp] theorem State.takeHeldLoad_ledger : (s.takeHeldLoad b).ledger = s.ledger := by
  fun_cases State.takeHeldLoad s b <;> simp
@[simp] theorem State.onParked_ledger : (s.onParked b).ledger = s.ledger := by
  fun_cases State.onParked s b <;> simp +zetaDelta [apply_ite State.ledger]
@[simp] theorem State.stepParked_ledger : (s.stepParked b).ledger = s.ledger := by
  fun_cases State.stepParked s b <;> simp
@[simp] theorem State.enterRecalibrating_ledger (givingUp : Bool) : (s.enterRecalibrating b givingUp).ledger = s.ledger := by
  simp [State.enterRecalibrating]
@[simp] theorem State.seekFailure_ledger (cause : SeekCause) : (s.seekFailure b cause).ledger = s.ledger := by
  simp [State.seekFailure]
@[simp] theorem State.takeHeldSeek_ledger : (s.takeHeldSeek b).ledger = s.ledger := by
  fun_cases State.takeHeldSeek s b <;> simp
@[simp] theorem State.enterFollowing_ledger (t : Track) (x : Sample) (failed : Bool) :
    (s.enterFollowing b t x failed).ledger = s.ledger := by
  simp only [State.enterFollowing]
  (repeat' split) <;> simp
@[simp] theorem State.recalibrated_ledger (x : Sample) : (s.recalibrated b x).ledger = s.ledger := by
  fun_cases State.recalibrated s b x <;> simp +zetaDelta
@[simp] theorem State.offCylinder_ledger : (s.offCylinder b).ledger = s.ledger := by simp [State.offCylinder]
@[simp] theorem State.lostServo_ledger : (s.lostServo b).ledger = s.ledger := by simp [State.lostServo]
@[simp] theorem State.loadFails_ledger (d : ActDetail) : (s.loadFails b d).ledger = s.ledger := by
  fun_cases State.loadFails s b d <;> simp +zetaDelta
@[simp] theorem State.closingSeek_ledger : (s.closingSeek b).ledger = s.ledger := by
  fun_cases State.closingSeek s b <;> simp
@[simp] theorem State.gainSample_ledger (x : Sample) : (s.gainSample b x).ledger = s.ledger := by
  fun_cases State.gainSample s b x <;> simp
@[simp] theorem State.biasSample_ledger (x : Sample) : (s.biasSample b x).ledger = s.ledger := by
  fun_cases State.biasSample s b x <;> simp
@[simp] theorem State.settlingSample_ledger (x : Sample) : (s.settlingSample b x).ledger = s.ledger := by
  fun_cases State.settlingSample s b x <;> simp +zetaDelta
@[simp] theorem State.followingSample_ledger (x : Sample) : (s.followingSample b x).ledger = s.ledger := by
  fun_cases State.followingSample s b x <;> simp +zetaDelta
@[simp] theorem State.actOnSample_ledger (x : Sample) : (s.actOnSample b x).ledger = s.ledger := by
  fun_cases State.actOnSample s b x <;> simp

/-! ### Blocks and reassigns -/

@[simp] theorem State.atTrackNow_ledger (j : Job) : (s.atTrackNow b j).ledger = s.ledger := by
  fun_cases State.atTrackNow s b j <;> simp +zetaDelta
@[simp] theorem State.approach_ledger (j : Job) : (s.approach b j).ledger = s.ledger := by
  fun_cases State.approach s b j <;> simp
@[simp] theorem State.takeBlock_ledger : (s.takeBlock b).ledger = s.ledger := by
  fun_cases State.takeBlock s b <;> simp
@[simp] theorem State.readAbandoned_ledger (r : Reassign) : (s.readAbandoned b r).ledger = s.ledger := by
  fun_cases State.readAbandoned s b r <;> simp

/-! ### Heads that leave -/

@[simp] theorem State.headsLeave_ledger : (s.headsLeave b).ledger = s.ledger := by
  fun_cases State.headsLeave s b <;> simp

/-! ### The Cartridge Handler and Bay Power Control -/

@[simp] theorem State.freeRecordSlots_ledger : (s.freeRecordSlots b).ledger = s.ledger := (rfl)
@[simp] theorem State.enterMounting_ledger : (s.enterMounting b).ledger = s.ledger := by simp [State.enterMounting]
@[simp] theorem State.mountWaits_ledger : (s.mountWaits b).ledger = s.ledger := by
  fun_cases State.mountWaits s b <;> simp +zetaDelta
@[simp] theorem State.mounted_ledger (t : Tables) : (s.mounted b t).ledger = s.ledger := by simp [State.mounted]
@[simp] theorem State.endMountRead_ledger (j : Job) (failed : Option MountDetail) :
    (s.endMountRead b j failed).ledger = s.ledger := by
  fun_cases State.endMountRead s b j failed <;> simp +zetaDelta
@[simp] theorem State.mountSector_ledger (j : Job) (r : SectorResult) : (s.mountSector b j r).ledger = s.ledger := by
  fun_cases State.mountSector s b j r <;> simp
@[simp] theorem State.standbyUnload_ledger : (s.standbyUnload b).ledger = s.ledger := by simp [State.standbyUnload]
@[simp] theorem State.dropFlush_ledger : (s.dropFlush b).ledger = s.ledger := by simp [State.dropFlush]
@[simp] theorem State.backToMounted_ledger : (s.backToMounted b).ledger = s.ledger := by simp [State.backToMounted]
@[simp] theorem State.buildFlush_ledger (f : Flush) (t : Tables) (slots : List Nat) :
    (s.buildFlush b f t slots).ledger = s.ledger := by
  simp only [State.buildFlush]
  rw [State.foldl_ledger _ fun s k => s.modSlot_ledger _ _, State.modBay_ledger _ _ _ rfl]

/-! ### FORMAT -/

@[simp] theorem State.formatTrack_ledger (f : Format) : (s.formatTrack b f).ledger = s.ledger := by
  simp [State.formatTrack]
@[simp] theorem State.formatBegin_ledger (f : Format) : (s.formatBegin b f).ledger = s.ledger := by
  simp [State.formatBegin]
@[simp] theorem State.formatRecord_ledger (f : Format) (d : Disposing) : (s.formatRecord b f d).ledger = s.ledger := by
  simp [State.formatRecord]
@[simp] theorem State.formatCertify_ledger (f : Format) (slots : List Nat) :
    (s.formatCertify b f slots).ledger = s.ledger := by
  rw [State.formatCertify, State.approach_ledger, State.setFormat_ledger,
    State.foldl_ledger _ fun s k => s.modSlot_ledger _ _]
@[simp] theorem State.buildFormat_ledger (t : Tables) (slots : List Nat) : (s.buildFormat t slots).ledger = s.ledger := by
  rw [State.buildFormat, State.foldl_ledger _ fun s k => s.modSlot_ledger _ _]

/-! ### The Link Interface -/

@[simp] theorem State.dropFrameSlot_ledger : (s.dropFrameSlot).ledger = s.ledger := by
  fun_cases State.dropFrameSlot s <;> simp
theorem State.strobed_ledger {f : InFrame} (hf : s.link.inFrame = some f) (x : LinkByte) :
    (s.strobed f x).ledger = s.ledger := by
  have hframed : s.link.framed = some f.due.isSome := by simp [Link.framed, hf]
  fun_cases State.strobed s f x
  · exact s.takeByte_ledger hframed x _
  · exact s.modLink_ledger _ rfl rfl hframed.symm
  · exact State.takeByte_ledger _ hframed x _
@[simp] theorem State.stepByte_ledger : s.stepByte.ledger = s.ledger := by
  fun_cases State.stepByte s
  case case1 hf _ _ => exact s.strobed_ledger hf _
  all_goals rfl

/-! ### Acceptance and delivery -/

@[simp] theorem State.buildImage_ledger (before : Nat) : (s.buildImage b before).ledger = s.ledger := by
  fun_cases State.buildImage s b before <;> simp
@[simp] theorem State.stepChannel_ledger : (s.stepChannel b).ledger = s.ledger := by
  fun_cases State.stepChannel s b <;> simp
@[simp] theorem State.reload_ledger (j : Job) : (s.reload b j).ledger = s.ledger := by
  fun_cases State.reload s b j <;> simp
@[simp] theorem State.onReady_ledger : (s.onReady b).ledger = s.ledger := by
  fun_cases State.onReady s b <;> simp
@[simp] theorem State.onSpeedLost_ledger : (s.onSpeedLost b).ledger = s.ledger := by
  fun_cases State.onSpeedLost s b <;> simp
@[simp] theorem State.waitForReady_ledger (j : Job) : (s.waitForReady b j).ledger = s.ledger := by
  fun_cases State.waitForReady s b j <;> simp
@[simp] theorem State.onLoadFailed_ledger : (s.onLoadFailed b).ledger = s.ledger := by
  fun_cases State.onLoadFailed s b <;> simp
@[simp] theorem State.reloadNow_ledger : (s.reloadNow b).ledger = s.ledger := by
  fun_cases State.reloadNow s b <;> simp
@[simp] theorem State.onSeekUnloaded_ledger : (s.onSeekUnloaded b).ledger = s.ledger := by
  fun_cases State.onSeekUnloaded s b <;> simp

/-! ### Cartridge events -/

@[simp] theorem State.cancelMount_ledger (source : EjectSource) : (s.cancelMount b source).ledger = s.ledger := by
  fun_cases State.cancelMount s b source <;> simp +zetaDelta
@[simp] theorem State.becomesProtected_ledger : (s.becomesProtected b).ledger = s.ledger := by
  fun_cases State.becomesProtected s b <;> simp +zetaDelta

/-! ### Data Channel events -/

@[simp] theorem State.idField_ledger (v : Visit) (j : Job) (x : IdField) : (s.idField v j x).ledger = s.ledger := by
  fun_cases State.idField s v j x <;> simp +zetaDelta
@[simp] theorem State.deliverSector_ledger (j : Job) (ecc : EccClass) (data : List Byte) :
    (s.deliverSector b j ecc data).ledger = s.ledger := by
  simp only [State.deliverSector]
  (repeat' split) <;> simp
@[simp] theorem State.fillCertSlot_ledger (j : Job) (ecc : EccClass) (data : List Byte) :
    (s.fillCertSlot b j ecc data).ledger = s.ledger := by
  fun_cases State.fillCertSlot s b j ecc data <;> simp
@[simp] theorem State.fieldClassed_ledger (j : Job) (ecc : EccClass) (data : List Byte) :
    (s.fieldClassed b j ecc data).ledger = s.ledger := by
  fun_cases State.fieldClassed s b j ecc data <;> simp +zetaDelta
@[simp] theorem State.fieldWritten_ledger (j : Job) : (s.fieldWritten b j).ledger = s.ledger := by
  simp only [State.fieldWritten]
  (repeat' split) <;> simp
@[simp] theorem State.trackPut_ledger : (s.trackPut b).ledger = s.ledger := (rfl)

/-! ### Positioner events -/

@[simp] theorem State.takeSample_ledger (w : ServoWord) : (s.takeSample b w).ledger = s.ledger := by
  simp [State.takeSample]
@[simp] theorem State.recalibrationFails_ledger : (s.recalibrationFails b).ledger = s.ledger := by
  fun_cases State.recalibrationFails s b <;> simp
@[simp] theorem State.parkSensor_ledger (parked : Bool) : (s.parkSensor b parked).ledger = s.ledger := by
  fun_cases State.parkSensor s b parked <;> simp +zetaDelta

/-! ### Idle timers, slots of an operation, ABORT and the link reset -/

@[simp] theorem State.unloadTimerExpires_ledger : (s.unloadTimerExpires b).ledger = s.ledger := by
  fun_cases State.unloadTimerExpires s b <;> simp +zetaDelta
@[simp] theorem State.fillSlots_ledger (n : Nat) (s : State) (b : BayId) : (State.fillSlots n s b).ledger = s.ledger := by
  induction n generalizing s with
  | zero => rfl
  | succ n ih =>
    unfold State.fillSlots
    split
    · split <;> simp [ih]
    · rfl

/-! ### Starts and stops -/

@[simp] theorem State.takeStopRequest_ledger : (s.takeStopRequest b).ledger = s.ledger := by
  fun_cases State.takeStopRequest s b <;> simp
@[simp] theorem State.stopRequest_ledger : (s.stopRequest b).ledger = s.ledger := by
  simp [State.stopRequest, apply_ite State.ledger]
@[simp] theorem State.enterSpinFailed_ledger (d : SpinDetail) : (s.enterSpinFailed b d).ledger = s.ledger := by
  simp [State.enterSpinFailed]

/-! ### Index edges -/

@[simp] theorem State.enterSpeedFault_ledger : (s.enterSpeedFault b).ledger = s.ledger := by
  simp [State.enterSpeedFault]
@[simp] theorem State.endAtSpeed_ledger : (s.endAtSpeed b).ledger = s.ledger := by
  fun_cases State.endAtSpeed s b <;> simp +zetaDelta
@[simp] theorem State.endRevolution_ledger : (s.endRevolution b).ledger = s.ledger := by
  fun_cases State.endRevolution s b <;> simp
@[simp] theorem State.takeEdge_ledger (elapsed : Nat) : (s.takeEdge b elapsed).ledger = s.ledger := by
  have hended : ((s.modSpindle b fun x => (x.measured elapsed).edgeTimers).endRevolution b).ledger = s.ledger := by simp
  simp only [State.takeEdge]
  (repeat' split) <;> simp [hended]

/-! ### Standby entries, wakes and flushes -/

@[simp] theorem State.standbyBrake_ledger : (s.standbyBrake b).ledger = s.ledger := by
  simp [State.standbyBrake]
@[simp] theorem State.beginWake_ledger (waiting : Bool) : (s.beginWake b waiting).ledger = s.ledger := by
  simp only [State.beginWake]
  (repeat' split) <;> simp
@[simp] theorem State.waitForWake_ledger : (s.waitForWake b).ledger = s.ledger := by
  fun_cases State.waitForWake s b <;> simp +zetaDelta
@[simp] theorem State.endEntryFor_ledger (c : Cmd) : (s.endEntryFor b c).ledger = s.ledger := by
  fun_cases State.endEntryFor s b c <;> simp +zetaDelta
@[simp] theorem State.startFlush_ledger (requester : FlushFor) (caps : Caps) :
    (s.startFlush b requester caps).ledger = s.ledger := by
  fun_cases State.startFlush s b requester caps <;> simp +zetaDelta
@[simp] theorem State.flushCommand_ledger (c : Cmd) : (s.flushCommand b c).ledger = s.ledger := by
  fun_cases State.flushCommand s b c <;> simp +zetaDelta
@[simp] theorem State.enterStandby_ledger (source : EntrySource) : (s.enterStandby b source).ledger = s.ledger := by
  fun_cases State.enterStandby s b source <;> simp +zetaDelta
@[simp] theorem State.standbyTimerExpires_ledger : (s.standbyTimerExpires b).ledger = s.ledger := by
  simp [State.standbyTimerExpires]

end

end Sys2Proof.Machine

namespace Sys2Proof.Machine

/-! ## The entries that are paid for -/

/-- What has not been paid for in the middle of an event: the commands of the bays that a link reset has still to end, whose
reservations are gone already (R179), and the inbound frame that is being worked on, whose entries are given back before what it
queues (R176). -/
structure Unpaid where
  bays : List BayId
  frame : Bool

/-- Between events everything is paid for. -/
def Unpaid.nothing : Unpaid := ⟨[], false⟩

/-- The entry of a command that still owes its STATUS (R176). -/
def share : Option Bool → Nat
  | some false => 1
  | some true | none => 0

theorem slotShare_eq_share (slot : Option Cmd) : slotShare slot = share (silence slot) := by
  rcases slot with _ | c
  · rfl
  · cases hc : c.silent <;> simp [slotShare, silence, share, hc]

/-- What is reserved for the command of a bay. -/
def bayShare (p : Unpaid) (slot : BayId → Option Bool) (b : BayId) : Nat := if b ∈ p.bays then 0 else share (slot b)

/-- What is reserved for the commands of both bays. -/
def bayShares (p : Unpaid) (slot : BayId → Option Bool) : Nat := bayShare p slot .bayA + bayShare p slot .bayB

/-- What is reserved for an inbound frame; one that is held back keeps its entries. -/
def frameShare (p : Unpaid) : Option Bool → Nat
  | some held => if p.frame && !held then 0 else 2
  | none => 0

/-- Descriptors and reservations never total more than the queue's entries, what is paid for is reserved, and an absent bay holds no
command (`State.queueKept`). -/
structure Ledger.Kept (p : Unpaid) (v : Ledger) : Prop where
  room : v.queued + v.reserved ≤ Config.queueEntries
  paid : v.reserved = bayShares p v.slot + share v.device + frameShare p v.frame
  absent : v.twoBays = false → v.slot .bayB = none

theorem State.owed_eq (s : State) :
    s.owed = bayShares .nothing s.ledger.slot + share s.ledger.device + frameShare .nothing s.ledger.frame := by
  have hframe : (if s.link.inFrame.isSome then 2 else 0) = frameShare .nothing s.ledger.frame := by
    cases hf : s.link.inFrame <;> simp [frameShare, Unpaid.nothing, State.ledger, Link.framed, hf]
  rw [State.owed, hframe, slotShare_eq_share, slotShare_eq_share, slotShare_eq_share]
  rfl

/-- The invariant of the queue is kept while everything is paid for, or, under RESET, while there is room. -/
theorem State.queueKept_iff (s : State) : s.queueKept ↔
    s.ledger.queued + s.ledger.reserved ≤ Config.queueEntries ∧ (s.ledger.resetHeld = false → s.ledger.Kept .nothing) ∧
      (s.ledger.twoBays = false → s.ledger.slot .bayB = none) := by
  have habsent : s.bayB.slot = none ↔ s.ledger.slot .bayB = none := Option.map_eq_none_iff.symm
  simp only [State.queueKept, habsent, State.owed_eq]
  exact ⟨fun ⟨hroom, hpaid, ha⟩ => ⟨hroom, fun hr => ⟨hroom, hpaid hr, ha⟩, ha⟩,
    fun ⟨hroom, hkept, ha⟩ => ⟨hroom, fun hr => (hkept hr).paid, ha⟩⟩

theorem Ledger.Kept.queueKept {s : State} (h : s.ledger.Kept .nothing) : s.queueKept :=
  s.queueKept_iff.2 ⟨h.room, fun _ => h, h.absent⟩

theorem State.queueKept.kept {s : State} (h : s.queueKept) (hr : s.resetHeld = false) : s.ledger.Kept .nothing :=
  (s.queueKept_iff.1 h).2.1 hr

/-! ## Changes of a ledger that is kept -/

/-- The slot of a bay changes. -/
def Ledger.withSlot (v : Ledger) (b : BayId) (x : Option Bool) : Ledger := { v with slot := Function.update v.slot b x }

/-- The slot for the commands aimed at DEVICE changes. -/
def Ledger.withDevice (v : Ledger) (x : Option Bool) : Ledger := { v with device := x }

/-- An inbound frame begins, is held back or is over. -/
def Ledger.withFrame (v : Ledger) (x : Option Bool) : Ledger := { v with frame := x }

/-- A descriptor joins the queue. -/
def Ledger.queue (v : Ledger) : Ledger := { v with queued := v.queued + 1 }

/-- Entries are reserved. -/
def Ledger.reserve (v : Ledger) (n : Nat) : Ledger := { v with reserved := v.reserved + n }

/-- Reservations are given back. -/
def Ledger.release (v : Ledger) (n : Nat) : Ledger := { v with reserved := v.reserved - n }

section
variable {p : Unpaid} {v : Ledger} (h : v.Kept p)
include h

/-- Descriptors join or leave the queue. -/
theorem Ledger.Kept.requeued {n : Nat} (hn : n + v.reserved ≤ Config.queueEntries) : { v with queued := n }.Kept p :=
  ⟨hn, h.paid, h.absent⟩

/-- DEVICE's command that a link reset has ended leaves its slot, with no STATUS (R179). -/
theorem Ledger.Kept.deviceEndsSilently (hslot : v.device = some true) : (v.withDevice none).Kept p :=
  ⟨h.room, by simpa [hslot, share, Ledger.withDevice] using h.paid, h.absent⟩

/-- DEVICE's command leaves its slot, and its STATUS takes the entry that was reserved (R176). -/
theorem Ledger.Kept.deviceEnds (hslot : v.device = some false) : ((v.withDevice none).queue.release 1).Kept p := by
  have hpaid := h.paid
  have hroom := h.room
  simp only [hslot, share] at hpaid
  exact ⟨by simp only [Ledger.withDevice, Ledger.queue, Ledger.release]; omega,
    by simp only [Ledger.withDevice, Ledger.queue, Ledger.release, share]; omega, h.absent⟩

/-- A command takes DEVICE's free slot, and an entry is reserved for its STATUS (R176). -/
theorem Ledger.Kept.deviceTaken (hslot : v.device = none) (hroom : v.queued + v.reserved < Config.queueEntries) :
    ((v.withDevice (some false)).reserve 1).Kept p := by
  have hpaid := h.paid
  simp only [hslot, share] at hpaid
  exact ⟨hroom, by simp only [Ledger.withDevice, Ledger.reserve, share]; omega, h.absent⟩

/-- An inbound frame for which nothing is reserved takes its two entries (R176). -/
theorem Ledger.Kept.frameTakes (hframe : frameShare p v.frame = 0) {x : Option Bool} (hx : frameShare p x = 2)
    (hroom : v.queued + v.reserved ≤ Config.frameStartRoom) : ((v.withFrame x).reserve 2).Kept p := by
  have hpaid := h.paid
  simp only [Config.frameStartRoom] at hroom
  exact ⟨by simp only [Ledger.withFrame, Ledger.reserve, Config.queueEntries]; omega,
    by simp only [Ledger.withFrame, Ledger.reserve]; omega, h.absent⟩

/-- An inbound frame gives its two entries back, and is over or still to be worked on (R176). -/
theorem Ledger.Kept.frameGives {q : Unpaid} (hq : q.bays = p.bays) (hframe : frameShare p v.frame = 2) {x : Option Bool}
    (hx : frameShare q x = 0) : ((v.withFrame x).release 2).Kept q := by
  have hpaid := h.paid
  have hroom := h.room
  have hbays : bayShares q v.slot = bayShares p v.slot := by simp only [bayShares, bayShare, hq]
  exact ⟨by simp only [Ledger.withFrame, Ledger.release]; omega,
    by simp only [Ledger.withFrame, Ledger.release]; omega, h.absent⟩

/-- A frame for which nothing is left to pay is over, or is paid for as it stands. -/
theorem Ledger.Kept.framePaid {q : Unpaid} (hq : q.bays = p.bays) {x : Option Bool}
    (hx : frameShare q x = frameShare p v.frame) : (v.withFrame x).Kept q := by
  have hbays : bayShares q v.slot = bayShares p v.slot := by simp only [bayShares, bayShare, hq]
  exact ⟨h.room, by simpa only [Ledger.withFrame, hbays, hx] using h.paid, h.absent⟩

variable {b : BayId} (hb : b ∉ p.bays)
include hb

omit h in
/-- A slot that changes, beside what is reserved for all else. -/
theorem bayShares_update (slot : BayId → Option Bool) (x : Option Bool) :
    bayShares p (Function.update slot b x) + share (slot b) = bayShares p slot + share x := by
  cases b <;> simp [bayShares, bayShare, Function.update, hb] <;> omega

omit hb in
/-- A slot that is left. -/
theorem Ledger.Kept.absent_left (htwo : v.twoBays = false) : (v.withSlot b none).slot .bayB = none := by
  have := h.absent htwo
  cases b <;> simp [Ledger.withSlot, Function.update, this]

/-- A command that a link reset has ended leaves its slot, with no STATUS (R179). -/
theorem Ledger.Kept.endsSilently (hslot : v.slot b = some true) : (v.withSlot b none).Kept p := by
  have hshare := bayShares_update hb v.slot none
  rw [hslot, show share (some true) = share none from rfl, Nat.add_right_cancel_iff] at hshare
  exact ⟨h.room, hshare ▸ h.paid, h.absent_left⟩

/-- A command leaves its slot, and its STATUS takes the entry that was reserved (R176). -/
theorem Ledger.Kept.ends (hslot : v.slot b = some false) : ((v.withSlot b none).queue.release 1).Kept p := by
  have hshare : bayShares p (Function.update v.slot b none) + 1 = bayShares p v.slot := by
    have := bayShares_update hb v.slot none
    rwa [hslot] at this
  have hpaid := h.paid
  have hroom := h.room
  exact ⟨by simp only [Ledger.withSlot, Ledger.queue, Ledger.release]; omega,
    by simp only [Ledger.withSlot, Ledger.queue, Ledger.release]; omega, h.absent_left⟩

/-- A command takes a free slot, and an entry is reserved for its STATUS (R176). -/
theorem Ledger.Kept.taken (hslot : v.slot b = none) (hroom : v.queued + v.reserved < Config.queueEntries)
    (hpresent : b = .bayB → v.twoBays = true) : ((v.withSlot b (some false)).reserve 1).Kept p := by
  have hshare : bayShares p (Function.update v.slot b (some false)) = bayShares p v.slot + 1 := by
    have := bayShares_update hb v.slot (some false)
    rwa [hslot] at this
  have hpaid := h.paid
  refine ⟨hroom, by simp only [Ledger.withSlot, Ledger.reserve]; omega, fun (htwo : v.twoBays = false) => ?_⟩
  have := h.absent htwo
  cases b with
  | bayA => simpa [Ledger.withSlot, Ledger.reserve, Function.update] using this
  | bayB => simp [hpresent rfl] at htwo

omit h hb in
/-- A link reset ends the command of a bay: its STATUS is owed no more (R179). -/
theorem Ledger.Kept.silenced {bays : List BayId} {frame : Bool} (h : v.Kept ⟨b :: bays, frame⟩) (hb : b ∉ bays) {x : Option Bool}
    (hx : share x = 0) (habsent : v.slot b = none → x = none) : (v.withSlot b x).Kept ⟨bays, frame⟩ := by
  refine ⟨h.room, h.paid.trans ?_, fun htwo => ?_⟩
  · cases b <;> simp [bayShares, bayShare, Ledger.withSlot, Function.update, hb, hx, frameShare]
  · have := h.absent htwo
    cases b with
    | bayA => simpa [Ledger.withSlot, Function.update] using this
    | bayB => simpa [Ledger.withSlot, Function.update] using habsent this

end

end Sys2Proof.Machine

namespace Sys2Proof.Machine

/-! ## Updates that change the ledger -/

theorem State.modBay_slot_ledger (s : State) (b : BayId) (f : Bay → Bay) :
    (s.modBay b f).ledger = s.ledger.withSlot b (silence (f (s.bay b)).slot) := by
  have hslot : (fun b' => silence ((s.modBay b f).bay b').slot) =
      Function.update (fun b' => silence (s.bay b').slot) b (silence (f (s.bay b)).slot) := by
    funext b'
    by_cases hb : b' = b
    · subst hb; simp
    · rw [Function.update_of_ne hb, State.bay_modBay_ne s hb]
  simp [State.ledger, Ledger.withSlot, hslot]

section
variable (s : State) (b : BayId)

theorem State.enqueue_ledger (d : Desc) : (s.enqueue d).ledger = s.ledger.queue := by
  simp only [State.ledger, State.enqueue, State.modLink, List.length_append, List.length_singleton]
  rfl

theorem State.answer_ledger (target : BayField) (c : Completion) (d : Detail) (code : Byte) :
    (s.answer target c d code).ledger = s.ledger.queue := s.enqueue_ledger _

theorem State.refuse_ledger (code : Byte) (r : CmdResult) : (s.refuse b code r).ledger = s.ledger.queue := by
  simp [State.refuse, State.enqueue_ledger, apply_ite State.ledger]

/-- A STATUS takes the entry that was reserved for it (R176). -/
theorem State.enqueue_reserved_ledger (d : Desc) :
    ((s.enqueue d).modLink fun l => { l with reservations := l.reservations - 1 }).ledger = s.ledger.queue.release 1 :=
  congrArg (fun v : Ledger => v.release 1) (s.enqueue_ledger d)

theorem State.takeSlot_ledger (c : Cmd) : (s.takeSlot b c).ledger = (s.ledger.withSlot b (some c.silent)).reserve 1 :=
  congrArg (fun v : Ledger => v.reserve 1) (s.modBay_slot_ledger b fun x => { x with slot := some c })

end

section
variable {p : Unpaid} {s : State} (h : s.ledger.Kept p)
include h

@[simp] theorem State.joinPending_kept : s.joinPending.ledger.Kept p := by
  refine h.requeued (n := s.joinPending.link.queue.length) ?_
  have hroom : s.link.queue.length + s.link.reservations ≤ Config.queueEntries := h.room
  simp only [State.joinPending, State.modLink, joinOffered_eq, List.length_append, List.length_take, State.ledger,
    Config.queueEntries, Config.dataInRoom] at hroom ⊢
  omega
@[simp] theorem State.offer_kept (d : Desc) : (s.offer d).ledger.Kept p := State.joinPending_kept (s := s.modLink _) h
@[simp] theorem State.dropDescs_kept (q : Desc → Bool) : (s.dropDescs q).ledger.Kept p :=
  h.requeued (n := (s.link.queue.filter fun d => !q d).length)
    ((Nat.add_le_add_right (List.length_filter_le ..) _).trans h.room)
@[simp] theorem State.dropReports_kept (target : BayField) : (s.dropReports target).ledger.Kept p := State.dropDescs_kept h _
@[simp] theorem State.ite_kept {t : State} (ht : t.ledger.Kept p) (c : Prop) [Decidable c] :
    (if c then s else t).ledger.Kept p := by
  split <;> assumption

/-- DEVICE's command ends, with its STATUS in its reservation (R176, R187). -/
@[simp] theorem State.finishDevice_kept (c : Completion) (d : Detail) : (s.finishDevice c d).ledger.Kept p := by
  have hdropped := State.dropReports_kept h .device
  fun_cases State.finishDevice s c d
  case case1 => exact h
  all_goals
    rename_i cmd hslot s1 hc
    have hsilent : (s.dropReports .device).ledger.device = some cmd.silent := congrArg silence hslot
    have hfreed : s1.ledger = (s.dropReports .device).ledger.withDevice none := State.releaseStaging_ledger _ _
  · exact hfreed ▸ hdropped.deviceEndsSilently (hsilent.trans (congrArg some hc))
  · rw [State.enqueue_reserved_ledger, hfreed]
    exact hdropped.deviceEnds (hsilent.trans (congrArg some (Bool.eq_false_iff.2 hc)))

variable {b : BayId} (hb : b ∉ p.bays)
include hb

/-- A command takes the free slot of a present bay (R175, R176). -/
theorem State.takeSlot_kept (hpresent : ¬ (!s.bayPresent b) = true) (hslot : ¬ (s.bay b).slot.isSome = true)
    (hroom : s.ledger.queued + s.ledger.reserved ≤ Config.frameStartRoom) {c : Cmd} (hc : c.silent = false := by rfl) :
    (s.takeSlot b c).ledger.Kept p := by
  rw [State.takeSlot_ledger, hc]
  refine h.taken hb ?_ (Nat.lt_of_le_of_lt hroom (by decide)) fun hbay => ?_
  · simp [State.ledger, Option.not_isSome_iff_eq_none.1 hslot, silence]
  · subst hbay
    exact (by simpa using hpresent : s.bayPresent .bayB = true)

/-- The STATUS of a bay's command is queued into its reservation (R133, R176). -/
@[simp] theorem State.postStatus_kept (r : CmdResult) : (s.postStatus b r).ledger.Kept p := by
  fun_cases State.postStatus s b r
  case case1 => exact h
  case case2 c hslot s1 s2 =>
    have hsilent : s.ledger.slot b = some c.silent := by simp [State.ledger, silence, hslot]
    have hfreed : s1.ledger = s.ledger.withSlot b none := s.modBay_slot_ledger b _
    have hposted : s2.ledger.Kept p := by
      unfold s2
      split
      next hc => exact hfreed ▸ h.endsSilently hb (hsilent.trans (congrArg some hc))
      next hc =>
        rw [State.enqueue_reserved_ledger, hfreed]
        exact h.ends hb (hsilent.trans (congrArg some (Bool.eq_false_iff.2 hc)))
    simp [hposted]

end
end Sys2Proof.Machine

namespace Sys2Proof.Machine

section
variable {p : Unpaid} {s : State} (h : s.ledger.Kept p)
include h

/-! ## What the operations keep -/

/-! ### Frames that begin -/

/-- A frame that begins leaves the place of its descriptor (R177). -/
@[simp] theorem State.beginFrame_kept : s.beginFrame.ledger.Kept p := by
  cases hqueue : s.link.queue with
  | cons d rest =>
    have hleft : ({ s.ledger with queued := rest.length } : Ledger).Kept p := by
      have hroom := h.room
      simp only [State.ledger, hqueue, List.length_cons] at hroom
      exact h.requeued (by simp only [State.ledger]; omega)
    simp only [State.beginFrame, hqueue]
    cases d <;> exact State.joinPending_kept (by exact hleft)
  | nil =>
    cases hnext : s.nextAttention with
    | some x => rw [State.beginFrame_attention hqueue hnext]; simpa [Link.framed] using h
    | none => rwa [State.beginFrame_idle hqueue hnext]
@[simp] theorem State.kick_kept : s.kick.ledger.Kept p := by
  fun_cases State.kick s <;> simp [h]
@[simp] theorem State.closeEvent_kept : s.closeEvent.ledger.Kept p := by simp [h, State.closeEvent]

/-! ### Reports (R41, R187) -/

theorem State.foldl_offer_kept {α : Type} (d : α → Desc) (l : List α) :
    (l.foldl (fun (s : State) x => s.offer (d x)) s).ledger.Kept p := by
  induction l generalizing s with
  | nil => exact h
  | cons x rest ih => exact ih (State.offer_kept h _)
@[simp] theorem State.offerReports_kept (target : BayField) (c : Cmd) : (s.offerReports target c).ledger.Kept p :=
  State.foldl_offer_kept (by simpa using h) _ _

/-! ### The end of a command -/

@[simp] theorem State.freeCommandSlots_kept (b : BayId) (c : Cmd) (r : CmdResult) : (s.freeCommandSlots b c r).ledger.Kept p := by
  have hlate : ∀ (t : State), (t.modLink fun l => { l with
      inFrame := l.inFrame.map fun f => { f with late := b :: f.late } }).ledger = t.ledger :=
    fun t => t.modLink_ledger _ rfl rfl (by simp [Link.framed, Function.comp_def])
  simp only [State.freeCommandSlots]
  (repeat' split) <;> simp [h, hlate]

end

section
variable {p : Unpaid} {s : State} (h : s.ledger.Kept p) {b : BayId} (hb : b ∉ p.bays)
include h hb

@[simp] theorem State.finishCmd_kept (r : CmdResult) : (s.finishCmd b r).ledger.Kept p := by
  fun_cases State.finishCmd s b r
  case case1 | case2 => exact h
  all_goals
    rename_i c hslot hresult s1 s2 s3 hwaits
    have hs2 : s2.ledger.Kept p := by simp [s2, s1, h]
    have hs3 : s3.ledger.Kept p := State.ite_kept hs2 (by simpa using hs2) _
  · simpa using hs3
  · exact State.postStatus_kept hs3 hb r
@[simp] theorem State.failCmd_kept (r : CmdResult) : (s.failCmd b r).ledger.Kept p := by
  fun_cases State.failCmd s b r <;> simp [h, hb]
@[simp] theorem State.readDrained_kept : (s.readDrained b).ledger.Kept p := by
  fun_cases State.readDrained s b <;> simp [h, hb]

/-! ### Blocks and reassigns -/

@[simp] theorem State.nextBlock_kept : (s.nextBlock b).ledger.Kept p := by
  fun_cases State.nextBlock s b <;> simp [h, hb]
@[simp] theorem State.blockGood_kept (c : Cmd) (j : Job) (recovered : Bool) :
    (s.blockGood b c j recovered).ledger.Kept p := by
  unfold State.blockGood
  extract_lets s1 s2
  have hs1 : s1.ledger.Kept p := by simpa [s1, Cmd.blockDone] using h
  have hs2 : s2.ledger.Kept p := by
    unfold s2
    split <;> simp [hs1]
  exact State.nextBlock_kept hs2 hb
@[simp] theorem State.blockFailed_kept (j : Job) (r : SectorResult) : (s.blockFailed b j r).ledger.Kept p := by
  simp [h, hb, State.blockFailed]
@[simp] theorem State.reassignFails_kept (r : Reassign) (code : Completion) :
    (s.reassignFails b r code).ledger.Kept p := by
  fun_cases State.reassignFails s b r code <;> simp [h, hb]
@[simp] theorem State.reassignEnds_kept (r : Reassign) (j : Job) (result : SectorResult) :
    (s.reassignEnds b r j result).ledger.Kept p := by
  simp [h, hb, State.reassignEnds]
@[simp] theorem State.reassignStopped_kept (r : Reassign) (cause : StopCause) :
    (s.reassignStopped b r cause).ledger.Kept p := by
  fun_cases State.reassignStopped s b r cause <;> simp [h, hb]
@[simp] theorem State.attemptSpare_kept (r : Reassign) : (s.attemptSpare b r).ledger.Kept p := by
  fun_cases State.attemptSpare s b r <;> simp [h, hb]
@[simp] theorem State.startReassign_kept (c : Cmd) : (s.startReassign b c).ledger.Kept p := by
  fun_cases State.startReassign s b c <;> simp [h, hb]
@[simp] theorem State.startAuto_kept (j : Job) : (s.startAuto b j).ledger.Kept p := by
  fun_cases State.startAuto s b j <;> simp [h, hb]
@[simp] theorem State.oldDataInHand_kept (r : Reassign) (zeros : Bool) :
    (s.oldDataInHand b r zeros).ledger.Kept p := by
  unfold State.oldDataInHand
  extract_lets s1 s2
  have hs2 : s2.ledger = s.ledger := by
    unfold s2
    rw [State.setReassign_ledger, State.setJob_ledger]
    exact s.modSlot_ledger _ _
  rw [← hs2] at h
  split
  · exact State.reassignStopped_kept h hb _ _
  · exact State.attemptSpare_kept h hb _
@[simp] theorem State.sparePlaced_kept (r : Reassign) (t : Tables) : (s.sparePlaced b r t).ledger.Kept p := by
  fun_cases State.sparePlaced s b r t <;> simp +zetaDelta [h, hb, Cmd.blockDone]
@[simp] theorem State.spareFailed_kept (r : Reassign) (t : Tables) : (s.spareFailed b r t).ledger.Kept p := by
  fun_cases State.spareFailed s b r t <;> simp +zetaDelta [h, hb]
@[simp] theorem State.spareResult_kept (r : Reassign) (j : Job) (result : SectorResult) :
    (s.spareResult b r j result).ledger.Kept p := by
  fun_cases State.spareResult s b r j result <;> simp [h, hb]
@[simp] theorem State.oldReadResult_kept (r : Reassign) (j : Job) (result : SectorResult) :
    (s.oldReadResult b r j result).ledger.Kept p := by
  fun_cases State.oldReadResult s b r j result <;> simp [h, hb]
@[simp] theorem State.blockResult_kept (j : Job) (r : SectorResult) : (s.blockResult b j r).ledger.Kept p := by
  fun_cases State.blockResult s b j r <;> simp [h, hb]

/-! ### The Cartridge Handler and Bay Power Control -/

@[simp] theorem State.ejectDone_kept : (s.ejectDone b).ledger.Kept p := by
  fun_cases State.ejectDone s b <;> simp +zetaDelta [h, hb]
@[simp] theorem State.releaseConfirmed_kept : (s.releaseConfirmed b).ledger.Kept p := by
  simp [h, hb, State.releaseConfirmed]
@[simp] theorem State.issueRelease_kept (attempts : Nat) : (s.issueRelease b attempts).ledger.Kept p := by
  fun_cases State.issueRelease s b attempts <;> simp +zetaDelta [h, hb]
@[simp] theorem State.standbyStopped_kept : (s.standbyStopped b).ledger.Kept p := by simp [h, hb, State.standbyStopped]
@[simp] theorem State.flushHalted_kept (f : Flush) : (s.flushHalted b f).ledger.Kept p := by
  fun_cases State.flushHalted s b f <;> simp +zetaDelta [h, hb]
@[simp] theorem State.faultCommand_kept (d : FaultDetail) (releasing : Bool) :
    (s.faultCommand b d releasing).ledger.Kept p := by
  fun_cases State.faultCommand s b d releasing <;> simp [h, hb]
@[simp] theorem State.removal_kept : (s.removal b).ledger.Kept p := by
  fun_cases State.removal s b <;> simp +zetaDelta [h, hb]
@[simp] theorem State.stepRelease_kept : (s.stepRelease b).ledger.Kept p := by
  fun_cases State.stepRelease s b <;> simp [h, hb]
@[simp] theorem State.stepFault_kept : (s.stepFault b).ledger.Kept p := by
  fun_cases State.stepFault s b <;> simp [h, hb]

/-! ### FORMAT -/

@[simp] theorem State.formatFails_kept (f : Format) (r : CmdResult) : (s.formatFails b f r).ledger.Kept p := by
  simp [h, hb, State.formatFails]
@[simp] theorem State.formatStopped_kept (f : Format) : (s.formatStopped b f).ledger.Kept p := by
  simp [h, hb, State.formatStopped]
@[simp] theorem State.formatDone_kept (t : Tables) : (s.formatDone b t).ledger.Kept p := by simp [h, hb, State.formatDone]
@[simp] theorem State.formatDispose_kept (f : Format) : (s.formatDispose b f).ledger.Kept p := by
  fun_cases State.formatDispose s b f <;> simp [h, hb]
@[simp] theorem State.trackWritten_kept (f : Format) : (s.trackWritten b f).ledger.Kept p := by
  fun_cases State.trackWritten s b f <;> simp +zetaDelta [h, hb]
@[simp] theorem State.certified_kept (f : Format) : (s.certified b f).ledger.Kept p := by simp [h, hb, State.certified]
@[simp] theorem State.nextCertRead_kept (f : Format) (j : Job) : (s.nextCertRead b f j).ledger.Kept p := by
  fun_cases State.nextCertRead s b f j <;> simp [h, hb]
@[simp] theorem State.certResult_kept (f : Format) (j : Job) (outcome : Option EccClass) :
    (s.certResult b f j outcome).ledger.Kept p := by
  fun_cases State.certResult s b f j outcome <;> simp [h, hb]
@[simp] theorem State.formatRecordSector_kept (f : Format) (j : Job) (r : SectorResult) :
    (s.formatRecordSector b f j r).ledger.Kept p := by
  fun_cases State.formatRecordSector s b f j r <;> simp [h, hb]
@[simp] theorem State.formatSector_kept (f : Format) (j : Job) (r : SectorResult) :
    (s.formatSector b f j r).ledger.Kept p := by
  fun_cases State.formatSector s b f j r <;> simp [h, hb]

/-! ### Stopped commands -/

@[simp] theorem State.endStopped_kept (c : Cmd) (cause : StopCause) : (s.endStopped b c cause).ledger.Kept p := by
  fun_cases State.endStopped s b c cause <;> simp [h, hb]
@[simp] theorem State.tryStop_kept : (s.tryStop b).ledger.Kept p := by
  fun_cases State.tryStop s b <;> simp [h, hb]
@[simp] theorem State.requestStop_kept (cause : StopCause) : (s.requestStop b cause).ledger.Kept p :=
  State.tryStop_kept (State.dropDescs_kept (by simpa using h) _) hb
@[simp] theorem State.haltFlush_kept : (s.haltFlush b).ledger.Kept p := by
  fun_cases State.haltFlush s b <;> simp [h, hb]
@[simp] theorem State.stopEjectFlush_kept : (s.stopEjectFlush b).ledger.Kept p := by
  fun_cases State.stopEjectFlush s b <;> simp [h, hb]
@[simp] theorem State.readLinkError_kept : (s.readLinkError b).ledger.Kept p := by
  fun_cases State.readLinkError s b <;> simp +zetaDelta [h, hb]
@[simp] theorem State.onCertified_kept (outcome : Option EccClass) : (s.onCertified b outcome).ledger.Kept p := by
  fun_cases State.onCertified s b outcome <;> simp [h, hb]

/-! ### Standby entries, flushes and faults -/

@[simp] theorem State.stepStandby_kept : (s.stepStandby b).ledger.Kept p := by
  fun_cases State.stepStandby s b <;> simp +zetaDelta [h, hb]
@[simp] theorem State.afterStandbyFlush_kept (failed : Option (Completion × SenseAddr)) :
    (s.afterStandbyFlush b failed).ledger.Kept p := by
  have hback : ∀ (c : Prop) [Decidable c] (m : PowerMode),
      (if c then ((s.endEntry b).setMode b .parkedIdle).unloadOrder b else (s.endEntry b).setMode b m).ledger = s.ledger := by
    simp [apply_ite State.ledger]
  fun_cases State.afterStandbyFlush s b failed <;> simp +zetaDelta [h, hb, hback]
@[simp] theorem State.flushFailed_kept (f : Flush) (r : Completion) (x : SenseAddr) :
    (s.flushFailed b f r x).ledger.Kept p := by
  fun_cases State.flushFailed s b f r x <;> simp +zetaDelta [h, hb]
@[simp] theorem State.flushSucceeded_kept (f : Flush) : (s.flushSucceeded b f).ledger.Kept p := by
  fun_cases State.flushSucceeded s b f <;> simp +zetaDelta [h, hb]
@[simp] theorem State.flushSector_kept (j : Job) (r : SectorResult) : (s.flushSector b j r).ledger.Kept p := by
  fun_cases State.flushSector s b j r <;> simp [h, hb]
@[simp] theorem State.stepUnmount_kept : (s.stepUnmount b).ledger.Kept p := by
  fun_cases State.stepUnmount s b <;> simp [h, hb]
@[simp] theorem State.bayFault_kept (d : FaultDetail) : (s.bayFault b d).ledger.Kept p := by
  fun_cases State.bayFault s b d <;> simp +zetaDelta [h, hb]
@[simp] theorem State.lockFault_kept : (s.lockFault b).ledger.Kept p := by simp [h, hb, State.lockFault]

/-! ### Commands that begin -/

@[simp] theorem State.beginWork_kept : (s.beginWork b).ledger.Kept p := by
  fun_cases State.beginWork s b <;> simp [h, hb]
@[simp] theorem State.takeInMode_kept (op : CmdOp) : (s.takeInMode b op).ledger.Kept p := by
  fun_cases State.takeInMode s b op <;> simp +zetaDelta [h, hb]
@[simp] theorem State.commandAccepted_kept (op : CmdOp) : (s.commandAccepted b op).ledger.Kept p := by
  fun_cases State.commandAccepted s b op <;> simp +zetaDelta [h, hb]
@[simp] theorem State.mountIsOver_kept : (s.mountIsOver b).ledger.Kept p := by
  fun_cases State.mountIsOver s b <;> simp [h, hb]
@[simp] theorem State.stepCommand_kept : (s.stepCommand b).ledger.Kept p := by
  fun_cases State.stepCommand s b <;> simp [h, hb]
@[simp] theorem State.stepCart_kept : (s.stepCart b).ledger.Kept p := by
  fun_cases State.stepCart s b <;> simp [h, hb]
@[simp] theorem State.wakeEnds_kept : (s.wakeEnds b).ledger.Kept p := by
  fun_cases State.wakeEnds s b <;> simp +zetaDelta [h, hb]
@[simp] theorem State.onLoaded_kept : (s.onLoaded b).ledger.Kept p := by
  simp only [State.onLoaded]
  (repeat' split) <;> simp [h, hb]
@[simp] theorem State.onSector_kept (r : SectorResult) : (s.onSector b r).ledger.Kept p := by
  fun_cases State.onSector s b r <;> simp [h, hb]

/-! ### Cartridge events -/

@[simp] theorem State.ejectAtOnce_kept (source : EjectSource) : (s.ejectAtOnce b source).ledger.Kept p := by
  fun_cases State.ejectAtOnce s b source <;> simp [h, hb]
@[simp] theorem State.ejectMounted_kept (source : EjectSource) : (s.ejectMounted b source).ledger.Kept p := by
  fun_cases State.ejectMounted s b source <;> simp [h, hb]
@[simp] theorem State.ejectUnformatted_kept (source : EjectSource) : (s.ejectUnformatted b source).ledger.Kept p := by
  fun_cases State.ejectUnformatted s b source <;> simp [h, hb]
@[simp] theorem State.takeEject_kept (source : EjectSource) : (s.takeEject b source).ledger.Kept p := by
  fun_cases State.takeEject s b source <;> simp [h, hb]
@[simp] theorem State.cartridgeLeaves_kept : (s.cartridgeLeaves b).ledger.Kept p := by
  fun_cases State.cartridgeLeaves s b <;> simp [h, hb]
@[simp] theorem State.lockOpens_kept : (s.lockOpens b).ledger.Kept p := by
  unfold State.lockOpens
  extract_lets s1
  have hretracts : s1.ledger.Kept p := State.ite_kept (by simpa using h) h _
  (repeat' split) <;> simp [hb, hretracts]
@[simp] theorem State.buttonPressed_kept : (s.buttonPressed b).ledger.Kept p := by
  fun_cases State.buttonPressed s b <;> simp [h, hb]
@[simp] theorem State.lockUnconfirmed_kept : (s.lockUnconfirmed b).ledger.Kept p := by
  fun_cases State.lockUnconfirmed s b <;> simp +zetaDelta [h, hb]
@[simp] theorem State.releaseUnconfirmed_kept : (s.releaseUnconfirmed b).ledger.Kept p := by
  fun_cases State.releaseUnconfirmed s b <;> simp +zetaDelta [h, hb]

end

end Sys2Proof.Machine

namespace Sys2Proof.Machine

/-! ## What works for both bays -/

section
variable {p : Unpaid} {s : State} (h : s.ledger.Kept p) (hall : ∀ b, b ∉ p.bays)
include h hall

/-! ### DATA-OUT frames and outbound frames -/

@[simp] theorem State.finishTarget_kept (target : BayField) (c : Completion) (d : Detail) :
    (s.finishTarget target c d).ledger.Kept p := by
  fun_cases State.finishTarget s target c d <;> simp [h, hall]
@[simp] theorem State.takeSectorFrame_kept (b : BayId) (c : Cmd) (declared : Nat) (payload : List LinkByte) (ended : Detail) :
    (s.takeSectorFrame b c declared payload ended).ledger.Kept p := by
  fun_cases State.takeSectorFrame s b c declared payload ended <;> simp [h, hall, apply_ite State.ledger]
@[simp] theorem State.imageComplete_kept (x : Staging) : (s.imageComplete x).ledger.Kept p := by
  have hdmt : ∀ d, ({ s with dmt := d } : State).ledger.Kept p := fun _ => h
  have hprofile : ∀ r, ({ s with profile := r } : State).ledger.Kept p := fun _ => h
  fun_cases State.imageComplete s x <;> simp [h, hall, hdmt, hprofile]
@[simp] theorem State.takeImageFrame_kept (x : Staging) (declared : Nat) (payload : List LinkByte) (ended : Detail) :
    (s.takeImageFrame x declared payload ended).ledger.Kept p := by
  have hstaging : ∀ y, ({ s with staging := y } : State).ledger.Kept p := fun _ => h
  fun_cases State.takeImageFrame s x declared payload ended <;> simp +zetaDelta [h, hall, hstaging]
@[simp] theorem State.takeLastFrame_kept (x : Staging) (declared : Nat) (payload : List LinkByte) (ended : Detail) :
    (s.takeLastFrame x declared payload ended).ledger.Kept p := by
  fun_cases State.takeLastFrame s x declared payload ended <;> simp [h, hall]
@[simp] theorem State.reportSent_kept (target : BayField) : (s.reportSent target).ledger.Kept p := by
  fun_cases State.reportSent s target <;> simp +zetaDelta [h, hall]
@[simp] theorem State.frameSent_kept (f : OutFrame) : (s.frameSent f).ledger.Kept p := by
  fun_cases State.frameSent s f
  case case1 => exact State.joinPending_kept (State.readDrained_kept (by simpa +zetaDelta using h) (hall _))
  all_goals simp +zetaDelta [h, hall]
@[simp] theorem State.abandonFrame_kept (f : OutFrame) : (s.abandonFrame f).ledger.Kept p := by
  fun_cases State.abandonFrame s f <;> simp +zetaDelta [h, hall]

/-! ### Frames held back -/

omit h hall in
theorem State.ledger_frame_held {x : HeldPayload} (hx : (s.link.inFrame.bind fun f => f.due) = some x) :
    s.ledger.frame = some true := by
  obtain ⟨f, hf, hdue⟩ := Option.bind_eq_some_iff.1 hx
  simp [State.ledger, Link.framed, hf, hdue]

omit h hall in
/-- A frame held back keeps its two entries (R176). -/
theorem frameShare_held (p : Unpaid) : frameShare p (some true) = 2 := by simp [frameShare]

omit hall in
/-- The first payload byte of a frame is held back, with the two entries that it takes again (R116, R176). -/
theorem State.holdFrame_kept (hframe : frameShare p s.ledger.frame = 0)
    (hroom : s.ledger.queued + s.ledger.reserved ≤ Config.frameStartRoom) (b : BayId) (declared : Nat) (payload : List LinkByte) :
    (s.holdFrame b declared payload).ledger.Kept p :=
  h.frameTakes hframe (frameShare_held p) hroom

omit hall in
/-- A frame held back is let go, with its two entries (R176). -/
theorem State.dropHeld_kept {x : HeldPayload} (hx : (s.link.inFrame.bind fun f => f.due) = some x) :
    s.dropHeld.ledger.Kept p :=
  h.frameGives (x := none) rfl (by rw [State.ledger_frame_held hx, frameShare_held]) rfl

@[simp] theorem State.cutHeld_kept : s.cutHeld.ledger.Kept p := by
  fun_cases State.cutHeld s
  case case1 => exact h
  case case2 hx _ _ _ => exact State.takeSectorFrame_kept (State.dropHeld_kept h hx) hall ..
  all_goals exact State.dropHeld_kept h ‹_›
@[simp] theorem State.stepHeld_kept (b : BayId) : (s.stepHeld b).ledger.Kept p := by
  fun_cases State.stepHeld s b
  case case1 => simpa using h
  case case2 | case3 => exact h
  case case4 hx _ _ _ _ _ => exact State.takeSectorFrame_kept (State.dropHeld_kept h hx) hall ..
  all_goals exact State.dropHeld_kept h ‹_›

/-! ### Messages and the end of an event -/

@[simp] theorem State.goOn_kept (b : BayId) : (s.goOn b).ledger.Kept p := by
  have hwork := State.stepCommand_kept (State.stepHeld_kept (s := s.stepParked b) (by simpa using h) hall b) (hall b)
  exact State.stepCart_kept (State.stepStandby_kept (by simpa using hwork) (hall b)) (hall b)
theorem State.deliver_kept (m : Signal) : (s.deliver m).ledger.Kept p := by
  fun_cases State.deliver s m <;> simp [h, hall]

omit h in
theorem settle_kept (n : Nat) : ∀ {s : State}, s.ledger.Kept p → (settle n s).ledger.Kept p := by
  induction n with
  | zero => exact id
  | succ n ih =>
    intro s h
    unfold settle
    split
    · exact h
    next m rest _ => exact ih (State.deliver_kept (s := { s with signals := rest }) h hall m)

/-- The end of an event delivers its messages and lets the link begin a frame. -/
theorem State.conclude_kept {t : State} (ht : s.conclude = .next t) : t.ledger.Kept p := by
  rcases State.conclude_next ht with ⟨-, rfl⟩ | ⟨-, -, rfl⟩
  · exact h
  · exact State.closeEvent_kept (settle_kept hall _ h)

end

/-! ## Frames of the host adapter -/

section
variable {p : Unpaid} {s : State} (h : s.ledger.Kept p) (hall : ∀ b, b ∉ p.bays)
  (hroom : s.ledger.queued + s.ledger.reserved ≤ Config.frameStartRoom)
include h hroom

/-! ### Answers -/

omit s h hroom in
theorem Ledger.Kept.queue {v : Ledger} (h : v.Kept p) (hroom : v.queued + v.reserved < Config.queueEntries) : v.queue.Kept p :=
  h.requeued (n := v.queued + 1) (by omega)

omit h in
theorem State.room_one : s.ledger.queued + s.ledger.reserved < Config.queueEntries := Nat.lt_of_le_of_lt hroom (by decide)

@[simp] theorem State.answer_kept (target : BayField) (c : Completion) (d : Detail) (code : Byte) :
    (s.answer target c d code).ledger.Kept p := by
  rw [State.answer_ledger]
  exact h.queue (State.room_one hroom)
@[simp] theorem State.refuse_kept (b : BayId) (code : Byte) (r : CmdResult) : (s.refuse b code r).ledger.Kept p := by
  rw [State.refuse_ledger]
  exact h.queue (State.room_one hroom)

/-- A report in one frame, and its STATUS (R188, R189). -/
theorem State.enqueue_answer_kept (d : Desc) (target : BayField) (c : Completion) (x : Detail) (code : Byte) :
    ((s.enqueue d).answer target c x code).ledger.Kept p := by
  rw [State.answer_ledger, State.enqueue_ledger]
  refine (h.queue (State.room_one hroom)).queue ?_
  simp only [Config.frameStartRoom] at hroom
  simp only [Ledger.queue, Config.queueEntries]
  omega

/-! ### Commands that are answered at once -/

@[simp] theorem State.takePrevent_kept (b : BayId) : (s.takePrevent b).ledger.Kept p := by
  fun_cases State.takePrevent s b
  case case3 => exact State.answer_kept (by simpa using h) (by simpa using hroom) ..
  all_goals exact State.refuse_kept h hroom ..
@[simp] theorem State.takeAllow_kept (b : BayId) : (s.takeAllow b).ledger.Kept p := by
  fun_cases State.takeAllow s b
  · exact State.refuse_kept h hroom ..
  · exact State.answer_kept (by simpa using h) (by simpa using hroom) ..
@[simp] theorem State.takeRequestSense_kept (b : BayId) : (s.takeRequestSense b).ledger.Kept p := by
  fun_cases State.takeRequestSense s b
  · exact State.refuse_kept h hroom ..
  · simpa using State.enqueue_answer_kept h hroom ..
@[simp] theorem State.takePeek_kept (b : BayId) : (s.takePeek b).ledger.Kept p := by
  fun_cases State.takePeek s b
  · exact State.refuse_kept h hroom ..
  · exact State.enqueue_answer_kept h hroom ..

/-! ### Commands of a bay -/

include hall

@[simp] theorem State.takeEjectCommand_kept (b : BayId) (force : Bool) : (s.takeEjectCommand b force).ledger.Kept p := by
  fun_cases State.takeEjectCommand s b force
  case case5 | case6 =>
    have htaken := State.takeSlot_kept h (hall b) ‹_› ‹_› hroom (c := Cmd.fresh (.eject force) 0 0 s.dmt.caps)
    simp +zetaDelta [htaken, hall]
  all_goals exact State.refuse_kept h hroom ..
@[simp] theorem State.takeReportCartridge_kept (b : BayId) : (s.takeReportCartridge b).ledger.Kept p := by
  fun_cases State.takeReportCartridge s b
  case case3 => exact State.commandAccepted_kept (by simpa using State.takeSlot_kept h (hall b) ‹_› ‹_› hroom) (hall b) _
  all_goals exact State.refuse_kept h hroom ..

omit h hall hroom in
/-- A report of the installed tables is accepted from a present bay whose slot is free (R40, R41, R166). -/
theorem State.mountedRefusal_none {b : BayId} (hr : s.mountedRefusal b = none) :
    ¬ (!s.bayPresent b) = true ∧ ¬ (s.bay b).slot.isSome = true := by
  unfold State.mountedRefusal at hr
  split at hr
  · cases hr
  · split at hr
    · cases hr
    · exact ⟨‹_›, ‹_›⟩

@[simp] theorem State.tableReport_kept (b : BayId) (op : CmdOp) : (s.tableReport b op).ledger.Kept p := by
  fun_cases State.tableReport s b op
  case case1 => exact State.refuse_kept h hroom ..
  case case2 hr =>
    obtain ⟨hpresent, hslot⟩ := State.mountedRefusal_none hr
    exact State.commandAccepted_kept (State.takeSlot_kept h (hall b) hpresent hslot hroom) (hall b) _
@[simp] theorem State.takeStandbyNow_kept (b : BayId) : (s.takeStandbyNow b).ledger.Kept p := by
  fun_cases State.takeStandbyNow s b
  case case1 => exact State.refuse_kept h hroom ..
  all_goals
    obtain ⟨hpresent, hslot⟩ := State.mountedRefusal_none ‹_›
    have htaken := State.takeSlot_kept h (hall b) hpresent hslot hroom (c := Cmd.fresh .standbyNow 0 0 s.dmt.caps)
    simp +zetaDelta [htaken, hall]
@[simp] theorem State.takeWake_kept (b : BayId) : (s.takeWake b).ledger.Kept p := by
  have htaken (hpresent : ¬ (!s.bayPresent b) = true) (hslot : ¬ (s.bay b).slot.isSome = true) (w : Wait) :=
    State.takeSlot_kept h (hall b) hpresent hslot hroom (c := { Cmd.fresh .wake 0 0 s.dmt.caps with wait := w })
  fun_cases State.takeWake s b
  case case5 => exact State.commandAccepted_kept (htaken ‹_› ‹_› _) (hall b) _
  case case6 => exact State.finishCmd_kept (htaken ‹_› ‹_› _) (hall b) _
  case case8 => simpa using htaken ‹_› ‹_› _
  all_goals exact State.refuse_kept h hroom ..
@[simp] theorem State.mediaCommand_kept (b : BayId) (op : CmdOp) (lba count : Nat) :
    (s.mediaCommand b op lba count).ledger.Kept p := by
  fun_cases State.mediaCommand s b op lba count
  case case4 => simpa using State.takeSlot_kept h (hall b) ‹_› ‹_› hroom
  case case5 => exact State.refuse_kept (by simpa using h) (by simpa using hroom) ..
  case case6 => exact State.commandAccepted_kept (by simpa using State.takeSlot_kept h (hall b) ‹_› ‹_› hroom) (hall b) _
  all_goals exact State.refuse_kept h hroom ..

/-! ### ABORT (R145, R146) -/

omit hroom in
@[simp] theorem State.abortEject_kept (b : BayId) : (s.abortEject b).2.ledger.Kept p := by
  fun_cases State.abortEject s b <;> simp [h, hall]
@[simp] theorem State.abortBay_kept (b : BayId) : (s.abortBay b).ledger.Kept p := by
  fun_cases State.abortBay s b <;> simp [h, hall, hroom]
omit hroom hall in
@[simp] theorem State.abortDevice_kept : s.abortDevice.2.ledger.Kept p := by
  have hstopped : ∀ c, s.deviceSlot = some c →
      ({ s with deviceSlot := some { c with stop := some .abort } } : State).ledger = s.ledger :=
    fun c hc => by simp only [State.ledger, hc]; rfl
  fun_cases State.abortDevice s <;> simp [*]
@[simp] theorem State.takeAbort_kept (target : BayField) : (s.takeAbort target).ledger.Kept p := by
  fun_cases State.takeAbort s target <;> simp [h, hall, hroom]

/-! ### LOAD TABLE, READ TABLE and IDENTIFY (R183, R187) -/

omit hall in
/-- A command takes the free slot of DEVICE (R175, R176). -/
theorem State.takeDeviceSlot_kept (hslot : ¬ s.deviceSlot.isSome = true) {c : Cmd} (hc : c.silent = false := by rfl) :
    (s.takeDeviceSlot c).ledger.Kept p := by
  have hledger : (s.takeDeviceSlot c).ledger = (s.ledger.withDevice (some false)).reserve 1 := by
    rw [← hc]
    rfl
  rw [hledger]
  exact h.deviceTaken (by simp [State.ledger, Option.not_isSome_iff_eq_none.1 hslot, silence]) (State.room_one hroom)

omit hall in
@[simp] theorem State.loadDeviceTable_kept (id : TableId) (length : BitVec 16) : (s.loadDeviceTable id length).ledger.Kept p := by
  fun_cases State.loadDeviceTable s id length
  case case3 hfree =>
    simp only [Bool.or_eq_true, not_or] at hfree
    exact State.takeDeviceSlot_kept (s := { s with staging := _ }) h hroom hfree.1
  all_goals exact State.answer_kept h hroom ..
omit hall in
@[simp] theorem State.reportDevice_kept (op : CmdOp) : (s.reportDevice op).ledger.Kept p := by
  fun_cases State.reportDevice s op
  · exact State.answer_kept h hroom ..
  · exact State.offerReports_kept (State.takeDeviceSlot_kept h hroom ‹_›) ..
@[simp] theorem State.loadBayTable_kept (b : BayId) (id : TableId) (length : BitVec 16) :
    (s.loadBayTable b id length).ledger.Kept p := by
  fun_cases State.loadBayTable s b id length
  case case4 hpasses hfree _ =>
    simp only [Bool.or_eq_true, not_or] at hpasses hfree
    refine State.commandAccepted_kept (State.takeSlot_kept (c := Cmd.fresh (.loadTable id) 0 0 s.dmt.caps) ?_ (hall b) ?_ ?_ ?_)
      (hall b) _
    exacts [h, hpasses.2, hfree.1, hroom]
  all_goals exact State.refuse_kept h hroom ..
@[simp] theorem State.readBayTable_kept (b : BayId) (id : TableId) (staged : Option (List Byte)) (missing : Detail) :
    (s.readBayTable b id staged missing).ledger.Kept p := by
  fun_cases State.readBayTable s b id staged missing
  case case4 => exact State.commandAccepted_kept (State.takeSlot_kept h (hall b) ‹_› ‹_› hroom) (hall b) _
  all_goals exact State.refuse_kept h hroom ..

/-! ### What a frame brings (R173 to R175) -/

@[simp] theorem State.hostCommand_kept (i : Instr) : (s.hostCommand i).ledger.Kept p := by
  fun_cases State.hostCommand s i <;> simp [h, hall, hroom]

variable (hframe : frameShare p s.ledger.frame = 0)
include hframe

@[simp] theorem State.takeDataOut_kept (target : BayField) (declared : Nat) (payload : List LinkByte) (late : Bool)
    (ended : Detail) : (s.takeDataOut target declared payload late ended).ledger.Kept p := by
  fun_cases State.takeDataOut s target declared payload late ended
  case case3 => exact State.holdFrame_kept h hframe hroom ..
  all_goals simp [h, hall, hroom]
@[simp] theorem State.takeFrame_kept (frame : Inbound) (ended : Detail) : (s.takeFrame frame ended).ledger.Kept p := by
  fun_cases State.takeFrame s frame ended <;> simp [h, hall, hroom, hframe]

end
end Sys2Proof.Machine

namespace Sys2Proof.Machine

/-! ## Events -/

/-! ### The inbound frame in progress (R176) -/

/-- The inbound frame in progress has given its entries back (R176). -/
def Unpaid.frameEnding : Unpaid := ⟨[], true⟩

section
variable {s : State}

/-- The frame in progress is over, or is held back with entries of its own (R116). -/
theorem State.inboundEnds_kept (h : s.ledger.Kept .frameEnding) (early : Bool) :
    (s.inboundEnds early).ledger.Kept .nothing := by
  fun_cases State.inboundEnds s early
  case case1 f hf hdue =>
    have hframe : s.ledger.frame = some true := by simp [State.ledger, Link.framed, hf, hdue]
    exact h.framePaid (q := .nothing) (x := s.ledger.frame) rfl (by rw [hframe, frameShare_held, frameShare_held])
  case case2 f hf hdue =>
    have hframe : s.ledger.frame = some false := by simpa [State.ledger, Link.framed, hf] using hdue
    have hdropped : s.dropFrameSlot.ledger.Kept .frameEnding := by simpa using h
    simp only [State.stoppedLoadEnds_ledger]
    exact hdropped.framePaid (q := .nothing) (x := none) rfl (by rw [State.dropFrameSlot_ledger, hframe]; rfl)
  case case3 hf =>
    have hframe : s.ledger.frame = none := by simp [State.ledger, Link.framed, hf]
    exact h.framePaid (q := .nothing) (x := s.ledger.frame) rfl (by rw [hframe]; rfl)

/-- What an event does in which a frame ends: it finds room for two descriptors, and nothing reserved for a frame (R176). -/
def KeptAsFrameEnds (p : Unpaid) (f : State → State) : Prop :=
  ∀ {s : State}, s.ledger.Kept p → s.ledger.queued + s.ledger.reserved ≤ Config.frameStartRoom →
    frameShare p s.ledger.frame = 0 → (f s).ledger.Kept p

/-- A frame that ends is taken as what its bytes bring (R173 to R175). -/
theorem State.takeFrame_keptAsFrameEnds (inbound : Inbound) (ended : Detail) :
    KeptAsFrameEnds .frameEnding fun s => s.takeFrame (s.bytesSoFar inbound) ended :=
  fun h hroom hframe => State.takeFrame_kept h (fun _ => List.not_mem_nil) hroom hframe _ _

theorem State.endInbound_kept (h : s.ledger.Kept .nothing) (hway : s.frameUnderWay = true) (early : Bool) {f : State → State}
    (hf : KeptAsFrameEnds .frameEnding f) : (s.endInbound early f).ledger.Kept .nothing := by
  obtain ⟨-, -, -, -, x, hx, hdue⟩ := State.frameUnderWay_spec hway
  have hframe : s.ledger.frame = some false := by simp [State.ledger, Link.framed, hx, hdue]
  have hpaid : frameShare .nothing s.ledger.frame = 2 := by rw [hframe]; rfl
  have hgiven : (s.modLink fun l => { l with reservations := l.reservations - 2 }).ledger.Kept .frameEnding :=
    h.frameGives (q := .frameEnding) (x := s.ledger.frame) rfl hpaid (by rw [hframe]; rfl)
  refine State.inboundEnds_kept (hf hgiven ?_ ((congrArg _ hframe).trans rfl)) early
  have hroom := h.room
  have hreserved := h.paid
  rw [hpaid] at hreserved
  simp only [Config.queueEntries] at hroom
  show s.ledger.queued + (s.ledger.reserved - 2) ≤ Config.frameStartRoom
  simp only [Config.frameStartRoom]
  omega

end

/-! ### Which events are taken -/

theorem nothing_unpaid (b : BayId) : b ∉ Unpaid.nothing.bays := List.not_mem_nil
theorem frameEnding_unpaid (b : BayId) : b ∉ Unpaid.frameEnding.bays := List.not_mem_nil

theorem State.queueKept_of_ledger {s t : State} (h : s.queueKept) (ht : t.ledger = s.ledger) : t.queueKept := by
  rw [State.queueKept_iff] at *
  rwa [ht]

theorem State.conclude_queueKept {s t : State} (h : s.ledger.Kept .nothing) (ht : s.conclude = .next t) : t.queueKept :=
  (State.conclude_kept h nothing_unpaid ht).queueKept

/-- Nothing follows from an event while RESET is held (R192). -/
theorem State.conclude_keepsQueue {s t : State} (h : s.queueKept) (ht : s.conclude = .next t) : t.queueKept := by
  rcases State.conclude_next ht with ⟨-, rfl⟩ | ⟨hrunning, -, -⟩
  · exact State.queueKept_of_ledger h rfl
  · exact State.conclude_queueKept (h.kept hrunning.1) ht

section
variable {s t : State} (h : s.queueKept)
include h

theorem State.kept_of_running (hr : s.running) : s.ledger.Kept .nothing := h.kept hr.1

/-- A frame that the link takes finds room for its two descriptors, and no other frame in progress (R176). -/
theorem State.takesFrame_kept (htakes : s.takesFrame = true) : s.ledger.Kept .nothing ∧
    s.ledger.queued + s.ledger.reserved ≤ Config.frameStartRoom ∧ frameShare .nothing s.ledger.frame = 0 := by
  obtain ⟨hrunning, -, -, hnone, -, hroom⟩ := State.takesFrame_spec htakes
  exact ⟨h.kept hrunning.1, hroom, by simp [State.ledger, Link.framed, hnone, frameShare]⟩

theorem State.frame_queueKept {i : Instr} {f : State → State} (ht : s.frame i f = .next t)
    (hf : ∀ p, (∀ b, b ∉ p.bays) → KeptAsFrameEnds p f) : t.queueKept := by
  unfold State.frame at ht
  split at ht
  next htakes =>
    obtain ⟨hkept, hroom, hframe⟩ := State.takesFrame_kept h htakes
    exact State.conclude_queueKept (hf _ nothing_unpaid (s := s.frameOver) hkept hroom hframe) ht
  next =>
    split at ht
    next hway =>
      have hkept := State.kept_of_running h (State.frameUnderWay_spec hway).1
      exact State.conclude_queueKept (State.endInbound_kept hkept hway false (hf _ frameEnding_unpaid)) ht
    next => split at ht <;> cases ht <;> exact State.queueKept_of_ledger h rfl

variable (b : BayId)

theorem State.bayEvent_queueKept {f : State → State} (ht : s.bayEvent b f = .next t)
    (hf : s.ledger.Kept .nothing → (f s).ledger.Kept .nothing) : t.queueKept := by
  unfold State.bayEvent at ht
  split at ht
  next hlive =>
    simp only [State.bayLive, Bool.and_eq_true, Bool.not_eq_true'] at hlive
    exact State.conclude_queueKept (hf (h.kept hlive.1)) ht
  next => cases ht; exact h

theorem State.bayAct_queueKept {f : State → State} (ht : s.bayAct b f = .next t)
    (hf : s.ledger.Kept .nothing → (f s).ledger.Kept .nothing) : t.queueKept := by
  unfold State.bayAct at ht
  split at ht
  next hlive =>
    simp only [State.bayLive, Bool.and_eq_true, Bool.not_eq_true'] at hlive
    exact State.conclude_queueKept (hf (h.kept hlive.1.1)) ht
  next => cases ht; exact h

/-- A timer that acts only where it is due. -/
theorem State.bayAct_due_queueKept {c : State → Prop} [∀ s, Decidable (c s)] {f : State → State}
    (ht : s.bayAct b (fun s => if c s then f s else s) = .next t)
    (hf : s.ledger.Kept .nothing → (f s).ledger.Kept .nothing) : t.queueKept :=
  State.bayAct_queueKept h b ht fun h => State.ite_kept (hf h) h _

theorem State.baySensor_queueKept {level act : State → State} (ht : s.baySensor b level act = .next t)
    (hl : (level s).ledger = s.ledger) (hact : (level s).ledger.Kept .nothing → (act (level s)).ledger.Kept .nothing) :
    t.queueKept := by
  unfold State.baySensor at ht
  split at ht
  next hlive =>
    simp only [State.bayLive, Bool.and_eq_true, Bool.not_eq_true'] at hlive
    have hkept : (level s).ledger.Kept .nothing := hl ▸ h.kept hlive.1
    refine State.conclude_queueKept ?_ ht
    split
    · exact hkept
    · exact hact hkept
  next => cases ht; exact h

theorem State.visitEvent_queueKept {f : Visit → Job → State} (ht : s.visitEvent f = .next t)
    (hf : ∀ v j, (f v j).ledger = s.ledger) : t.queueKept := by
  unfold State.visitEvent at ht
  split at ht
  next v hv =>
    split at ht
    next j hj =>
      split at ht
      next => cases ht; exact h
      next hlive =>
        simp only [Bool.or_eq_true, not_or, Bool.not_eq_true] at hlive
        exact State.conclude_queueKept (hf v j ▸ h.kept hlive.1) ht
    next => cases ht; exact h
  next => cases ht; exact h

/-! ### The link reset (R179) -/

omit h in
/-- The queue is emptied and DEVICE's command ends; those of the bays have still to end. -/
theorem State.linkResetLink_kept (hkept : s.ledger.Kept .nothing) : s.linkResetLink.ledger.Kept ⟨[.bayA, .bayB], false⟩ := by
  unfold State.linkResetLink
  refine State.finishDevice_kept ⟨Nat.zero_le _, ?_, fun htwo => ?_⟩ _ _
  · cases hslot : s.dropFrameSlot.deviceSlot <;>
      simp [State.ledger, bayShares, bayShare, Link.framed, silence, share, frameShare]
  · have hdropped : s.dropFrameSlot.ledger.Kept .nothing := by simpa using hkept
    exact hdropped.absent htwo

omit h in
/-- The command of a bay ends, with nothing reserved for it any more. -/
theorem State.endSilently_kept {l : List BayId} (hb : b ∉ l) (hkept : s.ledger.Kept ⟨b :: l, false⟩) :
    (s.endSilently b).ledger.Kept ⟨l, false⟩ := by
  have hsilent : (s.modCmd b fun c => { c with silent := true, result := none }).ledger.Kept ⟨l, false⟩ := by
    rw [State.modCmd, State.modBay_slot_ledger]
    refine hkept.silenced hb ?_ ?_ <;> cases hslot : (s.bay b).slot <;> simp [State.ledger, silence, share, hslot]
  unfold State.endSilently
  split
  next hslot =>
    have := hkept.silenced hb (x := s.ledger.slot b) (by simp [State.ledger, hslot, silence, share]) id
    simpa [Ledger.withSlot] using this
  next =>
    simp only []
    (repeat' split) <;> simp [hsilent, hb]

omit h in
theorem State.linkResetBay_kept {l : List BayId} (hb : b ∉ l) (hkept : s.ledger.Kept ⟨b :: l, false⟩) :
    (s.linkResetBay b).ledger.Kept ⟨l, false⟩ := by
  fun_cases State.linkResetBay s b
  case case1 habsent =>
    have hslot : s.ledger.slot b = none := by
      cases b with
      | bayA => simp [State.bayPresent] at habsent
      | bayB => exact hkept.absent (by simpa using habsent : s.bayPresent .bayB = false)
    have := hkept.silenced hb (x := s.ledger.slot b) (by rw [hslot]; rfl) id
    simpa [Ledger.withSlot] using this
  case case2 => exact State.endSilently_kept b hb (by simpa +zetaDelta using hkept)

omit b
theorem execLinkReset_queueKept (ht : execLinkReset s = .next t) : t.queueKept := by
  unfold execLinkReset at ht
  split at ht
  next => cases ht; exact h
  next =>
    split at ht
    next => cases ht; exact State.queueKept_of_ledger h rfl
    next hlive =>
      simp only [Bool.or_eq_true, not_or, Bool.not_eq_true] at hlive
      have hlink := State.linkResetLink_kept (h.kept hlive.1)
      exact State.conclude_queueKept
        (State.linkResetBay_kept .bayB nofun (State.linkResetBay_kept .bayA (by decide) hlink)) ht

/-! ### The other events of the link, and samples -/

theorem State.ldirCuts_kept (halive : s.linkAlive = true) (dir : LinkDir) (inbound : Inbound) :
    (s.ldirCuts dir inbound).ledger.Kept .nothing := by
  simp only [State.linkAlive, Bool.and_eq_true, Bool.not_eq_true'] at halive
  have hkept := h.kept halive.1.1
  fun_cases State.ldirCuts s dir inbound
  case case1 | case2 => simp [hkept, nothing_unpaid]
  case case3 => exact hkept
  case case4 => simpa using State.cutHeld_kept hkept nothing_unpaid
  case case5 hway => exact State.endInbound_kept hkept hway true (State.takeFrame_keptAsFrameEnds inbound _)
  case case6 => exact hkept
  case case7 htakes =>
    simp only [Bool.and_eq_true] at htakes
    obtain ⟨-, hroom, hframe⟩ := State.takesFrame_kept h htakes.1
    exact State.takeFrame_kept (s := s.frameSpent) hkept nothing_unpaid hroom hframe _ _
  case case8 => exact hkept

theorem execLdirChange_queueKept {dir : LinkDir} {inbound : Inbound} (ht : execLdirChange dir inbound s = .next t) :
    t.queueKept := by
  simp only [execLdirChange] at ht
  split at ht
  next => cases ht; exact h
  next =>
    split at ht
    next halive => exact State.conclude_queueKept (by exact State.ldirCuts_kept h halive dir inbound) ht
    next => cases ht; exact State.queueKept_of_ledger h rfl

theorem execLinkTimeout_queueKept {inbound : Inbound} (ht : execLinkTimeout inbound s = .next t) : t.queueKept := by
  unfold execLinkTimeout at ht
  split at ht
  next =>
    split at ht
    next halive =>
      simp only [State.linkAlive, Bool.and_eq_true, Bool.not_eq_true'] at halive
      exact State.conclude_queueKept (State.abandonFrame_kept (h.kept halive.1.1.1) nothing_unpaid _) ht
    next => cases ht; exact h
  next =>
    split at ht
    next hway =>
      simp only [Bool.and_eq_true] at hway
      have hkept := State.kept_of_running h (State.frameUnderWay_spec hway.1).1
      exact State.conclude_queueKept
        (State.endInbound_kept hkept hway.1 true (State.takeFrame_keptAsFrameEnds inbound _)) ht
    next =>
      split at ht
      next htakes =>
        simp only [Bool.and_eq_true] at htakes
        obtain ⟨hkept, hroom, hframe⟩ := State.takesFrame_kept h htakes.1
        exact State.conclude_queueKept (State.takeFrame_kept (s := s.frameSpent) hkept nothing_unpaid hroom hframe _ _) ht
      next => cases ht; exact h

theorem execOutboundFrameSent_queueKept (ht : execOutboundFrameSent s = .next t) : t.queueKept := by
  unfold execOutboundFrameSent at ht
  split at ht
  next =>
    split at ht
    next halive =>
      simp only [State.linkAlive, Bool.and_eq_true, Bool.not_eq_true'] at halive
      exact State.conclude_queueKept (State.frameSent_kept (h.kept halive.1.1) nothing_unpaid _) ht
    next => cases ht; exact h
  next => cases ht; exact h

theorem execServoSample_queueKept {b : BayId} {w : ServoWord} (ht : execServoSample b w s = .next t) : t.queueKept := by
  have hhanded : ({ s with servo := s.servo.handedOver b } : State).ledger = s.ledger := rfl
  simp only [execServoSample] at ht
  split at ht
  next => cases ht; exact h
  next =>
    split at ht
    next => cases ht; exact State.queueKept_of_ledger h (by simp [hhanded])
    next hlive =>
      simp only [Bool.or_eq_true, not_or, Bool.not_eq_true] at hlive
      exact State.conclude_queueKept (by simpa [hhanded] using h.kept hlive.1) ht

/-! ### RESET and the power-fail latch (R169, R192) -/

omit h in
/-- The power-fail latch empties the queue, and ends every command of a bay that is present. -/
theorem State.latchPowerFail_kept (habsent : s.twoBays = false → s.bayB.slot = none) :
    s.latchPowerFail.ledger.Kept .nothing := by
  have hslot : s.latchPowerFail.ledger.slot = fun _ => none := by
    funext b
    cases b with
    | bayA => rfl
    | bayB =>
      show silence (if s.twoBays then s.bayB.powerFail else s.bayB).slot = none
      split
      next => rfl
      next htwo => rw [habsent (by simpa using htwo)]; rfl
  exact ⟨Nat.zero_le _, by rw [hslot]; rfl, fun _ => by rw [hslot]⟩

omit h in
theorem startState_kept (pins : Pins) : (startState pins).ledger.Kept .nothing := by
  have hslot : (startState pins).ledger.slot = fun _ => none := by
    funext b
    cases b with
    | bayA => rfl
    | bayB => cases htwo : pins.twoBays <;> simp [State.ledger, State.bay, startState, htwo, silence, startBay, Bay.reset]
  exact ⟨Nat.zero_le _, by rw [hslot]; rfl, fun _ => by rw [hslot]⟩

omit h in
theorem execEndOfReset_queueKept (h : s.queueKept) {pins : Pins} (ht : execEndOfReset pins s = .next t) : t.queueKept := by
  have hstart := startState_kept pins
  unfold execEndOfReset at ht
  split at ht
  next =>
    refine State.conclude_queueKept ?_ ht
    split
    · refine State.latchPowerFail_kept fun htwo => ?_
      exact Option.map_eq_none_iff.1 (hstart.absent htwo)
    · exact hstart
  next => cases ht; exact h

theorem execPowerFailLatch_queueKept (ht : execPowerFailLatch s = .next t) : t.queueKept := by
  unfold execPowerFailLatch at ht
  split at ht <;> cases ht
  · exact h
  · exact (State.latchPowerFail_kept h.2.2).queueKept

/-- RESET leaves the queue as it is. -/
theorem execResetAsserted_queueKept (ht : execResetAsserted s = .next t) : t.queueKept := by
  cases ht
  exact ⟨h.1, nofun, h.2.2⟩

/-! ### Every event -/

/-- Every command and event keeps the reservation count and the room of the queue. -/
theorem exec_queueKept {i : Instr} (ht : exec i s = .next t) : t.queueKept := by
  have hhost : exec i s = s.frame i (fun s => s.hostCommand i) → t.queueKept := fun he =>
    State.frame_queueKept h (he.symm.trans ht) fun p hall _ h hroom _ => State.hostCommand_kept h hall hroom i
  cases i
  case resetAsserted => exact execResetAsserted_queueKept h ht
  case endOfReset pins => exact execEndOfReset_queueKept h ht
  case powerFailLatch => exact execPowerFailLatch_queueKept h ht
  case linkReset => exact execLinkReset_queueKept h ht
  case linkResetRelease =>
    have hreleased : (s.modLink fun l => { l with lrst := false }).queueKept := State.queueKept_of_ledger h rfl
    exact State.conclude_keepsQueue hreleased ht
  case ldirChange => exact execLdirChange_queueKept h ht
  case inboundFrameError frame =>
    change execInboundFrameError frame s = _ at ht
    unfold execInboundFrameError at ht
    split at ht
    next =>
      exact State.frame_queueKept h ht fun p hall _ h hroom hframe => State.takeFrame_kept h hall hroom hframe _ _
    next => cases ht; exact h
  case dataOutFrame target declared payload =>
    exact State.frame_queueKept h (show execDataOutFrame target declared payload s = _ from ht)
      fun p hall _ h hroom hframe => State.takeDataOut_kept h hall hroom hframe ..
  case outboundFrameSent => exact execOutboundFrameSent_queueKept h ht
  case linkTimeout => exact execLinkTimeout_queueKept h ht
  case indexEdge b elapsed =>
    exact State.bayEvent_queueKept h b (show execIndexEdge b elapsed s = _ from ht) fun h => by simpa using h
  case servoSample b w => exact execServoSample_queueKept h ht
  case powerOnWatchEnd b =>
    exact State.bayAct_due_queueKept h b (show execPowerOnWatchEnd b s = _ from ht) fun h => by simpa using h
  case stopTimerExpiry b =>
    exact State.bayAct_due_queueKept h b (show execStopTimerExpiry b s = _ from ht) fun h => by simpa using h
  case firstIndexTimerExpiry b =>
    exact State.bayAct_due_queueKept h b (show execFirstIndexTimerExpiry b s = _ from ht) fun h => by simpa using h
  case gapTimerExpiry b =>
    exact State.bayAct_due_queueKept h b (show execGapTimerExpiry b s = _ from ht) fun h => by simpa using h
  case spinUpTimerExpiry b =>
    exact State.bayAct_due_queueKept h b (show execSpinUpTimerExpiry b s = _ from ht) fun h => by simpa using h
  case recoveryTimerExpiry b =>
    exact State.bayAct_due_queueKept h b (show execRecoveryTimerExpiry b s = _ from ht) fun h => by simpa using h
  case brakeTimerExpiry b =>
    exact State.bayAct_due_queueKept h b (show execBrakeTimerExpiry b s = _ from ht) fun h => by simpa using h
  case loadTimerExpiry b =>
    exact State.bayAct_due_queueKept h b (show execLoadTimerExpiry b s = _ from ht) fun h => by simpa using h
  case seekTimerExpiry b =>
    exact State.bayAct_due_queueKept h b (show execSeekTimerExpiry b s = _ from ht) fun h => by simpa using h
  case recalibrateTimerExpiry b =>
    exact State.bayAct_due_queueKept h b (show execRecalibrateTimerExpiry b s = _ from ht) fun h => by simpa using h
  case positionerUnloadTimerExpiry b =>
    exact State.bayAct_due_queueKept h b (show execPositionerUnloadTimerExpiry b s = _ from ht) fun h => by simpa using h
  case retractTimerExpiry b =>
    exact State.bayEvent_queueKept h b (show execRetractTimerExpiry b s = _ from ht) fun h => by
      simpa [apply_ite State.ledger] using h
  case parkSensorChange b parked =>
    exact State.bayEvent_queueKept h b (show execParkSensorChange b parked s = _ from ht) fun h => by simpa using h
  case presentAccepted b =>
    exact State.baySensor_queueKept h b (show execPresentAccepted b s = _ from ht) (by simp) fun h => by simpa using h
  case presentLost b =>
    exact State.baySensor_queueKept h b (show execPresentLost b s = _ from ht) (by simp) fun h =>
      State.cartridgeLeaves_kept h (nothing_unpaid b)
  case writeProtectChange b p =>
    exact State.baySensor_queueKept h b (show execWriteProtectChange b p s = _ from ht) (by simp) fun h => by
      simpa [apply_ite State.ledger] using h
  case lockSenseEngaged b =>
    exact State.baySensor_queueKept h b (show execLockSenseEngaged b s = _ from ht) (by simp) fun h => by
      simpa [apply_ite State.ledger] using h
  case lockSenseOpen b =>
    exact State.baySensor_queueKept h b (show execLockSenseOpen b s = _ from ht) (by simp) fun h =>
      State.lockOpens_kept h (nothing_unpaid b)
  case ejectButtonPress level =>
    change execEjectButtonPress level s = _ at ht
    simp only [execEjectButtonPress] at ht
    exact State.baySensor_queueKept h level.bay ht (by simp) fun h =>
      State.ite_kept (State.buttonPressed_kept h (nothing_unpaid _)) h _
  case settleTimerExpiry b =>
    exact State.bayAct_due_queueKept h b (show execSettleTimerExpiry b s = _ from ht) fun h => by simpa using h
  case pulseEnd b => exact State.bayAct_queueKept h b (show execPulseEnd b s = _ from ht) fun h => by simpa using h
  case lockConfirmExpiry b =>
    exact State.bayAct_due_queueKept h b (show execLockConfirmExpiry b s = _ from ht) fun h =>
      State.lockUnconfirmed_kept h (nothing_unpaid b)
  case releaseConfirmExpiry b =>
    exact State.bayAct_due_queueKept h b (show execReleaseConfirmExpiry b s = _ from ht) fun h =>
      State.releaseUnconfirmed_kept h (nothing_unpaid b)
  case idFieldRead field =>
    refine State.visitEvent_queueKept h (show execIdFieldRead field s = _ from ht) fun v j => ?_
    split <;> simp
  case idSearchAttemptEnd =>
    refine State.visitEvent_queueKept h (show execIdSearchAttemptEnd s = _ from ht) fun v j => ?_
    split <;> simp
  case dataFieldRead data check =>
    refine State.visitEvent_queueKept h (show execDataFieldRead data check s = _ from ht) fun v j => ?_
    split <;> simp
  case dataFieldWritten =>
    refine State.visitEvent_queueKept h (show execDataFieldWritten s = _ from ht) fun v j => ?_
    split <;> simp
  case formatTrackWritten =>
    refine State.visitEvent_queueKept h (show execFormatTrackWritten s = _ from ht) fun v j => ?_
    split <;> simp
  case visitFieldCountEnd =>
    refine State.visitEvent_queueKept h (show execVisitFieldCountEnd s = _ from ht) fun v j => ?_
    simp only []
    (repeat' split) <;> simp
  case idleUnloadTimerExpiry b =>
    exact State.bayAct_due_queueKept h b (show execIdleUnloadTimerExpiry b s = _ from ht) fun h => by
      simpa [apply_ite State.ledger] using h
  case standbyTimerExpiry b =>
    exact State.bayAct_due_queueKept h b (show execStandbyTimerExpiry b s = _ from ht) fun h => by simpa using h
  case ledFlashToggle b =>
    exact State.bayAct_due_queueKept h b (show execLedFlashToggle b s = _ from ht) fun h => by simpa using h
  all_goals exact hhost rfl

end

/-! ### A microsecond (R171, R176) -/

section
variable {s : State}

/-- A frame that begins in a microsecond takes its two entries; the exchange of its bytes changes nothing. -/
theorem State.receive_kept (h : s.ledger.Kept .nothing) (lfrm : Bool) (strobe : Option LinkByte) :
    (s.receive lfrm strobe).ledger.Kept .nothing := by
  unfold State.receive
  split
  next hnone =>
    unfold State.heard
    split
    · exact h
    · split
      · split
        next htakes =>
          simp only [Bool.and_eq_true] at htakes
          obtain ⟨-, -, -, -, -, hroom⟩ := State.takesFrame_spec htakes.1
          exact h.frameTakes (x := some false) (by simp [State.ledger, Link.framed, hnone, frameShare]) rfl hroom
        next => exact h
      · exact h
  next f hf =>
    have hframed : s.link.framed = some f.due.isSome := by simp [Link.framed, hf]
    have hsame (g : Link → Link) (hq : (g s.link).queue.length = s.link.queue.length)
        (hr : (g s.link).reservations = s.link.reservations) (hg : (g s.link).framed = some f.due.isSome) :
        (s.modLink g).ledger.Kept .nothing :=
      (s.modLink_ledger g hq hr (hg.trans hframed.symm)).symm ▸ h
    simp only []
    split
    · split
      · exact hsame _ rfl rfl hframed
      · exact hsame _ rfl rfl rfl
      · exact hsame _ rfl rfl hframed
      · exact (s.strobed_ledger hf _).symm ▸ h
    · exact h

theorem Link.tick_keeps (x : Link) (phase : Bool) : (x.tick phase).framed = x.framed ∧
    (x.tick phase).queue = x.queue ∧ (x.tick phase).reservations = x.reservations := by
  unfold Link.tick
  (repeat' split) <;> exact ⟨rfl, rfl, rfl⟩

/-- The clocks and timers are not in the ledger. -/
theorem State.count_ledger (hreset : s.resetHeld = false) (x : Inputs) :
    (s.count x).ledger = (s.receive x.lfrm x.strobe).ledger := by
  obtain ⟨slots, inFrame, spent, reservations, timer, hreceived⟩ := (s.receive_spec x.lfrm x.strobe).1
  obtain ⟨hframed, hqueue, hreserved⟩ := Link.tick_keeps (s.receive x.lfrm x.strobe).link x.phase
  have hslot : (fun b => silence ((s.count x).bay b).slot) = fun b => silence (s.bay b).slot := by
    funext b
    cases b with
    | bayA => simp [State.count, hreset, State.bay, Bay.tick]
    | bayB => cases htwo : s.twoBays <;> simp [State.count, hreset, State.bay, Bay.tick, htwo]
  simp only [State.ledger, hslot]
  simp only [State.count, hreset, Bool.false_eq_true, if_false, hframed, hqueue, hreserved]
  rw [hreceived]
  rfl

theorem State.count_queueKept (h : s.queueKept) (x : Inputs) : (s.count x).queueKept := by
  cases hreset : s.resetHeld with
  | true => simpa [State.count, hreset] using h
  | false =>
    refine Ledger.Kept.queueKept ?_
    rw [State.count_ledger hreset]
    exact State.receive_kept (h.kept hreset) _ _

theorem State.tick_queueKept (h : s.queueKept) : s.tick.queueKept := State.count_queueKept h _

end

/-- Every step keeps the reservation count and the room of the queue (R176). -/
theorem step_queueKept {s t : State} (h : s.queueKept) (ht : step s = .next t) : t.queueKept := by
  obtain ⟨i, rest, -, ht⟩ | ⟨i, -, -, ht⟩ | rfl := step_next ht
  · exact exec_queueKept (State.queueKept_of_ledger (t := { s with pending := rest }) h rfl) ht
  · exact exec_queueKept (State.queueKept_of_ledger (t := s.unwithheld) h rfl) ht
  · exact State.tick_queueKept h

end Sys2Proof.Machine

namespace Sys2Proof

open Machine

/-- Settles O9: every operation is shown to keep the ledger of the queue, in which an event may leave unpaid the commands that a
link reset has still to end and the inbound frame whose entries it gives back. -/
theorem stepKeepsTheQueueRoom : Obligations.StepKeepsTheQueueRoom := fun _ _ _ _ h ht => step_queueKept h ht

end Sys2Proof

/-! # Frames of the host adapter (O17, O18)

What the end of a frame comes to, by its header, its length and its parity (R172, R173, R175); then the command that a COMMAND
frame spells, which is the one that the frame was made from. -/

namespace Sys2Proof.Machine

/-! ## The verdict on a frame -/

theorem any_parity_false {bytes : List LinkByte} (h : ∀ x ∈ bytes, linkParityOk x = true) :
    (bytes.any fun x => !linkParityOk x) = false := by
  simpa [List.any_eq_false] using h
theorem any_parity_true {bytes : List LinkByte} (h : ∃ x ∈ bytes, linkParityOk x = false) :
    (bytes.any fun x => !linkParityOk x) = true := by
  simpa [List.any_eq_true] using h

section
variable {declared : Nat} {payload : List LinkByte}

theorem payloadError_parity (h : ∃ x ∈ payload, linkParityOk x = false) :
    payloadError declared payload .short = some .parity := by
  simp only [payloadError, any_parity_true h, reduceCtorEq, if_false, if_true]

variable (hparity : ∀ x ∈ payload, linkParityOk x = true)
include hparity

theorem payloadError_short (h : payload.length < declared) : payloadError declared payload .short = some .short := by
  simp only [payloadError, any_parity_false hparity, h, reduceCtorEq, Bool.false_eq_true, if_false, if_true]
theorem payloadError_over (h : declared < payload.length) : payloadError declared payload .short = some .over := by
  simp only [payloadError, any_parity_false hparity, h, h.not_gt, reduceCtorEq, Bool.false_eq_true, if_false, if_true]
theorem payloadError_none (h : payload.length = declared) : payloadError declared payload .short = none := by
  simp only [payloadError, any_parity_false hparity, h, lt_irrefl, reduceCtorEq, Bool.false_eq_true, if_false]

end

/-- LFRM has dropped within the header (R173). -/
theorem frameVerdict_cut {bytes : List LinkByte} (h : bytes.length < 4) (ended : Detail) :
    frameVerdict bytes ended = .frameError ended := by
  simp [frameVerdict, h]

section
variable {bytes : List LinkByte} (hlong : 4 ≤ bytes.length) (ended : Detail)
include hlong

theorem frameVerdict_parity (h : ∃ x ∈ bytes.take 4, linkParityOk x = false) :
    frameVerdict bytes ended = .frameError .parity := by
  simp only [frameVerdict, any_parity_true h, hlong.not_gt, if_false, if_true]

/-- A kind, a bay field or a length that no frame of the host adapter has (R173). -/
theorem frameVerdict_header (hparity : ∀ x ∈ bytes.take 4, linkParityOk x = true)
    (h : (field ((bytes.take 4).map linkData) 0 1 ≠ 1 ∧ field ((bytes.take 4).map linkData) 0 1 ≠ 2) ∨
      BayField.ofByte (((bytes.take 4).map linkData).getD 1 0) = none ∨ 512 < field ((bytes.take 4).map linkData) 2 2) :
    frameVerdict bytes ended = .frameError .header := by
  simp only [frameVerdict, any_parity_false hparity, hlong.not_gt, if_false, Bool.false_eq_true]
  split
  next => rfl
  next htarget =>
    split
    next => rfl
    next hfits =>
      obtain ⟨hcommand, hdata⟩ := h.resolve_right fun h => h.elim (fun h => nomatch h.symm.trans htarget) hfits
      simp only [hcommand, hdata, if_false]

end

/-- A good header of a COMMAND frame for a bay field (R172, R173, R181). -/
structure CommandHeader (bytes : List LinkByte) (target : BayField) : Prop where
  long : 4 ≤ bytes.length
  parity : ∀ x ∈ bytes.take 4, linkParityOk x = true
  kind : field ((bytes.take 4).map linkData) 0 1 = 1
  bayField : BayField.ofByte (((bytes.take 4).map linkData).getD 1 0) = some target
  fits : field ((bytes.take 4).map linkData) 2 2 ≤ 512

section
variable {bytes : List LinkByte} {target : BayField} (h : CommandHeader bytes target) (ended : Detail)
include h

theorem frameVerdict_linkError {d : Detail}
    (hd : payloadError (field ((bytes.take 4).map linkData) 2 2) (bytes.drop 4) ended = some d) :
    frameVerdict bytes ended = .answered target .linkError d (((bytes.drop 4).map linkData).getD 0 0) := by
  simp only [frameVerdict, any_parity_false h.parity, h.long.not_gt, h.bayField, h.fits.not_gt, h.kind, hd, Bool.false_eq_true,
    OfNat.one_ne_ofNat, if_false, if_true]

variable (hwhole : payloadError (field ((bytes.take 4).map linkData) 2 2) (bytes.drop 4) ended = none)
include hwhole

theorem frameVerdict_illegal (hi : commandInstr target ((bytes.drop 4).map linkData) = none) :
    frameVerdict bytes ended = .answered target .illegalRequest .none (((bytes.drop 4).map linkData).getD 0 0) := by
  simp only [frameVerdict, any_parity_false h.parity, h.long.not_gt, h.bayField, h.fits.not_gt, h.kind, hwhole, hi,
    Bool.false_eq_true, OfNat.one_ne_ofNat, if_false, if_true]

theorem frameVerdict_spells {i : Instr} (hi : commandInstr target ((bytes.drop 4).map linkData) = some i) :
    frameVerdict bytes ended = .command i := by
  simp only [frameVerdict, any_parity_false h.parity, h.long.not_gt, h.bayField, h.fits.not_gt, h.kind, hwhole, hi,
    Bool.false_eq_true, OfNat.one_ne_ofNat, if_false, if_true]

end

theorem commandInstr_refused {target : BayField} {payload : List Byte} (h : commandAccepted target payload = false) :
    commandInstr target payload = none := by
  simp [commandInstr, h]

/-! ## Frames in error (R173, R175) -/

section
variable {s : State} (hears : s.hears) {bytes : List LinkByte} (late : Bool)
include hears

theorem State.hears.frameError {d : Detail} (h : frameVerdict bytes .short = .frameError d) :
    exec (.inboundFrameError { bytes, late }) s =
      .next { s with link := { s.link with queue := s.link.queue ++ [.status .device .frameError d 0 0] } } := by
  show execInboundFrameError { bytes, late } s = _
  simp only [execInboundFrameError, frameInError, h, if_true, hears.frame, State.takeFrame]
  exact s.conclude_answer hears.calm ..

theorem State.hears.answered {target : BayField} {c : Completion} {d : Detail} {code : Byte}
    (h : frameVerdict bytes .short = .answered target c d code) :
    exec (.inboundFrameError { bytes, late }) s =
      .next { s with link := { s.link with queue := s.link.queue ++ [.status target c d 0 code] } } := by
  show execInboundFrameError { bytes, late } s = _
  simp only [execInboundFrameError, frameInError, h, if_true, hears.frame, State.takeFrame]
  exact s.conclude_answer hears.calm ..

end
end Sys2Proof.Machine

namespace Sys2Proof

open Machine

/-- Settles O18: each kind of error has its verdict, in the order of the tests, and each verdict its STATUS. -/
theorem framesInErrorAreAnswered : Obligations.FramesInErrorAreAnswered := by
  intro bytes late s hears
  refine ⟨fun hcut => ?_, fun hlong hparity => ?_, fun hlong hparity hheader => ?_,
    fun target hlong hparity hkind htarget hfits => ?_⟩
  · exact hears.frameError late (frameVerdict_cut hcut _)
  · exact hears.frameError late (frameVerdict_parity hlong _ hparity)
  · exact hears.frameError late (frameVerdict_header hlong _ hparity hheader)
  · have hheader : CommandHeader bytes target := ⟨hlong, hparity, hkind, htarget, hfits⟩
    refine ⟨fun hbad => ?_, fun hgood => ⟨fun hshort => ?_, fun hover => ?_, fun hlength hrefused => ?_⟩⟩
    · exact hears.answered late (frameVerdict_linkError hheader _ (payloadError_parity hbad))
    · exact hears.answered late (frameVerdict_linkError hheader _ (payloadError_short hgood hshort))
    · exact hears.answered late (frameVerdict_linkError hheader _ (payloadError_over hgood hover))
    · exact hears.answered late
        (frameVerdict_illegal hheader _ (payloadError_none hgood hlength) (commandInstr_refused hrefused))

end Sys2Proof

namespace Sys2Proof.Machine

/-! ## Bytes of a frame on the link (R171) -/

/-- The ones of the eight data lines, and that of the ninth, LDP. -/
theorem linkOnes_eq (x : LinkByte) :
    linkOnes x = ((List.range 8).filter fun i => x.getLsbD i).length + (x.getLsbD 8).toNat := by
  rw [linkOnes, List.range_succ, List.filter_append, List.length_append]
  cases h : x.getLsbD 8 <;> simp only [List.filter_cons, List.filter_nil, h] <;> rfl

/-- LDP leaves the data lines as they are. -/
theorem getLsbD_or_parity (x : Byte) (i : Nat) :
    (x.zeroExtend 9 ||| 0x100 : LinkByte).getLsbD i = (x.getLsbD i || decide (i = 8)) := by
  have hldp : (0x100 : LinkByte) = BitVec.twoPow 9 8 := by decide
  rw [hldp, BitVec.getLsbD_or, BitVec.getLsbD_twoPow, BitVec.zeroExtend, BitVec.getLsbD_setWidth]
  by_cases hi : i < 9
  · simp [hi, eq_comm]
  · simp [hi, BitVec.getLsbD_of_ge x i (by omega)]
    omega

theorem linkOnes_or_parity (x : Byte) : linkOnes (x.zeroExtend 9 ||| 0x100) = linkOnes (x.zeroExtend 9) + 1 := by
  have hdata : ((List.range 8).filter fun i => (x.zeroExtend 9 ||| 0x100 : LinkByte).getLsbD i) =
      (List.range 8).filter fun i => (x.zeroExtend 9 : LinkByte).getLsbD i := by
    refine List.filter_congr fun i hi => ?_
    have hi : i < 8 := List.mem_range.1 hi
    rw [getLsbD_or_parity, BitVec.zeroExtend, BitVec.getLsbD_setWidth]
    simp [hi.ne, show i < 9 by omega]
  rw [linkOnes_eq, linkOnes_eq (x.zeroExtend 9), hdata, getLsbD_or_parity]
  simp

/-- A byte on the link has odd parity. -/
theorem linkParityOk_linkByte (x : Byte) : linkParityOk (linkByte x) = true := by
  simp only [linkByte]
  split
  next h => exact h
  next h =>
    simp only [linkParityOk, beq_iff_eq, linkOnes_or_parity] at h ⊢
    omega

/-- A byte on the link is read as that byte. -/
theorem linkData_linkByte (x : Byte) : linkData (linkByte x) = x := by
  simp only [linkByte, linkData]
  split
  · simp
  · refine BitVec.eq_of_getLsbD_eq fun i hi => ?_
    rw [BitVec.truncate, BitVec.getLsbD_setWidth, getLsbD_or_parity]
    simp [hi, hi.ne]

theorem map_linkData_linkByte (bytes : List Byte) : (bytes.map linkByte).map linkData = bytes := by
  rw [List.map_map, show linkData ∘ linkByte = id from funext linkData_linkByte, List.map_id]

/-! ## The header of a COMMAND frame (R172, R181) -/

theorem ofByte_code (target : BayField) : BayField.ofByte (BayField.code target) = some target := by
  rcases target with (_ | _) | _ <;> rfl

/-- The payload's length in a header. -/
theorem field_frameHeader_length (kind : Byte) (target : BayField) {n : Nat} (hn : n ≤ 512) :
    field (frameHeader kind target n) 2 2 = n := by
  show beNat (beBytes 2 n) = n
  rw [beNat_beBytes]
  exact Nat.mod_eq_of_lt (by omega)

section
variable (target : BayField) (payload : List Byte)

theorem take_commandFrame : (((frameHeader 0x01 target payload.length ++ payload).map linkByte).take 4).map linkData =
    frameHeader 0x01 target payload.length := by
  rw [← List.map_take, map_linkData_linkByte]
  exact List.take_left' rfl
theorem drop_commandFrame : ((frameHeader 0x01 target payload.length ++ payload).map linkByte).drop 4 = payload.map linkByte := by
  rw [← List.map_drop]
  exact congrArg _ (List.drop_left' rfl)

theorem commandHeader_frameHeader (hlength : payload.length ≤ 512) :
    CommandHeader ((frameHeader 0x01 target payload.length ++ payload).map linkByte) target where
  long := by simp [frameHeader, beBytes_length]
  parity x hx := by
    obtain ⟨y, -, rfl⟩ := List.mem_map.1 (List.mem_of_mem_take hx)
    exact linkParityOk_linkByte y
  kind := by rw [take_commandFrame]; rfl
  bayField := by rw [take_commandFrame]; exact ofByte_code target
  fits := by rwa [take_commandFrame, field_frameHeader_length _ _ hlength]

/-- A COMMAND frame that arrives whole brings the command that its payload spells (R175). -/
theorem frameVerdict_commandFrame (hlength : payload.length ≤ 512) {i : Instr} (hi : commandInstr target payload = some i) :
    frameVerdict ((frameHeader 0x01 target payload.length ++ payload).map linkByte) .short = .command i := by
  refine frameVerdict_spells (commandHeader_frameHeader target payload hlength) _ ?_ ?_
  · rw [take_commandFrame, drop_commandFrame, field_frameHeader_length _ _ hlength]
    refine payloadError_none (fun x hx => ?_) (List.length_map _)
    obtain ⟨y, -, rfl⟩ := List.mem_map.1 hx
    exact linkParityOk_linkByte y
  · rwa [drop_commandFrame, map_linkData_linkByte]

end

/-! ## The payload of a COMMAND frame (R175, R181) -/

section
variable {code : Byte} {params : List Byte} {n : Nat} {rule : FieldRule} (hform : commandForm code = some (n, rule))
  (hlength : params.length = n)
include hform hlength

theorem commandAccepted_of {target : BayField} (hfield : fieldAllowed rule target params = true)
    (hdefined : paramsDefined code params = true) : commandAccepted target (code :: params) = true := by
  simp [commandAccepted, hform, hlength, hfield, hdefined]

theorem commandInstr_bay {b : BayId} (hfield : fieldAllowed rule (.bay b) params = true)
    (hdefined : paramsDefined code params = true) :
    commandInstr (.bay b) (code :: params) = bayInstr b code.toNat params := by
  simp only [commandInstr, commandAccepted_of hform hlength hfield hdefined, if_true]
  simp [field, beNat]

theorem commandInstr_device (hfield : fieldAllowed rule .device params = true)
    (hdefined : paramsDefined code params = true) :
    commandInstr .device (code :: params) = deviceInstr code.toNat params := by
  simp only [commandInstr, commandAccepted_of hform hlength hfield hdefined, if_true]
  simp [field, beNat]

end

/-- An address in three bytes is read back. -/
theorem lbaOf_beBytes (lba : BitVec 24) (rest : List Byte) : lbaOf (beBytes 3 lba.toNat ++ rest) = lba := by
  have hfield : field (beBytes 3 lba.toNat ++ rest) 0 3 = beNat (beBytes 3 lba.toNat) :=
    congrArg beNat (List.take_left' (beBytes_length ..))
  rw [lbaOf, hfield, beNat_beBytes, Nat.mod_eq_of_lt (by exact lba.isLt), BitVec.ofNat_toNat, BitVec.setWidth_eq]

/-- A command with an address, and a count or none behind it. -/
theorem commandInstr_lba {b : BayId} {code : Byte} {lba : BitVec 24} {rest : List Byte} (command : BitVec 24 → Instr)
    (hform : commandForm code = some (3 + rest.length, .bays))
    (hdefined : paramsDefined code (beBytes 3 lba.toNat ++ rest) = true)
    (hspells : bayInstr b code.toNat (beBytes 3 lba.toNat ++ rest) = some (command (lbaOf (beBytes 3 lba.toNat ++ rest)))) :
    commandInstr (.bay b) (code :: (beBytes 3 lba.toNat ++ rest)) = some (command lba) := by
  rw [commandInstr_bay hform (by rw [List.length_append, beBytes_length]) rfl hdefined, hspells, lbaOf_beBytes]

/-- A table's length in two bytes is read back. -/
theorem field_length (id : Byte) (length : BitVec 16) : field (id :: beBytes 2 length.toNat) 1 2 = length.toNat := by
  show beNat (beBytes 2 length.toNat) = _
  rw [beNat_beBytes]
  exact Nat.mod_eq_of_lt length.isLt

theorem ofNat_field_length (id : Byte) (length : BitVec 16) :
    BitVec.ofNat 16 (field (id :: beBytes 2 length.toNat) 1 2) = length := by
  rw [field_length, BitVec.ofNat_toNat, BitVec.setWidth_eq]

/-- What LOAD TABLE asks of the length (R183). -/
theorem paramsDefined_loadTable {id : Byte} (hid : 1 ≤ id.toNat ∧ id.toNat ≤ 4) {length : BitVec 16}
    (hlength : (decide (1 ≤ length.toNat) && decide (length.toNat ≤ 2048)) = true) :
    paramsDefined 0x40 (id :: beBytes 2 length.toNat) = true := by
  have hfield : field (id :: beBytes 2 length.toNat) 0 1 = id.toNat := by simp [field, beNat]
  simpa [paramsDefined, field_length, hfield, hid] using hlength

/-- The option byte of FORMAT is read back, and holds no other bits (R150, R181). -/
theorem optionByte_bits (bit0 bit1 bit2 : Bool) : (optionByte bit0 bit1 bit2).toNat < 8 ∧
    (optionByte bit0 bit1 bit2).getLsbD 0 = bit0 ∧ (optionByte bit0 bit1 bit2).getLsbD 1 = bit1 ∧
    (optionByte bit0 bit1 bit2).getLsbD 2 = bit2 := by
  revert bit0 bit1 bit2
  decide

theorem commandInstr_format (b : BayId) (heads : Byte) (certify useList keepGrown : Bool) :
    commandInstr (.bay b) [0x15, heads, optionByte certify useList keepGrown] =
      some (.format b heads certify useList keepGrown) := by
  obtain ⟨hdefined, hcertify, huseList, hkeepGrown⟩ := optionByte_bits certify useList keepGrown
  have hoptions : paramsDefined 0x15 [heads, optionByte certify useList keepGrown] = true := by
    simpa [paramsDefined, field, beNat] using hdefined
  calc commandInstr (.bay b) [0x15, heads, optionByte certify useList keepGrown]
      = some (.format b heads ((optionByte certify useList keepGrown).getLsbD 0)
          ((optionByte certify useList keepGrown).getLsbD 1) ((optionByte certify useList keepGrown).getLsbD 2)) :=
        commandInstr_bay rfl rfl rfl hoptions
    _ = some (.format b heads certify useList keepGrown) := by rw [hcertify, huseList, hkeepGrown]

/-- The payload of a command spells that command (R175, R181). -/
theorem commandInstr_of_commandFrame {i : Instr} {target : BayField} {payload : List Byte} (hwf : i.wf = true)
    (hframe : commandFrame i = some (target, payload)) : payload.length ≤ 5 ∧ commandInstr target payload = some i := by
  cases i
  case read b lba count =>
    cases hframe
    exact ⟨Nat.le_refl 5, commandInstr_lba (fun x => .read b x count) rfl rfl rfl⟩
  case write b lba count =>
    cases hframe
    exact ⟨Nat.le_refl 5, commandInstr_lba (fun x => .write b x count) rfl rfl rfl⟩
  case verify b lba count =>
    cases hframe
    exact ⟨Nat.le_refl 5, commandInstr_lba (fun x => .verify b x count) rfl rfl rfl⟩
  case seek b lba =>
    cases hframe
    exact ⟨Nat.le_succ 4, commandInstr_lba (rest := []) (fun x => .seek b x) rfl rfl rfl⟩
  case reassign b lba =>
    cases hframe
    exact ⟨Nat.le_succ 4, commandInstr_lba (rest := []) (fun x => .reassign b x) rfl rfl rfl⟩
  case format b heads certify useList keepGrown =>
    cases hframe
    exact ⟨by simp, commandInstr_format b heads certify useList keepGrown⟩
  case eject b force =>
    cases hframe
    cases force <;> exact ⟨by simp, rfl⟩
  case flushRecord | prevent | allow | reportCartridge | reportCapacity | reportDefects | standbyNow | wake | requestSense | peek
      | readTableMode | readTableProfile | readTableZone | readTableDefectList | identify =>
    cases hframe
    exact ⟨by simp, rfl⟩
  case abort target =>
    cases hframe
    cases target <;> exact ⟨by simp, rfl⟩
  case loadTableMode length =>
    cases hframe
    exact ⟨Nat.le_succ 4, (commandInstr_device rfl rfl rfl (paramsDefined_loadTable (by decide) hwf)).trans
      (congrArg (fun x => some (Instr.loadTableMode x)) (ofNat_field_length 1 length))⟩
  case loadTableProfile length =>
    cases hframe
    exact ⟨Nat.le_succ 4, (commandInstr_device rfl rfl rfl (paramsDefined_loadTable (by decide) hwf)).trans
      (congrArg (fun x => some (Instr.loadTableProfile x)) (ofNat_field_length 2 length))⟩
  case loadTableZone b length =>
    cases hframe
    exact ⟨Nat.le_succ 4, (commandInstr_bay rfl rfl rfl (paramsDefined_loadTable (by decide) hwf)).trans
      (congrArg (fun x => some (Instr.loadTableZone b x)) (ofNat_field_length 3 length))⟩
  case loadTableDefectList b length =>
    cases hframe
    exact ⟨Nat.le_succ 4, (commandInstr_bay rfl rfl rfl (paramsDefined_loadTable (by decide) hwf)).trans
      (congrArg (fun x => some (Instr.loadTableDefectList b x)) (ofNat_field_length 4 length))⟩
  all_goals cases hframe

/-! ## Commands are taken from frames alone (R175, R181) -/

theorem bayInstr_commandFrame {b : BayId} {code : Nat} {params : List Byte} {i : Instr} (h : bayInstr b code params = some i) :
    (commandFrame i).isSome = true := by
  unfold bayInstr at h
  (repeat' split at h) <;> cases h <;> rfl
theorem deviceInstr_commandFrame {code : Nat} {params : List Byte} {i : Instr} (h : deviceInstr code params = some i) :
    (commandFrame i).isSome = true := by
  unfold deviceInstr at h
  (repeat' split at h) <;> cases h <;> rfl

theorem commandInstr_commandFrame {target : BayField} {payload : List Byte} {i : Instr}
    (h : commandInstr target payload = some i) : (commandFrame i).isSome = true := by
  unfold commandInstr at h
  split at h
  · cases target with
    | bay b => exact bayInstr_commandFrame h
    | device => exact deviceInstr_commandFrame h
  · cases h

/-- A frame brings only what a COMMAND payload spells. -/
theorem frameVerdict_eq_command {bytes : List LinkByte} {ended : Detail} {i : Instr} (h : frameVerdict bytes ended = .command i) :
    ∃ target payload, commandInstr target payload = some i := by
  simp only [frameVerdict] at h
  (repeat' split at h) <;> cases h
  exact ⟨_, _, ‹_›⟩

/-- The row of a command is that of the frame which brings it. -/
theorem exec_commandFrame {i : Instr} (h : (commandFrame i).isSome = true) (s : State) :
    exec i s = s.frame i fun s => s.hostCommand i := by
  cases i
  case resetAsserted | endOfReset | powerFailLatch | linkReset | linkResetRelease | ldirChange | inboundFrameError | dataOutFrame
      | outboundFrameSent | linkTimeout | indexEdge | powerOnWatchEnd | firstIndexTimerExpiry | gapTimerExpiry
      | spinUpTimerExpiry | recoveryTimerExpiry | brakeTimerExpiry | stopTimerExpiry | servoSample | loadTimerExpiry
      | seekTimerExpiry | recalibrateTimerExpiry | positionerUnloadTimerExpiry | retractTimerExpiry | parkSensorChange
      | presentAccepted | presentLost | writeProtectChange | lockSenseEngaged | lockSenseOpen | ejectButtonPress
      | settleTimerExpiry | pulseEnd | lockConfirmExpiry | releaseConfirmExpiry | idFieldRead | idSearchAttemptEnd
      | dataFieldRead | dataFieldWritten | formatTrackWritten | visitFieldCountEnd | idleUnloadTimerExpiry
      | standbyTimerExpiry | ledFlashToggle => cases h
  all_goals rfl

/-- What is left of the frame before makes no difference to the row of a frame (R172). -/
theorem exec_frameOver {i : Instr} {s : State} (htakes : s.takesFrame = true)
    (h : (commandFrame i).isSome = true ∨ (∃ frame, i = .inboundFrameError frame ∧ frameInError frame = true) ∨
      ∃ target declared payload, i = .dataOutFrame target declared payload) : exec i s = exec i s.frameOver := by
  rcases h with hcommand | ⟨frame, rfl, herror⟩ | ⟨target, declared, payload, rfl⟩
  · rw [exec_commandFrame hcommand, exec_commandFrame hcommand, s.frame_over _ _ htakes]
  · show execInboundFrameError frame s = execInboundFrameError frame s.frameOver
    simp only [execInboundFrameError, herror, if_true]
    exact s.frame_over _ _ htakes
  · exact s.frame_over _ _ htakes

end Sys2Proof.Machine

namespace Sys2Proof

open Machine

/-- Settles O17: the payload of each command spells it, a frame's bytes give its payload back, and the row of each command is
that of a frame. -/
theorem commandFramesReadBack : Obligations.CommandFramesReadBack := by
  refine ⟨fun i target payload hwf hframe => ?_, fun i s htakes hrow => exec_frameOver htakes hrow,
    fun bytes ended i hverdict => ?_⟩
  · obtain ⟨hlength, hspells⟩ := commandInstr_of_commandFrame hwf hframe
    have hrow := exec_commandFrame (i := i) (by rw [hframe]; rfl)
    refine ⟨hlength, frameVerdict_commandFrame target payload (by omega) hspells, fun s => ⟨fun htakes => ?_, fun hway => ?_⟩⟩
    · exact (hrow s).trans (s.frame_taken _ _ htakes)
    · exact (hrow s).trans (s.frame_ends _ _ hway)
  · obtain ⟨target, payload, hspells⟩ := frameVerdict_eq_command hverdict
    exact commandInstr_commandFrame hspells

end Sys2Proof
